-- ==== Sys2Proof/Word.lean ====
section
/-! DEFINITION. The word types of the engine (spec/00_scope.md R4: little-endian structures of bytes). -/
namespace Sys2Proof

/-- One byte. -/
abbrev W8 := BitVec 8
/-- A 16-bit field. -/
abbrev W16 := BitVec 16
/-- A 32-bit register word. -/
abbrev W32 := BitVec 32
/-- A 64-bit register or descriptor word. -/
abbrev W64 := BitVec 64

end Sys2Proof
end

