-- ==== Sys2Proof/Syntax.lean ====
section
/-! DEFINITION. The commands of the engine: one constructor per row of spec/opcode_table.json, in the table's
order, with the operands that the row's rule gives it. An outcome that only the installation or the silicon can
give (a reading, a received frame, a test result, elapsed cycles) is an operand. -/
namespace Sys2Proof

/-- A cluster site C(x,y) of the wafer (R8). -/
structure Site where
  x : Fin 160
  y : Fin 160
  deriving DecidableEq, Repr

/-- Core C(x,y).n (R8). -/
structure CoreRef where
  site : Site
  n : Fin 16
  deriving DecidableEq, Repr

/-- A function, 0 to 63 (R9). -/
abbrev Func := Fin 64
/-- A reticle field by its index 8y + x (R223). -/
abbrev FieldIx := Fin 64
/-- A memory stack and its controller (R9). -/
abbrev StackIx := Fin 32
/-- An Ethernet port E0 to E15. -/
abbrev EPort := Fin 16
/-- A host port H0 or H1. -/
abbrev HPort := Fin 2
/-- A version group (R283). -/
abbrev VGroup := Fin 256
/-- A general register g0 to g15 (R87). -/
abbrev GReg := Fin 16
/-- A counter k0 to k3 (R87). -/
abbrev KReg := Fin 4
/-- A queue port q0 to q7 (R87). -/
abbrev QPort := Fin 8
/-- A steering unit of a cluster (R143). -/
abbrev SteerIx := Fin 4
/-- A transfer slot of a cluster (R135). -/
abbrev SlotIx := Fin 8
/-- A stream context (R349). -/
abbrev StreamIx := Fin 1024

/-- ALU functions (R96). -/
inductive AluFn where
  | add | sub | and | or | xor | shl | shr | sra | mul | slt | sltu
  deriving DecidableEq, Repr

/-- Branch conditions (R96). -/
inductive Cond where
  | eq | ne | lt | ge | ltu | geu | always
  deriving DecidableEq, Repr

/-- VOP functions (R107). -/
inductive VopFn where
  | add | sub | mul | max | min | div | sqrt | abs | neg | scale | cmpgt | select
  deriving DecidableEq, Repr

/-- A taken descriptor: absolute ring number and ring index (R311). -/
structure DescRef where
  ring : Fin 1048576
  index : W32
  deriving DecidableEq, Repr

/-- Which unit of a core completes an instruction (R112). -/
inductive CoreUnit where
  | matrix | vector
  deriving DecidableEq, Repr

/-- A direction of a bulk-mesh router port (R225, R241). -/
inductive Dir where
  | north | east | south | west
  deriving DecidableEq, Repr

/-- A router output: a direction, the local cluster, or the crust on an edge router. -/
inductive OutPort where
  | dir (d : Dir)
  | locl
  | crust
  deriving DecidableEq, Repr

/-- The receiving side of an on-wafer link: the router and the port it enters by (R192). -/
structure LinkEnd where
  site : Site
  port : Dir
  deriving DecidableEq, Repr

/-- What a controller's check code finds on a line (R259). -/
inductive LineFound where
  | clean | corrected | uncorrectable
  deriving DecidableEq, Repr

/-- One sample row data segment of an ST 2110-20 packet (R348, R351). -/
structure RowSeg where
  line : Nat
  second : Bool
  pixel : Nat
  bytes : List W8
  deriving DecidableEq, Repr

/-- An Ethernet frame that reaches a port in media mode (R347): its length, tag, UDP destination and RTP parts. -/
structure MediaFrame where
  bytes : Nat
  vlan : Option (BitVec 12)
  v6 : Bool
  dst : List W8
  dport : W16
  pt : BitVec 7
  seq : W32
  ts : W32
  marker : Bool
  segs : List RowSeg
  deriving DecidableEq, Repr

/-- An Announce message (R355, R356): the fields that the default best master clock algorithm compares, in its order. -/
structure Announce where
  domain : BitVec 7
  v6 : Bool
  prio1 : W8
  clockClass : W8
  accuracy : W8
  variance : W16
  prio2 : W8
  identity : W64
  steps : W16
  logInterval : Fin 5
  deriving DecidableEq, Repr

/-- The message part of a Tow DATA frame, offsets 38 onwards (R368, R369). -/
structure TowMsg where
  msg : W8
  srcEng : Fin 16
  dstEng : Fin 16
  vgroup : VGroup
  lane : Bool
  hops : Fin 16
  step : W32
  arg : W64
  payload : List W8
  deriving DecidableEq, Repr

/-- The link part that every Tow frame carries, offsets 12 to 33 (R368). -/
structure TowHead where
  etype : W16
  ver : W8
  nak : Bool
  seq : W32
  ack : W32
  credReq0 : W16
  credReq1 : W16
  credAns0 : W16
  credAns1 : W16
  deriving DecidableEq, Repr

/-- A lane exception (R421): network, field, link, direction, group and physical lane. -/
structure LaneEx where
  net : Nat
  fld : Nat
  link : Nat
  dir : Nat
  group : Nat
  lane : Nat
  deriving DecidableEq, Repr

/-- What a bring-up phase finds (R420, R424 to R427): whether it completes, whether the service map verifies, the
sites that fail self-test, the lanes that fail a link test, the on-wafer links that still fail after the last window, the E ports that
come up down, and the 64 KiB units proofing excludes. (DESIGN CHOICE, log 7; DEDUCED, log 127) -/
structure PhaseFinding where
  ok : Bool
  serviceMapGood : Bool
  failedSites : List Site
  failedLanes : List LaneEx
  failedLinks : List LinkEnd
  portsDown : List EPort
  excluded : List (StackIx × Nat)
  deriving DecidableEq, Repr

/-- What the retraining of a link finds (R427, R429): the lanes that fail, and whether the link works. (DESIGN CHOICE, log 7) -/
structure LinkFinding where
  failed : List LaneEx
  good : Bool
  deriving DecidableEq, Repr

/-- A PLL of the engine (R18, R442): of a field, of memory controller k, of a port (E0 to E15, H0, H1), or the reference of all. -/
inductive Pll where
  | compute (f : FieldIx)
  | fabric (f : FieldIx)
  | memory (k : Fin 32)
  | port (i : Fin 18)
  | reference
  deriving DecidableEq, Repr

/-- A temperature sensor: sensor i of a field, or sensor s of a crust block (R464). -/
inductive Sensor where
  | field (f : FieldIx) (i : Fin 16)
  | crust (k : Fin 16) (i : Fin 4)
  deriving DecidableEq, Repr

/-- One of the two high-voltage feeds (R444). -/
inductive Feed where
  | a | b
  deriving DecidableEq, Repr

/-- An SPDM connection: the DOE of a physical function, or the MCTP endpoint (R494). -/
inductive Conn where
  | doe (h : HPort)
  | mctp
  deriving DecidableEq, Repr

/-- Where a management command comes from (R502). -/
inductive MgmtSource where
  | redfishAdministrator | redfishOperator | redfishReadOnly | mctp
  deriving DecidableEq, Repr

/-- How a host completion fails (R331). -/
inductive HostFail where
  | unsupported | translation
  deriving DecidableEq, Repr

/-- The commands. -/
inductive Instr where
  | blockDecision (c : CoreRef)
  | alu (c : CoreRef) (fn : AluFn) (gd ga gb : GReg)
  | addi (c : CoreRef) (gd ga : GReg) (imm : BitVec 18)
  | andi (c : CoreRef) (gd ga : GReg) (imm : BitVec 18)
  | ori (c : CoreRef) (gd ga : GReg) (imm : BitVec 18)
  | xori (c : CoreRef) (gd ga : GReg) (imm : BitVec 18)
  | lui (c : CoreRef) (gd : GReg) (imm : BitVec 18)
  | slti (c : CoreRef) (gd ga : GReg) (imm : BitVec 18)
  | ldw (c : CoreRef) (gd ga : GReg) (imm : BitVec 18)
  | stw (c : CoreRef) (gd ga : GReg) (imm : BitVec 18)
  | br (c : CoreRef) (cond : Cond) (ga gb : GReg) (off : BitVec 15)
  | endBlock (c : CoreRef)
  | done (c : CoreRef)
  | pop (c : CoreRef) (g : GReg) (q : QPort)
  | push (c : CoreRef) (g : GReg) (q : QPort)
  | peek (c : CoreRef) (g : GReg) (q : QPort)
  | kset (c : CoreRef) (g : GReg) (k : KReg) (imm : W16)
  | kadd (c : CoreRef) (g : GReg) (k : KReg) (imm : W16)
  | kget (c : CoreRef) (g : GReg) (k : KReg)
  | setf (c : CoreRef) (fromReg : Bool) (fa fb : BitVec 5) (g : GReg)
  | rdfl (c : CoreRef) (gd : GReg)
  | bar (c : CoreRef) (index : BitVec 10)
  | settle (c : CoreRef)
  | xfer (c : CoreRef) (gd : GReg)
  | xferAccept (s : Site)
  | mma (c : CoreRef) (ga gb : GReg) (tile : BitVec 12) (acc : Bool)
  | mms (c : CoreRef) (ga gb : GReg) (tile : BitVec 12) (acc : Bool)
  | mmp (c : CoreRef) (ga gb : GReg) (tile : BitVec 12) (acc : Bool)
  | tzero (c : CoreRef) (tile : BitVec 12)
  | vop (c : CoreRef) (fn : VopFn) (gd ga gb : GReg) (spec : BitVec 5)
  | vcvt (c : CoreRef) (gd ga gb : GReg) (spec1 spec2 : BitVec 5) (sat sup : Bool)
  | spill (c : CoreRef) (gd : GReg) (tile : BitVec 12) (init : Bool)
  | illegal (c : CoreRef)
  | passStart (c : CoreRef)
  | unitComplete (c : CoreRef) (u : CoreUnit)
  | stealChunk (c : CoreRef)
  | mmsApply (c : CoreRef)
  | branchFire (s : Site) (u : SteerIx)
  | mergeFire (s : Site) (u : SteerIx)
  | rateRepeatFire (s : Site) (u : SteerIx)
  | rateRepeatEmit (s : Site) (u : SteerIx)
  | rateSkipFire (s : Site) (u : SteerIx)
  | rateSkipDiscard (s : Site) (u : SteerIx)
  | carryEnter (s : Site) (u : SteerIx)
  | carryLoop (s : Site) (u : SteerIx)
  | tokenSend (s : Site) (q : Fin 128) (n : Fin 8)
  | token (id : Nat)
  | creditReturn (s : Site) (q : Fin 128)
  | creditReceive (s : Site) (q : Fin 128)
  | steerStall (s : Site) (cycles : Nat)
  | launchComplete (f : Func) (cfg : Fin 256)
  | transferComplete (s : Site) (slot : SlotIx)
  | rdReq (id : Nat)
  | rdData (id : Nat)
  | wr (id : Nat)
  | wrAck (id : Nat)
  | unreach (id : Nat)
  | cfgBody (c : CoreRef) (localData : Bool) (addr len : Nat)
  | flitReceive (l : LinkEnd) (crcGood : Bool)
  | linkAlivePulse (l : LinkEnd)
  | portDead (l : LinkEnd) (cycles : Nat)
  | outputGrant (s : Site) (o : OutPort)
  | runoutMove (id : Nat) (cycles : Nat)
  | tableInstall
  | darkBitArrive (s : Site)
  | exposedTransferTimeout (s : Site) (slot : SlotIx)
  | inflightQuietReset (f : Func)
  | markOutOfService (f : Func) (fld : FieldIx)
  | returnToService (f : Func) (fld : FieldIx)
  | fieldFabricReset (f : Func) (fld : FieldIx)
  | barrierRelease (f : Func) (cfg : Fin 256) (index : BitVec 10)
  | fold (id : Nat)
  | foldSegmentSum (s : Site) (f : Func) (tree : Fin 1024) (round : Bool) (seg : Fin 65536)
  | ttInjectionEntry (s : Site) (entry : Fin 512)
  | ttForward (id : Nat)
  | scrub (st : StackIx) (line : Nat) (found : LineFound)
  | liftPrefetch (st : StackIx) (slot : Fin 64)
  | migrationWindowEnd
  | migrationMove (page : Fin 2097152)
  | allocPage (f : Func)
  | freePage (f : Func)
  | setPage (f : Func)
  | sealGroup (f : Func) (group : VGroup)
  | openGroup (f : Func) (group : VGroup)
  | memPageSelWrite (f : Func) (value : W32)
  | bar4Read (f : Func) (off len : Nat)
  | bar4Write (f : Func) (off : Nat) (bytes : List W8)
  | barBadAccess (f : Func) (bar : Fin 6) (isWrite : Bool) (off size : Nat)
  | registerWrite (f : Func) (off : Fin 67108864) (value : W32)
  | counterLowRead (f : Func) (off : Fin 67108864)
  | counterClear (f : Func) (off : Fin 67108864)
  | hifLock (f : Func)
  | hifFuncRingsWrite (f target : Func) (value : W64)
  | ringRead (f : Func)
  | ringWrite (f : Func)
  | doorbell (f : Func) (ring : Fin 1048576) (value : W64)
  | descriptorTake (ring : Fin 1048576) (fail : Option HostFail)
  | nop (d : DescRef)
  | fence (d : DescRef)
  | copy (d : DescRef) (fail : Option HostFail)
  | copyDone (d : DescRef)
  | configLoad (d : DescRef)
  | drainEnd (f : Func) (cfg : Fin 256)
  | drainTimeout (f : Func) (cfg : Fin 256)
  | configLoadDone (f : Func) (cfg : Fin 256)
  | unload (d : DescRef)
  | launch (d : DescRef)
  | poolDispatch (d : DescRef)
  | frameBind (d : DescRef)
  | frameUnbind (d : DescRef)
  | stepBegin (d : DescRef)
  | stepCommit (d : DescRef)
  | digest (d : DescRef)
  | digestDone (d : DescRef)
  | quiesce (d : DescRef)
  | quiesceComplete (d : DescRef)
  | resume (d : DescRef)
  | remap (d : DescRef)
  | eventWait (d : DescRef)
  | eventWaitCheck (d : DescRef)
  | eventWaitDeadline (d : DescRef)
  | timestamp (d : DescRef)
  | flr (f : Func)
  | hotReset (h : HPort)
  | vfEnableClear (h : HPort)
  | partitionReset (f target : Func)
  | assign (f target : Func)
  | release (f target : Func)
  | resetFlushDone (f : Func)
  | resetFlushLimit (f : Func)
  | resetClearDone (f : Func)
  | mediaPacket (p : EPort) (m : MediaFrame)
  | ptpSync (p : EPort) (offset : Int)
  | ptpAnnounceTimeout (p : EPort)
  | ptpHoldmax (p : EPort)
  | slotDecide (c : StreamIx)
  | slotRunStart (c : StreamIx)
  | slotStartArrive (s : Site)
  | ancTransmit (c : StreamIx)
  | mediaCtxWrite (f : Func) (c : StreamIx) (bytes : List W8)
  | mediaPortCfgWrite (f : Func) (p : EPort) (value : W32)
  | mediaLock (f : Func)
  | towDataFrame (p : EPort) (fcsGood : Bool) (h : TowHead) (m : TowMsg)
  | towLinkFrame (p : EPort) (fcsGood : Bool) (h : TowHead)
  | towAckSend (p : EPort)
  | towLinkDown (p : EPort)
  | towLinkUp (p : EPort)
  | towForward (p : EPort)
  | towRacc (p : EPort)
  | towRaccAck (p : EPort)
  | racc (id : Nat)
  | raccAck (id : Nat)
  | towAckTimeout (mtag : W32)
  | towDone (p : EPort)
  | paramUpdate (g : VGroup)
  | towParam (p : EPort)
  | towParamAck (p : EPort)
  | towVerdict (p : EPort)
  | stepDeadline (g : VGroup)
  | towVgLoad (f : Func) (g : VGroup)
  | towVgClear (f : Func) (g : VGroup)
  | towLock (f : Func)
  | crumbCompare (s : Site) (checkerBits : List W8)
  | crumbSecondCheck (s : Site) (secondBits : List W8)
  | crumbUndecided (s : Site)
  | integRateLow (fld : FieldIx) (checked compared : Nat)
  | pairCompare (s : Site)
  | pairWaitTimeout (s : Site)
  | quarantine (f : Func)
  | returnToSpare (f : Func)
  | integLinSelWrite (f : Func) (value : W32)
  | linkRetrain (l : LinkEnd)
  | linkRetrainEnd (l : LinkEnd) (found : LinkFinding)
  | serviceMapWrite
  | bringupStart
  | bringupPhaseEnd (found : PhaseFinding)
  | clockStep (fld : FieldIx)
  | fabricBin (f : Func)
  | fabricChangeDone (fld : FieldIx)
  | pllLockLoss (p : Pll)
  | pllRelock (p : Pll)
  | feedPresent (x : Feed) (decivolts : Nat)
  | feedLost (x : Feed) (decivolts : Nat)
  | capAdjust (watts : Nat)
  | capGateField (watts : Nat)
  | capEnd
  | capRestoreField
  | quadBusLoss (quads : BitVec 4)
  | supplyLinkLoss
  | supplyLinkRestore
  | powerUpStep
  | regionShort (fld : FieldIx)
  | regionOn (f : Func)
  | interlockOpen (x : Feed)
  | inletTrip (x : Feed)
  | inletReclose (x : Feed)
  | sensorSample (readings : List (Sensor × Option Int))
  | snowploughStep (fld : FieldIx)
  | coolantSample (inlet outlet : Int) (flow : Nat)
  | pdmSample (s : Site) (monitor : Bool) (raw : W16)
  | thermalModelUpdate (fld : FieldIx) (watts : Nat)
  | rewax
  | rewaxNow (f : Func)
  | planApply (fld : FieldIx)
  | voltageStep (fld : FieldIx)
  | hoursUpdate (hours : W32)
  | stage (f : Func)
  | cancel (f : Func) (ty : Fin 16)
  | restoreRpf (counters : List W32) (count : W64)
  | recoveryImage (image : List W8)
  | signingDone
  | getVersion (c : Conn)
  | getCapabilities (c : Conn)
  | negotiateAlgorithms (c : Conn)
  | getDigests (c : Conn)
  | getCertificate (c : Conn) (slot : W8) (off len : W16)
  | challenge (c : Conn) (slot : W8) (nonce : List W8)
  | getMeasurements (c : Conn) (op : W8) (signed : Bool) (nonce : List W8)
  | respondIfReady (c : Conn)
  | report (c : Conn) (nonce : List W8)
  | slhchain (c : Conn)
  | resetCold (src : MgmtSource)
  | resetWarm (src : MgmtSource)
  | fullRestart (src : MgmtSource)
  | powerOff (src : MgmtSource)
  | powerOn (src : MgmtSource)
  | setAutoOn (src : MgmtSource) (on : Bool)
  | setReserve (src : MgmtSource) (value : W8)
  | ptpAnnounce (p : EPort) (a : Announce)
  | mediaLinkDown (p : EPort)
  | mediaLinkUp (p : EPort)
  | perstDeassert (h : HPort)
  | vfEnableSet (h : HPort) (numVfs : Fin 32)
  | atsInvalidate (f : Func) (addr : W64) (pasid : BitVec 20)
  | completionTimeout (d : DescRef)
  | foldCreditReceive (s : Site) (f : Func) (tree : Fin 1024)
  | i3cEntdaa (addr : BitVec 7)
  | mgmtPortLink (up : Bool)
  deriving DecidableEq, Repr

end Sys2Proof
end

