-- ==== Sys2Proof/Decode.lean ====
section
/-! DEFINITION. The command that a word of the table spells: no row of spec/opcode_table.json gives bits, so none. -/
namespace Sys2Proof

/-- The command that `w` spells by the bits of the rows that give bits; no row gives any. -/
def decodeTableWord (_nbits _w : Nat) : Option Instr := none

end Sys2Proof
end

