-- ==== Sys2Proof/Machine/Tab.lean ====
section
/-! DEFINITION. Sparse tables and byte memories: lists of key and value in one canonical form (keys strictly rising,
no entry equal to what an unlisted key reads as). -/
namespace Sys2Proof.Machine

/-- A sparse table by natural-number key. -/
abbrev Tab (α : Type) := List (Nat × α)

/-- The value at key `i`; an unlisted key reads as `d`. -/
def Tab.get {α : Type} (d : α) : Tab α → Nat → α
  | [], _ => d
  | (k, v) :: t, i => if i = k then v else Tab.get d t i

/-- `t` without key `i`. -/
def Tab.del {α : Type} : Tab α → Nat → Tab α
  | [], _ => []
  | (k, v) :: t, i => if i = k then Tab.del t i else (k, v) :: Tab.del t i

/-- `t` with `v` listed at key `i`, in its place. -/
def Tab.ins {α : Type} : Tab α → Nat → α → Tab α
  | [], i, v => [(i, v)]
  | (k, w) :: t, i, v =>
    if i = k then (i, v) :: t else if i < k then (i, v) :: (k, w) :: t else (k, w) :: Tab.ins t i v

/-- `t` with value `v` at key `i`: writing the default removes the entry. -/
def Tab.put {α : Type} [DecidableEq α] (d : α) (t : Tab α) (i : Nat) (v : α) : Tab α :=
  if v = d then Tab.del t i else Tab.ins t i v

/-- `t` without the keys that `p` selects. -/
def Tab.drop {α : Type} (p : Nat → Bool) (t : Tab α) : Tab α := t.filter (fun e => !p e.1)

/-- The canonical form of a table with default `d`. -/
abbrev Tab.wf {α : Type} (d : α) (t : Tab α) : Prop :=
  t.Pairwise (fun a b => a.1 < b.1) ∧ ∀ e ∈ t, e.2 ≠ d

/-- A byte memory; an unlisted byte reads as zero (R119, R141, R289; host memory by the model's choice). -/
abbrev Mem := Tab W8

/-- One byte. (DESIGN CHOICE, log 4) -/
def Mem.get (m : Mem) (a : Nat) : W8 := Tab.get 0#8 m a

/-- Write one byte. -/
def Mem.put (m : Mem) (a : Nat) (v : W8) : Mem := Tab.put 0#8 m a v

/-- The canonical form of a memory. -/
abbrev Mem.wf (m : Mem) : Prop := Tab.wf (0#8) m

/-- `n` bytes from address `a`. -/
def Mem.read (m : Mem) (a : Nat) : Nat → List W8
  | 0 => []
  | n + 1 => Mem.get m a :: Mem.read m (a + 1) n

/-- The bytes `bs` from address `a`, in rising order. -/
def Mem.write (m : Mem) (a : Nat) : List W8 → Mem
  | [] => m
  | b :: bs => Mem.write (Mem.put m a b) (a + 1) bs

/-- Bytes `a` to `a + n - 1` read as zero. -/
def Mem.zero (m : Mem) (a n : Nat) : Mem := Tab.drop (fun k => a ≤ k && k < a + n) m

/-- The number that little-endian bytes form (R4). -/
def leNat : List W8 → Nat
  | [] => 0
  | b :: bs => b.toNat + 256 * leNat bs

/-- The `n` little-endian bytes of a number (R4). -/
def leBytes : Nat → Nat → List W8
  | 0, _ => []
  | n + 1, v => BitVec.ofNat 8 v :: leBytes n (v / 256)

/-- Bits [hi:lo] of a number. -/
def bits (v hi lo : Nat) : Nat := (v / 2 ^ lo) % 2 ^ (hi + 1 - lo)

/-- Bit `i` of a number. -/
def bitOf (v i : Nat) : Bool := v.testBit i

/-- a is before b among N-bit wrapping numbers (R514). -/
def serialBefore (n a b : Nat) : Bool :=
  let d := (b + 2 ^ n - a % 2 ^ n) % 2 ^ n
  1 ≤ d && d < 2 ^ (n - 1)

/-- The signed 32-bit difference a - b (R309, R316). -/
def sdiff32 (a b : W32) : Int := (a - b).toInt

end Sys2Proof.Machine
end

