-- ==== Sys2Proof/Machine/StateCluster.lean ====
section
/-! DEFINITION. The state of a core and of a cluster (spec/04, 05, 06, 07, 15): plain data. -/
namespace Sys2Proof.Machine

/-- State of a cluster site (R416), coded as SITE of FIELD_CL_STATUS (R140). -/
inductive SiteState where
  | enabled | spare | quarantined | retired
  deriving DecidableEq, Repr

/-- Sequencer state (R87, R118). -/
inductive SeqState where
  | unloaded | loaded | running | halted
  deriving DecidableEq, Repr

/-- FIELD_CORE_FAULT (R118). -/
structure FaultReg where
  valid : Bool := false
  cause : BitVec 4 := 0
  pc : BitVec 12 := 0
  opcode : BitVec 6 := 0
  deriving DecidableEq, Repr

/-- Kinds of matrix instruction (R104). -/
inductive MatKind where
  | mma | mms | mmp | tzero
  deriving DecidableEq, Repr

/-- An issued matrix instruction with what it captured at issue (R101, R102) and its word address. -/
structure MatOp where
  kind : MatKind
  spec : BitVec 5
  acc : Bool
  a : Nat
  b : Nat
  sa : Nat
  sb : Nat
  tile : Nat
  pc : BitVec 12
  deriving DecidableEq, Repr

/-- A started matrix instruction: its operands as read from scratchpad, the pass number of its tile and the group
length (R133). -/
structure MatRun where
  op : MatOp
  n : Nat
  len : Nat
  left : List W8
  right : List W8
  sl : List W8
  sr : List W8
  pblock : List W8
  deriving DecidableEq, Repr

/-- An issued vector instruction (R107 to R109), with the supplied scale that a VCVT read at issue (R56). -/
inductive VecOp where
  | vop (fn : VopFn) (spec : BitVec 5) (d a b : Nat)
  | vcvt (s1 s2 : BitVec 5) (d a b : Nat) (sat sup : Bool) (scale : Nat)
  | spill (d tile : Nat) (init : Bool)
  deriving DecidableEq, Repr

/-- An entry of the vector engine's queue (R109, R110): the instruction and its word address. -/
structure VecIssue where
  op : VecOp
  pc : BitVec 12
  deriving DecidableEq, Repr

/-- What a group adds to a tile element before step 3 of R72: a special value, or `m * 2^e` exactly, with the flags
of steps 1 and 2 (R173). -/
inductive Contrib where
  | nan
  | inf (neg : Bool)
  | zero (neg : Bool)
  | num (m : Int) (e : Int)
  | int (s : Int)
  deriving DecidableEq, Repr

/-- A contribution record: the contribution and the flags that steps 1 and 2 of R72 would set (R173). -/
structure Record where
  c : Contrib := .zero false
  flags : BitVec 4 := 0
  deriving DecidableEq, Repr

/-- A started MMS pass (R167, R171, R173): its operands, and the contribution records of the chunks computed so far. -/
structure MmsPass where
  run : MatRun
  dense : Bool
  todo : List Nat
  recs : Tab Record
  deriving DecidableEq, Repr

/-- A chunk on the steal queue: the owning core, the serial number of its pass and the chunk number (R171). -/
structure Chunk where
  core : Nat
  pass : Nat
  m : Nat
  deriving DecidableEq, Repr

/-- The architectural state of a core (R87) with its memories (R88) and the instructions it has issued (R104, R111). -/
structure Core where
  g : Tab W32 := []
  k : Tab W32 := []
  port : Tab W8 := []
  fa : BitVec 5 := 0x0F
  fb : BitVec 5 := 0x0F
  flags : BitVec 4 := 0
  pc : BitVec 12 := 0
  seq : SeqState := .unloaded
  block : BitVec 5 := 0
  done : Bool := false
  inBlock : Bool := false
  imem : Tab W32 := []
  lmem : Mem := []
  initG : Tab W32 := []
  initK : Tab W32 := []
  matQueue : List MatOp := []
  matRun : Option MatRun := none
  vecQueue : List VecIssue := []
  mms : List (Nat × MmsPass) := []
  mmsNext : Nat := 0
  barWait : Option (BitVec 10) := none
  xferWait : Bool := false
  fault : FaultReg := {}
  imemBad : List Nat := []
  imemSoft : List Nat := []
  lmemBad : List Nat := []
  lmemSoft : List Nat := []
  deriving DecidableEq, Repr

/-- A token (R142). -/
structure Token where
  data : W32
  epoch : BitVec 2
  deriving DecidableEq, Repr

/-- A queue (R143, R145, R147): its entry, the tokens its consumer can see, the tokens that wait ahead of an earlier
one, the next sequence number, the credits held, and the credits owed to the remote outbound queue. -/
structure Queue where
  cap : Nat := 0
  prod : W8 := 0
  cons : W8 := 0
  vc : W8 := 0
  rx : W8 := 0
  ry : W8 := 0
  rq : W8 := 0
  toks : List Token := []
  ahead : List (Nat × Token) := []
  seq : W16 := 0
  credits : Nat := 0
  owed : Nat := 0
  deriving DecidableEq, Repr

/-- The kinds of steering unit (R147). -/
inductive SteerKind where
  | unused | branch | merge | rateRepeat | rateSkip | carry
  deriving DecidableEq, Repr

/-- A steering unit: its kind, the state of a carry, and the count and token of a rate (R150, R151). -/
structure Steer where
  kind : SteerKind := .unused
  looping : Bool := false
  count : Nat := 0
  held : Option Token := none
  deriving DecidableEq, Repr

/-- Packet types of the bulk mesh (R194). -/
inductive PType where
  | token | rdReq | rdData | wr | wrAck | fold | racc | raccAck | unreach | cfgBody | ttData
  deriving DecidableEq, Repr

/-- The RUNOUT field of a packet (R193, R197). -/
inductive Lane where
  | normal | laneD | laneU
  deriving DecidableEq, Repr

/-- Where a packet is: at an endpoint that sends it into a router (none: the cluster; else the crust on that side), on the link
into a router by the port it comes in by, with the port by which it came into the router that sends it, in an input buffer of a
router (none: injected there), or at the endpoint or fold node of a router that it has reached. -/
inductive Pos where
  | source (s : Nat) (inp : Option Dir)
  | wire (s : Nat) (inp : Dir) (prev : Option Dir)
  | router (s : Nat) (inp : Option Dir)
  | delivered (s : Nat)
  deriving DecidableEq, Repr

/-- A bulk-mesh packet in flight (R193). Beside its header and payload it carries what the model needs to name its transfer: the
transfer's serial number and GLEN (R133, R206); its configuration and the cycle in which it last left a router, for TT_DATA (R245);
and the flits that the receiver of its link has yet to take (R192). -/
structure Packet where
  id : Nat := 0
  dx : Nat
  dy : Nat
  sx : Nat
  sy : Nat
  typ : PType
  vc : Nat
  func : Nat
  epoch : BitVec 2 := 0
  lane : Lane := .normal
  tag : Nat := 0
  seq : W16 := 0
  arg : Nat := 0
  payload : List W8 := []
  pos : Pos
  waited : Nat := 0
  serial : Nat := 0
  glen : Nat := 32
  key : Nat := 0
  cyc : Nat := 0
  left : Nat := 0
  deriving DecidableEq, Repr

/-- A transfer request (R134). -/
structure XReq where
  op : Nat := 0
  vc : Nat := 0
  glen : Nat := 0
  doneq : Nat := 0xFF
  tag : W32 := 0
  saddr : Nat := 0
  len : Nat := 0
  remote : Nat := 0
  stride : Nat := 0
  rows : Nat := 0
  rsv : Nat := 0
  deriving DecidableEq, Repr

/-- A transfer in progress (R135, R204, R206), with its serial number and the packets that wait for their timetable entries (R240). -/
structure Xfer where
  core : Nat
  req : XReq
  issue : W32 := 0
  compl : W32 := 0
  exposed : Bool := false
  serial : Nat := 0
  lastAnswer : Nat := 0
  tt : List Packet := []
  deriving DecidableEq, Repr

/-- Phases of the predictor (R178). -/
inductive PredPhase where
  | none | shadow | compute
  deriving DecidableEq, Repr

/-- The predictor state of a tile (R178, R181): whether it is marked for make-up, and whether every output is live. -/
structure Pred where
  phase : PredPhase := .none
  len : Nat := 0
  makeup : Bool := false
  live : Bool := false
  deriving DecidableEq, Repr

/-- A tile reservation (R131): the holder and the cores that wait for it in order of first request. -/
structure Resv where
  holder : Option Nat := none
  waiting : List Nat := []
  deriving DecidableEq, Repr

/-- FIELD_CL_DMA_ERR (R138, R139). -/
structure DmaErr where
  valid : Bool := false
  cause : BitVec 3 := 0
  core : BitVec 4 := 0
  op : BitVec 8 := 0
  deriving DecidableEq, Repr

/-- A capture of a checked operation (R398, R401): its opcode, what it wrote, the first checker's differing result, and
the lineage entry, descriptor or frame it belongs to. -/
structure Capture where
  core : Nat
  opcode : BitVec 6
  operands : List W8
  orig : List W8
  first : Option (List W8) := none
  entry : W64 := 0
  desc : Option (Nat × W32) := none
  frame : Option (Nat × Nat) := none
  steps : List (Nat × W32) := []
  since : Nat := 0
  deriving DecidableEq, Repr

/-- A path-delay monitor (R139, R472, R474): sample number, delay and the value recorded at the last rewax. -/
structure Pdm where
  sample : W16 := 0
  delay : W16 := 0x0400
  ref : W16 := 0x0400
  deriving DecidableEq, Repr

/-- The pairing of a cluster (R403 to R405): the other site, whether it is the primary, and the packets that wait for
their counterpart. -/
structure PairInfo where
  other : Nat
  primary : Bool
  held : List (Packet × Nat) := []
  twin : List Packet := []
  deriving DecidableEq, Repr

/-- The state of a cluster. (DEDUCED, log 33) -/
structure Cluster where
  core : Tab Core := []
  sp : Mem := []
  spBad : List Nat := []
  spSoft : List Nat := []
  pass : Tab Nat := []
  accInt : Tab Bool := []
  pred : Tab Pred := []
  glen : Tab Nat := []
  resv : Tab Resv := []
  queue : Tab Queue := []
  steer : Tab Steer := []
  slot : Tab (Option Xfer) := []
  stalled : List (Nat × XReq) := []
  xferNext : Nat := 0
  steal : List Chunk := []
  cfg : Option Nat := none
  lx : Nat := 0
  ly : Nat := 0
  wdogExp : Nat := 20
  wdog : Nat := 0
  epoch : BitVec 2 := 0
  owner : Option Nat := none
  resetting : Bool := false
  needsClear : Bool := false
  dmaErr : DmaErr := {}
  caps : List Capture := []
  checker : Option Nat := none
  cleanRun : Nat := 0
  lineage : List W64 := []
  linOvf : Bool := false
  linFrozen : Bool := false
  pdm0 : Pdm := {}
  pdm1 : Pdm := {}
  pair : Option PairInfo := none
  deriving DecidableEq, Repr

end Sys2Proof.Machine
end

