-- ==== Sys2Proof/Machine/StateFabric.lean ====
section
/-! DEFINITION. The state of the fabric: links, routers, packets in flight, fold trees, timetables, barriers and the
field command (spec/08, 09, 16): plain data. -/
namespace Sys2Proof.Machine

/-- State of an on-wafer link end (R192, R224, R429). -/
inductive LinkState where
  | up | training | dead | off
  deriving DecidableEq, Repr

/-- The receiving end of a link: its state, the receiver's fabric cycles since the last pulse, the next flit expected, the number of
flits that its sender has sent (the sender's replay buffer holds those that the receiver has not taken, R192), whether a replay is
requested, and the uptimes of the replays of the last 10 ms and of the retrains of the last hour (R429). -/
structure Link where
  state : LinkState := .up
  quiet : Nat := 0
  nextFlit : Nat := 0
  sent : Nat := 0
  replaying : Bool := false
  replays : List Nat := []
  strikes : List Nat := []
  deriving DecidableEq, Repr

/-- The live map from which routes follow (R196, R201): dark and out-of-service fields and absent links. -/
structure LiveMap where
  dark : W64 := 0
  oos : W64 := 0
  absent : List Nat := []
  deriving DecidableEq, Repr

/-- A command register: the field bits last written, BUSY and STATUS (R536). -/
structure CmdReg where
  field : W32 := 0
  busy : Bool := false
  status : W16 := 0
  deriving DecidableEq, Repr

/-- A fold-tree node (R225): its site, parent port (4: root) and child ports (7: none), and whether LOCAL is set. -/
structure FoldNode where
  site : Nat
  parent : Nat
  child0 : Nat
  child1 : Nat
  locl : Bool
  deriving DecidableEq, Repr

/-- A declared fold tree with the sites its nodes have under the placement (R225), and whether it is broken (R236). -/
structure FoldTree where
  tree : Nat
  int32 : Bool
  bufs : Nat
  total : Nat
  root : Nat
  doneq : Nat
  rcore : Nat
  dest : Nat
  tag : W32
  nodes : List FoldNode
  epoch : BitVec 2 := 0
  broken : Bool := false
  written : List (Bool × Nat) := []
  deriving DecidableEq, Repr

/-- A segment buffer of a fold node (R231): which segment it holds and its parts, with the flags each brought. -/
structure SegBuf where
  site : Nat
  func : Nat
  tree : Nat
  round : Bool
  seg : Nat
  c0 : Option (List W8 × BitVec 4) := none
  c1 : Option (List W8 × BitVec 4) := none
  loc : Option (List W8) := none
  deriving DecidableEq, Repr

/-- A TT stream (R240) with its sites under the placement. -/
structure TTStream where
  stream : Nat
  put : Bool
  sq : Nat
  src : Nat
  dst : Nat
  wbase : Nat
  wsize : Nat
  budget : Nat
  deriving DecidableEq, Repr

/-- A timetable entry (R241) at its router, with the repetitions that have passed in this period (R244). -/
structure TTEntry where
  site : Nat
  stream : Nat
  flits : Nat
  start : Nat
  stride : Nat
  count : Nat
  inp : Nat
  out : Nat
  key : Nat
  passed : Nat := 0
  deriving DecidableEq, Repr

/-- A barrier that a configuration declares (R220): its members, and those that have arrived since the last release. -/
structure Barrier where
  key : Nat
  index : Nat
  wafer : Bool
  members : List (Nat × Nat)
  arrived : List (Nat × Nat) := []
  deriving DecidableEq, Repr

/-- A credit on its way over the control network: destination site and queue, epoch, and the site that sent it (R145). (DEDUCED, log 184) -/
structure Credit where
  site : Nat
  q : Nat
  epoch : BitVec 2
  src : Nat
  deriving DecidableEq, Repr

/-- A physical link of a field edge (R190, R224, R421): whether it is dead, and the logical link that it carries. -/
structure EdgeLink where
  dead : Bool := false
  logical : Option Nat := none
  deriving DecidableEq, Repr

/-- The fabric, with the frame-slot starts that are on their way to clusters (R222), the counts of packets that a dark field has made
doubtful (R158, R207), the edge map by field, edge and physical link, and the lane exceptions (R190, R421, R422). -/
structure Fabric where
  flight : List Packet := []
  nextId : Nat := 0
  credits : List Credit := []
  foldCredits : List (Nat × Nat × Nat × Nat × Nat) := []
  foldHeld : Tab Nat := []
  link : Tab Link := []
  dark : W64 := 0
  oos : W64 := 0
  held : Tab (W64 × W64) := []
  installed : LiveMap := {}
  recomputing : Bool := false
  generation : W16 := 0
  lastGrant : Tab Nat := []
  starve : Tab Nat := []
  fieldCmd : CmdReg := {}
  inflight : Tab Nat := []
  inflightSince : Tab Nat := []
  tokenFlight : Tab Nat := []
  darkSince : Option Nat := none
  suspect : List Nat := []
  edge : Tab EdgeLink := []
  lanes : List LaneEx := []
  barriers : List Barrier := []
  segs : List SegBuf := []
  entries : List TTEntry := []
  period : Tab Nat := []
  starts : List Nat := []
  deriving DecidableEq, Repr

end Sys2Proof.Machine
end

