-- ==== Sys2Proof/Machine/StateMemory.lean ====
section
/-! DEFINITION. The state of device memory, page table, version groups, controllers, caches and lifts (spec/10): plain data. -/
namespace Sys2Proof.Machine

/-- A page-table entry (R253, R289, R292), with the set a move is taking the page to and the bad lines that stop
further moves (R277, R278). -/
structure Page where
  v : Bool := false
  coherent : Bool := false
  pin : Bool := false
  vers : Bool := false
  owner : Nat := 0
  vgroup : Nat := 0
  home : Nat := 0
  spread : Nat := 0
  setbase : Nat := 0
  moving : Option (Nat × Nat) := none
  chunk : Nat := 0
  stuck : List Nat := []
  deriving DecidableEq, Repr

/-- State of a version group (R283). -/
inductive GroupState where
  | unused | openG | sealed
  deriving DecidableEq, Repr

/-- A version group (R283, R292). -/
structure Group where
  state : GroupState := .unused
  owner : Nat := 0
  pages : Nat := 0
  vg : W32 := 0
  deriving DecidableEq, Repr

/-- MEM_UE_LOG (R292). -/
structure UeLog where
  valid : Bool := false
  func : Nat := 0
  stack : Nat := 0
  source : Nat := 0
  addr : Nat := 0
  deriving DecidableEq, Repr

/-- A cached line: its stack-local name, the key of its device line, whether it is dirty, and, if a lift brought it in and no demand has
hit it yet, the slot and serial number of the stream (R264, R267). -/
structure CLine where
  line : Nat
  key : Nat
  dirty : Bool
  lift : Option (Nat × Nat)
  deriving DecidableEq, Repr

/-- A stream of a lift (R267, R268): last demand line, last line prefetched, direction, distance, the controller request count at its
last hit, and its serial number. -/
structure Stream where
  last : Nat
  ahead : Nat
  down : Bool
  dist : Nat
  lastHit : Nat
  serial : Nat := 0
  deriving DecidableEq, Repr

/-- A controller with its cache and lift (R264 to R268): the lines of each set, most recently used first; the recent
misses with the request count at which they came; the streams and the next stream's serial number; the requests received; the error
reports of the on-die ECC that it has not read (R258); and whether a scrub is what it did last (R260, R292). -/
structure Ctl where
  set : Tab (List CLine) := []
  misses : List (Nat × Nat) := []
  stream : Tab (Option Stream) := []
  streamNext : Nat := 0
  requests : Nat := 0
  reports : Nat := 0
  scrubbing : Bool := false
  excluded : List Nat := []
  deriving DecidableEq, Repr

/-- Accesses of a page in a migration window (R275): all of them, those that counted for each pair, and the share each
pair had in the window before, as accesses and total. -/
structure MigCount where
  total : Nat := 0
  pair : Tab Nat := []
  prevTotal : Nat := 0
  prevPair : Tab Nat := []
  deriving DecidableEq, Repr

/-- Device memory and its management: the bytes of slot 0 and of slot 1, the page table, the groups, the lines with uncorrectable errors
and those with errors that a read corrects (R259, R261), the lines whose cached copies have uncorrectable errors (R265), MEM_UE_LOG,
MEM_PAGE_SEL, MEM_PAGE_ENTRY, MEM_PAGE_CMD and the page whose SET is in progress, the controllers,
the access counts of this window, when it began (R275), and whether a window has ended since ready (R435). (DESIGN CHOICE, log 182) -/
structure MemSys where
  bytes : Mem := []
  slot1 : Mem := []
  page : Tab Page := []
  group : Tab Group := []
  bad : List Nat := []
  soft : List Nat := []
  cacheBad : List Nat := []
  ueLog : UeLog := {}
  sel : Nat := 0
  entry : W64 := 0
  cmd : CmdReg := {}
  setting : Option Nat := none
  ctl : Tab Ctl := []
  mig : Tab MigCount := []
  winStart : Nat := 0
  winSeen : Bool := false
  deriving DecidableEq, Repr

end Sys2Proof.Machine
end

