-- ==== Sys2Proof/Machine/StateHost.lean ====
section
/-! DEFINITION. The state of the host interface, of descriptors, configurations and partitions (spec/06, 11, 12): plain data. -/
namespace Sys2Proof.Machine

/-- What a completion record reports beside TAG and INDEX (R322). -/
structure Report where
  status : W16 := 0
  flags : BitVec 4 := 0
  source : BitVec 4 := 0
  code : BitVec 4 := 0
  cx : Nat := 0
  cy : Nat := 0
  core : Nat := 0
  r0 : Nat := 0
  r1 : Nat := 0
  deriving DecidableEq, Repr

/-- Kinds of ring (R304). -/
inductive RingKind where
  | disabled | work | pool | event
  deriving DecidableEq, Repr

/-- A ring context (R304), with the marks of R330 (lagging), R328 (an overflow record is due) and R324 (uptime of the
last interrupt). -/
structure Ring where
  base : W64 := 0
  cbase : W64 := 0
  head : W32 := 0
  tail : W32 := 0
  cprod : W32 := 0
  logsz : Nat := 0
  kind : RingKind := .disabled
  dloc : Bool := false
  cloc : Bool := false
  irqEn : Bool := false
  armed : Bool := false
  prio : Nat := 0
  error : Bool := false
  ecause : W8 := 0
  vector : Nat := 0
  icoal : Nat := 0
  pasid : W32 := 0
  lagHi : W32 := 0
  lagLo : W32 := 0
  evring : W32 := 0
  inprog : Nat := 0
  pooltab : W64 := 0
  lagging : Bool := false
  ovfDue : Bool := false
  lastIrq : Option Nat := none
  deriving DecidableEq, Repr

/-- The HIF_FUNC entry of a function (R301): ring range, its BAD bit, default event ring and BAR4 window base. -/
structure FuncEntry where
  bad : Bool := false
  count : Nat := 0
  base : Nat := 0
  evring : Nat := 0
  bar4Base : Nat := 0
  deriving DecidableEq, Repr

/-- A taken descriptor that has not completed (R311, R312), in the order of taking: its 64 bytes, when it was taken,
whether it has started and when. A COPY or DIGEST keeps its view (R286). One whose launch has ended while writes of it were on their
way keeps its report, and the packets that it waits for (R272). -/
structure Desc where
  ring : Nat
  index : W32
  func : Nat
  raw : List W8
  taken : Nat := 0
  started : Bool := false
  since : Nat := 0
  view : List Nat := []
  ending : Option Report := none
  writes : List Nat := []
  deriving DecidableEq, Repr

/-- A running launch or frame-slot run (R152, R286): its descriptor or its stream context with the frame number, the
groups whose V_g was odd in its view, whether it is a training step, its pool group, when it began, whether a tile of it was
marked for make-up, and whether a silent error has been detected for it (R402). -/
structure Run where
  desc : Option (Nat × W32) := none
  stream : Option Nat := none
  args : List W32 := []
  view : List Nat := []
  train : Bool := false
  group : Nat := 0
  begun : Nat := 0
  makeup : Bool := false
  sde : Bool := false
  deriving DecidableEq, Repr

/-- The phases of a CONFIG_LOAD or UNLOAD after its check (R159). -/
inductive LoadPhase where
  | drain | epochWait | load
  deriving DecidableEq, Repr

/-- A cluster section of an image with the site that the placement map gives it and its offset in the image (R147, R320). -/
structure Section where
  site : Nat
  bytes : List W8
  off : Nat := 0
  deriving DecidableEq, Repr

/-- A CONFIG_LOAD or UNLOAD in progress (R159, R160): its descriptor, phase, drain deadline, whether the drain ended by timeout and
whether it stopped a launch, a transfer or tokens then, tokens discarded, the new epoch and the one that its clusters had, the image's
address and length, what its check gave, and whether it loads in pairs. -/
structure Load where
  desc : Nat × W32
  unload : Bool
  phase : LoadPhase := .drain
  deadline : Nat := 0
  timedOut : Bool := false
  dirty : Bool := false
  discarded : Nat := 0
  epoch : BitVec 2 := 0
  oldEpoch : Option (BitVec 2) := none
  addr : Nat := 0
  len : Nat := 0
  frame : Bool := false
  sections : List Section := []
  trees : List FoldTree := []
  streams : List TTStream := []
  entries : List TTEntry := []
  ttlen : Nat := 0
  ttslow : W64 := 0
  bars : List Barrier := []
  paired : Bool := false
  deriving DecidableEq, Repr

/-- A configuration of a partition (R317, R318): its clusters, whether its program is frame-bound, the report with which
it was halted, its launch in progress, its load in progress, fold trees, TT streams and timetable length, the sections that it
was loaded from, and the sites that a REMAP in progress leaves (R433). -/
structure Cfg where
  loaded : Bool := false
  clusters : List Nat := []
  frame : Bool := false
  halted : Option Report := none
  run : Option Run := none
  load : Option Load := none
  trees : List FoldTree := []
  streams : List TTStream := []
  ttlen : Nat := 0
  ttslow : W64 := 0
  paired : Bool := false
  sections : List Section := []
  leaving : List Nat := []
  deriving DecidableEq, Repr

/-- A partition reset in progress (R338, R344): its request time, and whether phase 3 has ended. -/
structure ResetRun where
  since : Nat
  flushed : Bool := false
  deriving DecidableEq, Repr

/-- A partition (R333 to R335). -/
structure Part where
  cmd : CmdReg := {}
  rect : W32 := 0
  lastRing : Nat := 0
  lastTag : W32 := 0
  lastStatus : W16 := 0
  quiesced : Bool := false
  reset : Option ResetRun := none
  epoch : BitVec 2 := 0
  cfg : Tab Cfg := []
  deriving DecidableEq, Repr

/-- A counter pair (R140, R510, R511): its count, its OVF bit, and whether COUNTER_OVF has been raised since CLR. -/
structure Counter where
  count : Nat := 0
  ovf : Bool := false
  raised : Bool := false
  deriving DecidableEq, Repr

/-- A host port (R294, R345): whether PERST# is asserted, VF Enable with NumVFs, and HIF_LOCK (R302). -/
structure Port where
  perst : Bool := true
  vfEnable : Bool := false
  numVfs : Nat := 0
  lock : Bool := false
  deriving DecidableEq, Repr

/-- An event record (R328) before its ring and phase are known. -/
structure Event where
  typ : W16
  ring : Nat
  time : Nat
  data : Nat
  deriving DecidableEq, Repr

/-- A subscription of the EventService (R508): its queue of events, oldest first, and the events dropped since the last delivery.
(DEDUCED, log 183) -/
structure Subscription where
  queue : List Event := []
  dropped : Nat := 0
  deriving DecidableEq, Repr

/-- The RING block of a function (R305). -/
structure RingWin where
  sel : W32 := 0
  cmd : CmdReg := {}
  data : List W8 := List.replicate 64 0
  deriving DecidableEq, Repr

/-- The Advanced Error Reporting state of a function (R294), as PCI Express lays it out: the errors seen, the first of them since it was
empty, and the header and prefix of its TLP. (PRESUMED, log 157) -/
structure Aer where
  errors : W32 := 0
  first : Option Nat := none
  header : BitVec 128 := 0
  tlpPrefix : BitVec 128 := 0
  deriving DecidableEq, Repr

/-- The host interface: host memory, the rings, entries, ports and RING blocks, the descriptors in progress, the contexts that each crust
block caches, the last used first (R306), the function that each block served last and the ring that it took last of each function and
priority (R313), the MSI-X table of each function by 32-bit word with its pending bits, and its error reports (R294). -/
structure HostIf where
  mem : Mem := []
  ring : Tab Ring := []
  func : Tab FuncEntry := []
  port : Tab Port := []
  win : Tab RingWin := []
  descs : List Desc := []
  cached : Tab (List Nat) := []
  servedFunc : Tab Nat := []
  servedRing : Tab Nat := []
  msix : Tab W32 := []
  pba : Tab Bool := []
  aer : Tab Aer := []
  deriving DecidableEq, Repr

end Sys2Proof.Machine
end

