-- ==== Sys2Proof/Machine/StateMedia.lean ====
section
/-! DEFINITION. The state of the media ports, their time bases and the stream contexts (spec/13): plain data. -/
namespace Sys2Proof.Machine

/-- LINK of MEDIA_PORT_STATUS (R365). -/
inductive LinkUp where
  | down | training | up
  deriving DecidableEq, Repr

/-- Port modes (R365). -/
inductive PortMode where
  | off | media | tow
  deriving DecidableEq, Repr

/-- States of a time base (R356). -/
inductive PtpState where
  | unlocked | locking | locked | holdover
  deriving DecidableEq, Repr

/-- A foreign master (R355): its last Announce and the uptime at which it came. -/
structure Master where
  ann : Announce
  heard : Nat
  deriving DecidableEq, Repr

/-- An E port in its media role (R346, R355, R356, R365). `base` is the PTP time in half-nanoseconds less 2,000 times the
uptime; `step` says that the next Sync steps the time base; `good` counts consecutive Syncs below 1 microsecond; `since`
is the uptime of the last Sync; `lost` that at which the master was lost. (DEDUCED, log 153) -/
structure MPort where
  mode : PortMode := .off
  speed : Nat := 2
  vlanEn : Bool := false
  pcp : Nat := 0
  vid : Nat := 0
  link : LinkUp := .down
  refused : Bool := false
  ptpEn : Bool := false
  domain : Nat := 127
  ptpV6 : Bool := false
  annTo : Nat := 3
  holdmax : Nat := 10
  state : PtpState := .unlocked
  offset : Int := 0
  base : Int := 0
  step : Bool := false
  good : Nat := 0
  since : Nat := 0
  lost : Nat := 0
  masters : List Master := []
  master : Option Announce := none
  deriving DecidableEq, Repr

/-- Reception of a frame (R352, R353): the extended sequence numbers received, that of the marker packet, and whether a
packet of the frame has been discarded. -/
structure Recv where
  seqs : List W32 := []
  marker : Option W32 := none
  broken : Bool := false
  deriving DecidableEq, Repr

/-- A frame whose run has completed and whose ancillary data has not left (R360, R361): frame, completion by the time base
in half-nanoseconds, and the run's report. -/
structure AncWait where
  frame : Nat
  done : Int
  report : Report
  deriving DecidableEq, Repr

/-- A binding (R357, R359): the function and CFGID, LATENCY, FRING, the arguments and ring of the FRAME_BIND, the first
frame whose slot it takes, the next frame to decide, L, the waiting frames, the run in progress, the slots since L last
rose, the runs in a row that started on time, results waiting to leave, and an unbinding descriptor. -/
structure Binding where
  func : Nat
  cfgid : Nat
  latency : Nat
  fring : Nat
  args : List W32
  ring : Nat
  next : Nat
  level : Nat := 0
  waiting : List Nat := []
  running : Option Nat := none
  sinceRise : Option Nat := none
  onTime : Nat := 0
  anc : List AncWait := []
  unbind : Option (Nat × W32) := none
  deriving DecidableEq, Repr

/-- A stream context (R349): its 128 bytes (none: all zero), BAD, its binding, the reception of frames, the last sequence
number of frames whose marker has come, and the next extended RTP sequence number sent. -/
structure Ctx where
  raw : List W8 := []
  bad : Bool := false
  bound : Option Binding := none
  recv : Tab Recv := []
  lastSeq : Tab W32 := []
  decided : Option Nat := none
  rtp : W32 := 0
  deriving DecidableEq, Repr

/-- The media ports and stream contexts. -/
structure Media where
  lock : Bool := false
  port : Tab MPort := []
  ctx : Tab Ctx := []
  deriving DecidableEq, Repr

end Sys2Proof.Machine
end

