-- ==== Sys2Proof/Machine/StatePlant.lean ====
section
/-! DEFINITION. The state of clocks, supplies, cooling, ageing, bring-up, security and management (spec/16 to 21): plain
data. -/
namespace Sys2Proof.Machine

/-- REGION of FIELD_PWR_STATUS (R460). -/
inductive Region where
  | on | dark | locked | starting
  deriving DecidableEq, Repr

/-- A temperature sensor (R464, R465, R469, R515): its reading in 1/16 degree C and when it was taken, the reading before it,
consecutive bad samples, whether it is failed, and whether its last sample was at 100 degrees or more. -/
structure Sense where
  temp : Int := 0
  time : Nat := 0
  was : Int × Nat := (0, 0)
  bad : Nat := 0
  failed : Bool := false
  hot : Bool := false
  deriving DecidableEq, Repr

/-- A field's margin plan (R475): voltage in millivolts, clock bin in 25 MHz units, fabric at 900 MHz. -/
structure Plan where
  volt : Nat
  bin : Nat
  slow : Bool
  deriving DecidableEq, Repr

/-- A field's clocks, supply region, sensors and plan (R440 to R442, R460, R466, R467, R475, R477, R480). Clocks and
ceilings are in 25 MHz units, voltages in millivolts, times are uptimes; `planAt` is the uptime of the rewax that made the plan,
`applying` says that the plan is being applied,
`slowNext` that a change of the fabric clock is in progress, `wasReset` that the routers have been reset since the field was
marked out of service. -/
structure FieldSt where
  region : Region := .on
  regionOnAt : Option Nat := none
  wasReset : Bool := false
  cclk : Nat := 28
  bin : Nat := 28
  spCeil : Nat := 28
  capCeil : Nat := 28
  slow : Bool := false
  slowNext : Option Bool := none
  holdC : Bool := false
  holdF : Bool := false
  volt : Nat := 700
  plan : Option Plan := none
  planAt : Nat := 0
  applying : Bool := false
  gateSp : Bool := false
  gateCap : Bool := false
  sensor : Tab Sense := []
  coolSince : Option Nat := none
  openSince : Option Nat := none
  lowered : Nat := 0
  raised : Nat := 0
  held350 : Bool := false
  rf : Nat := 170
  worst : Nat := 1024
  deriving DecidableEq, Repr

/-- A feed and its inlet (R444, R520, R526): voltage in 0.1 V, whether it is present, the uptime at which it became so, whether
the interlock or a trip holds its switch open, the uptime of the last trip, and whether a second trip has latched it. -/
structure FeedSt where
  dv : Nat := 0
  present : Bool := false
  presentAt : Nat := 0
  interlock : Bool := false
  tripped : Bool := false
  lastTrip : Option Nat := none
  latched : Bool := false
  deriving DecidableEq, Repr

/-- Steps of the power-up sequence (R452). -/
inductive PowerStep where
  | off | standby | started | converters | crust | regions | released
  deriving DecidableEq, Repr

/-- Power (R442, R444 to R459): the feeds, the power-up sequence and whether the logic side is wanted on, the quadrant buses
in regulation with their voltages in 0.01 V, input power in watts, the cap with the uptimes of its last step, of its ceiling
coming to stand at 350 MHz under overload and of its last gate, whether it is ending, the isolator link, the PLLs in hold that
have no register, and the mailbox. -/
structure Power where
  feedA : FeedSt := {}
  feedB : FeedSt := {}
  step : PowerStep := .off
  wantOn : Bool := false
  quadOk : BitVec 4 := 0
  quadCv : Tab Nat := []
  input : Nat := 0
  capActive : Bool := false
  capEnding : Bool := false
  capAt : Nat := 0
  capLow : Option Nat := none
  gateAt : Nat := 0
  linkLost : Bool := false
  crustHold : List Nat := []
  refHold : Bool := false
  mbox : CmdReg := {}
  arg : W32 := 0
  deriving DecidableEq, Repr

/-- Cooling and ageing (R463, R474 to R479): coolant readings, since when they have been outside or inside their limits,
crust sensors, the last rewax, and the sites pending retirement. -/
structure Thermal where
  inlet : Int := 0
  outlet : Int := 0
  flow : Nat := 0
  outSince : Option Nat := none
  inSince : Option Nat := none
  alarm : Bool := false
  crust : Tab Sense := []
  crustHot : List Nat := []
  rewaxCause : Nat := 0
  rewaxHours : Nat := 0
  drift : Bool := false
  waitCool : Bool := false
  pendingSites : List Nat := []
  deriving DecidableEq, Repr

/-- A defect map as the flash holds it (R419 to R421): site states, generation, RESERVE, hours, the edge map, lane exceptions and
memory exclusions. -/
structure ServiceMap where
  sites : Tab SiteState := []
  gen : W32 := 0
  reserve : Nat := 8
  hours : W32 := 0
  edge : Tab EdgeLink := []
  lanes : List LaneEx := []
  excluded : List (Nat × Nat) := []
  deriving DecidableEq, Repr

/-- Kinds of bring-up (R423, R436). -/
inductive BootKind where
  | cold | warm
  deriving DecidableEq, Repr

/-- Bring-up (R424, R436): kind, phase (0: none), FAIL, MAP_REVERTED, EXCLUDED, release time, duration, the service map,
whether a change waits to be written and since when, the failing sites found so far, and whether phases run. -/
structure Boot where
  kind : BootKind := .cold
  nextKind : BootKind := .cold
  phase : Nat := 0
  active : Bool := false
  fail : Bool := false
  reverted : Bool := false
  excluded : Bool := false
  releasedAt : Nat := 0
  duration : Nat := 0
  map : ServiceMap := {}
  mapDue : Option Nat := none
  short : W64 := 0
  failed : List Nat := []
  deriving DecidableEq, Repr

/-- The two banks of an image type (R481, R487, R488): the images (bank A: none stands for the image at shipment, R533), which is
active (false: A), which is pending, which is on trial, and which runs. -/
structure Banks where
  a : Option (List W8) := none
  b : List W8 := []
  active : Bool := false
  pending : Option Bool := none
  trial : Option Bool := none
  running : Option Bool := none
  deriving DecidableEq, Repr

/-- A request that the LSE answers with a signature (R494 to R496): its nonce, and for measurements the operation. -/
inductive SignReq where
  | challenge (nonce : List W8)
  | measurements (op : W8) (nonce : List W8)
  | report (nonce : List W8)
  deriving DecidableEq, Repr

/-- What the LSE can be signing (R492, R498): a record of R491, or the answer to a request of a connection (0 and 1 the DOE
instances, 2 MCTP), which is sent when it is signed, or held. -/
inductive Signing where
  | serviceMap
  | marginRecord
  | answer (conn : Nat) (req : SignReq) (hold : Bool)
  deriving DecidableEq, Repr

/-- An answer of the SPDM responder (R493 to R498). -/
inductive SpdmAnswer where
  | version (v : W8)
  | capabilities (cert chal measSig : Bool)
  | algorithms (sha384 rsaPss3072 : Bool)
  | digests (slots : W8) (digest : BitVec 384)
  | certificate (slot : W8) (portion : List W8) (remainder : Nat)
  | challengeAuth (slot : W8) (chain : BitVec 384) (sig : BitVec 3072)
  | measurementCount (n : Nat) (sig : Option (BitVec 3072))
  | measurements (blocks : List (Nat × Nat × BitVec 384)) (sig : Option (BitVec 3072))
  | vendor (bytes : List W8)
  | notReady (rdtExponent rdtm : Nat)
  | invalidRequest
  | unexpectedRequest
  deriving DecidableEq, Repr

/-- An SPDM connection (R494, R498): how far negotiation has come, and an answer that is held for RESPOND_IF_READY. -/
structure SpdmConn where
  version : Bool := false
  caps : Bool := false
  algs : Bool := false
  held : Option SpdmAnswer := none
  deriving DecidableEq, Repr

/-- SEC_REJECT (R499). -/
structure Reject where
  valid : Bool := false
  source : Nat := 0
  typ : Nat := 0
  cause : Nat := 0
  deriving DecidableEq, Repr

/-- A copy of the replay-protected partition (R485): the anti-rollback counters by type (none: the SVN at shipment, R533), the write
count, and whether the copy authenticates. -/
structure Rpf where
  counter : Tab (Option W32) := []
  writes : W64 := 0
  authentic : Bool := true
  deriving DecidableEq, Repr

/-- Security (R483 to R499): the banks by type, the two copies of the replay-protected partition, the write count and digest that the
LSE holds itself (none: the digest of the partition at shipment), the counters in use, whether the partition has authenticated, the revoked
slots, the last rejection, the mailbox, what is signed and what waits, the connections, and whether the LSE serves its recovery endpoint. -/
structure Sec where
  bank : Tab Banks := []
  copy1 : Rpf := {}
  copy2 : Rpf := {}
  writes : W64 := 0
  digest : Option (BitVec 384) := none
  counter : Tab (Option W32) := []
  rpfOk : Bool := true
  revoked : BitVec 4 := 0
  reject : Reject := {}
  mbox : CmdReg := {}
  addr : W64 := 0
  len : W32 := 0
  signing : Option Signing := none
  waiting : List Signing := []
  conn : Tab SpdmConn := []
  recovery : Bool := false
  deriving DecidableEq, Repr

/-- An entry of the LogService for a module reset (R508, R515): when, MGMT_RESET_CAUSE, and for cause 0x6 the two readings of the sensor
that met R469 with the uptime of each. -/
structure ResetEntry where
  time : Nat
  cause : Nat
  quad : BitVec 4 := 0
  sensor : Nat := 0
  readings : List (Int × Nat) := []
  deriving DecidableEq, Repr

/-- Management (R502 to R515): the command in progress, AUTO_ON, RESERVE, the cause and time of the last module reset,
powered hours, interface state and readings. (DESIGN CHOICE, log 154) -/
structure Mgmt where
  busy : Option Nat := none
  autoOn : Bool := true
  cause : Nat := 1
  causeQuad : BitVec 4 := 0
  causeSensor : Nat := 0
  resetTime : Nat := 0
  hours : W32 := 0
  ip4 : W32 := 0
  stackTemp : Tab Int := []
  redfishUp : Bool := false
  link : Bool := false
  i3c : Option (BitVec 7) := none
  resets : List ResetEntry := []
  deriving DecidableEq, Repr

end Sys2Proof.Machine
end

