-- ==== Sys2Proof/Config.lean ====
section
/-! DEFINITION. What an implementation fixes and what the spec leaves open: constants without a value. -/
namespace Sys2Proof

/-- The free values (an open value of the spec is one of these, by the count of free values taken so far). (DESIGN CHOICE, log 6) -/
opaque Config.freeValue : Nat → W64

/-- The line of reserved storage that holds a ring's context (R254, R306), as a key of the uncorrectable lines. -/
opaque Config.contextLine : Nat → Nat

/-- The factory map (R419, R420): sites that it shows as retired, and its digest (R493). -/
opaque Config.factoryRetired : Nat → Bool
opaque Config.factoryMapDigest : BitVec 384

/-- The module's serial number (R421), and the PCI vendor ID of Swelis Devices (R296, R300). -/
opaque Config.serial : W32
opaque Config.vendor : W16

/-- The MAC address of E0 on the module's label; each port's is one higher than the previous (R533). (DEDUCED, log 152) -/
opaque Config.baseMac : BitVec 48

/-- The factory baseline (R475): the compute and fabric frequency in kHz of a field at 700 mV + 25 k mV and a temperature in 0.01
degrees C; and a field's baseline voltage in millivolts and compute clock in 25 MHz units (R424, R452). -/
opaque Config.fbase : Nat → Nat → Nat → Nat
opaque Config.ffab : Nat → Nat → Nat → Nat
opaque Config.baseVolt : Nat → Nat
opaque Config.baseBin : Nat → Nat

/-- The conversion of a raw sample of a path-delay monitor (R472): site, monitor, raw sample, voltage in millivolts and the field's
sensor readings in 1/16 degree C. (DEDUCED, log 140) -/
opaque Config.pdmConvert : Nat → Bool → W16 → Nat → List Int → W16

/-- The thermal resistance learned in a powered hour (R473): field, resistance before in K/kW, and mean power in watts. -/
opaque Config.thermalLearn : Nat → Nat → Nat → Nat

/-- SHA-384 (R482). (DESIGN CHOICE, log 8) -/
opaque Config.sha384 : List W8 → BitVec 384

/-- Verification of RSASSA-PSS and SLH-DSA signatures (R482, R483): key, message, signature. -/
opaque Config.rsaVerify : List W8 → List W8 → List W8 → Bool
opaque Config.slhVerify : List W8 → List W8 → List W8 → Bool

/-- Signatures with the identity keys (R490, R496), and the SPDM signature of a nonce and what it covers (R494). -/
opaque Config.rsaSign : List W8 → BitVec 3072
opaque Config.slhSign : List W8 → BitVec 129792
opaque Config.spdmSign : List W8 → List (BitVec 384) → BitVec 3072

/-- The digest of keys that a key slot holds in its fuses (R483). -/
opaque Config.slotDigest : Nat → BitVec 384

/-- The images in bank A and the anti-rollback counters at shipment, by type (R533). -/
opaque Config.shippedImage : Nat → List W8
opaque Config.shippedSvn : Nat → W32

/-- The key slot that a revocation record in an LMC image's body names, if it carries one (R484). -/
opaque Config.revocation : List W8 → Option Nat

/-- The digests of the mask ROMs of the LSE and the supply controller (R493), and the identity chains (R490). -/
opaque Config.romDigest : Bool → BitVec 384
opaque Config.rsaChain : List W8
opaque Config.slhChain : List W8

/-- The lane exceptions of the factory map, as its 4-byte words, and the physical edge links that it marks dead, by 88 field + 22 edge +
link (R420, R421). -/
opaque Config.factoryLanes : List W32
opaque Config.factoryDead : Nat → Bool

/-- The memory exclusions of the factory map: stack and 64 KiB unit (R420, R421). -/
opaque Config.factoryExcluded : List (Nat × Nat)

end Sys2Proof
end

