-- ==== Sys2Proof/Machine/StateTow.lean ====
section
/-! DEFINITION. The state of the Tow links, the block tables, the training steps, and of integrity checking (spec/14, 15):
plain data. -/
namespace Sys2Proof.Machine

/-- State of a Tow link (R394). -/
inductive TowState where
  | down | training | up
  deriving DecidableEq, Repr

/-- A Tow port (R370 to R373, R394, R533): TOW_PORT_MAC (none: the label's address), link state, next SEQ to send, frames kept for replay,
the SEQ expected, whether NAK
goes into the next frame, whether an ACK is due, the credits that the peer has granted and that have been used, the credits
granted to the peer (REQ 0, REQ 1, ANS 0, ANS 1, cumulative 64-byte units), the messages in the receive buffers, when a frame
with a good FCS last came, and whether LINK frames have gone each way since the port began to train. -/
structure TPort where
  dim : Bool := false
  dateline : Bool := false
  mac : Option (BitVec 48) := none
  state : TowState := .down
  txSeq : W32 := 0
  replay : List (W32 × TowMsg) := []
  rxSeq : W32 := 0
  nak : Bool := false
  ackDue : Bool := false
  peer : List W16 := [0, 0, 0, 0]
  used : List W16 := [0, 0, 0, 0]
  granted : List W16 := [2048, 2048, 512, 512]
  rx : List TowMsg := []
  heard : Nat := 0
  linkSent : Bool := false
  linkSeen : Bool := false
  deriving DecidableEq, Repr

/-- TOW_PORT_MAC of a port (R394, R533). -/
def TPort.portMac (t : TPort) (p : Nat) : BitVec 48 := t.mac.getD (Config.baseMac + BitVec.ofNat 48 p)

/-- A block-table entry (R378). -/
structure Block where
  homeEng : Nat
  homeStk : Nat
  pelem : Nat
  pscale : Nat
  optst : Nat
  acc : Nat
  deriving DecidableEq, Repr

/-- An accumulator buffer of a homed block (R384): OPEN for a step or FREE, and its checksum total. -/
structure AccBuf where
  step : Option W32 := none
  sum : W64 := 0
  deriving DecidableEq, Repr

/-- What a DONE says (R369): engine, SCALE, ENGINES and LOST. -/
structure DoneMsg where
  eng : Nat
  scale : W16
  engines : W16
  lost : Bool
  deriving DecidableEq, Repr

/-- A STEP_COMMIT in progress (R386, R388, R390), with the FP32 encodings of its hyperparameters (R389). -/
structure Commit where
  desc : Nat × W32
  opt : Nat
  pfmt : BitVec 5
  hyper : List Nat
  deriving DecidableEq, Repr

/-- An open step (R385 to R391): its number, SCALE, ENGINES, deadline, LOST, the DONEs and verdicts held, the commit that
has sent DONE, whether this home has updated its blocks and has sent its verdict, the PARAM messages not yet acknowledged
(engine, and ARG: block and part), and the flags of the updates. -/
structure TStep where
  step : W32
  scale : W16
  engines : W16
  deadline : Nat
  lost : Bool := false
  dones : List DoneMsg := []
  verdicts : List (Nat × W16) := []
  commit : Option Commit := none
  updated : Bool := false
  sentVerdict : Bool := false
  await : List (Nat × W64) := []
  flags : BitVec 4 := 0
  deriving DecidableEq, Repr

/-- A version group's training state (R378, R379, R394), with the DONE and VERDICT messages of steps that are not open yet
(R375), and the step that ended by its deadline before its STEP_COMMIT started (R391). -/
structure TGroup where
  table : W64 := 0
  nelem : W32 := 0
  cmd : CmdReg := {}
  loaded : Bool := false
  blocks : List Block := []
  lastDone : W16 := 0
  lastOk : W16 := 0
  ended : W32 := 0
  step : Option TStep := none
  early : List TowMsg := []
  uncommitted : Option W32 := none
  acc : Tab AccBuf := []
  deriving DecidableEq, Repr

/-- A record that was forwarded to its home engine and has no acknowledgement yet (R382, R383): its MTAG, group, step,
the port it left by (none while it waits), when it was sent, and the packet to answer. -/
structure Fwd where
  mtag : W32
  group : Nat
  step : W32
  port : Option Nat := none
  sent : Nat
  packet : Packet
  deriving DecidableEq, Repr

/-- The Tow links and training. -/
structure Tow where
  lock : Bool := false
  engineId : Nat := 0
  etype : W16 := 0x88B5
  route : Tab W32 := []
  port : Tab TPort := []
  group : Tab TGroup := []
  outq : List TowMsg := []
  fwd : List Fwd := []
  nextMtag : W32 := 0
  deriving DecidableEq, Repr

/-- Integrity checking (R399, R413, R415): the quarantine command register, INTEG_LIN_SEL of each function, and of each field the checked
operations that may be sampled, the comparisons made and the uptime since which both are counted. -/
structure Integ where
  quar : CmdReg := {}
  linSel : Tab W32 := []
  checked : Tab Nat := []
  compared : Tab Nat := []
  since : Tab Nat := []
  deriving DecidableEq, Repr

end Sys2Proof.Machine
end

