-- ==== Sys2Proof/Machine/State.lean ====
section
/-! DEFINITION. The whole state of the engine as plain data, its reset value, and the reasons a step can stop. -/
namespace Sys2Proof.Machine

/-- What the engine has sent to the outside, in order: MSI-X messages (R324), values that register reads return (R140,
R305), bytes that BAR4 reads return (R298), the PCIe errors of R295 and R262, ATS invalidation completions (R294), RTP packets in UDP
datagrams (R361), Tow frames (R370),
SPDM and MCTP answers (R494, R503), and HTTP statuses (R503). (DESIGN CHOICE, log 9) -/
inductive Out where
  | msix (func vector : Nat)
  | value (func : Nat) (v : W64)
  | data (func : Nat) (bytes : List W8)
  | unsupported (func : Nat)
  | completerAbort (func : Nat)
  | invalidated (func : Nat) (addr : W64) (pasid : BitVec 20)
  | frame (port : Nat) (tag : Option Nat) (src dst : List W8) (dport sport : Nat) (rtp : List W8)
  | tow (port : Nat) (src : BitVec 48) (etype : W16) (nak : Bool) (seq ack : W32) (cred : List W16) (msg : Option TowMsg)
  | spdm (conn : Nat) (a : SpdmAnswer)
  | mctpNotReady
  | http (status : Nat)
  deriving DecidableEq, Repr

/-- The state of the engine. -/
structure State where
  pending : List Instr := []
  now : Nat := 0
  free : Nat := 0
  cl : Tab Cluster := []
  site : Tab SiteState := []
  ready : Bool := false
  fab : Fabric := {}
  mem : MemSys := {}
  hst : HostIf := {}
  part : Tab Part := []
  media : Media := {}
  tow : Tow := {}
  integ : Integ := {}
  fld : Tab FieldSt := []
  pwr : Power := {}
  thm : Thermal := {}
  boot : Boot := {}
  sec : Sec := {}
  mgmt : Mgmt := {}
  regs : Tab W32 := []
  ctrs : Tab Counter := []
  latch : Tab (Option W32) := []
  evlog : List Event := []
  subs : List Subscription := []
  out : List Out := []
  deriving DecidableEq, Repr

/-- Why a step stops with a fault. -/
inductive Fault where
  /-- A BAR access that lies outside its BAR (R297): no such register or byte exists. Safe: the model stops. -/
  | beyondBar
  deriving DecidableEq, Repr

/-- Why a step is refused. -/
inductive Refusal where
  /-- Raised by an arm of the dispatch whose command has no meaning yet. Safe: the model stops. -/
  | notModelled (mnemonic : String)
  deriving DecidableEq, Repr

/-- The engine as it stands when it first receives power (R23, R509 cause 1). (DEDUCED, log 3; DESIGN CHOICE, log 5) -/
def State.reset : State := {}

/-- What a command answers. -/
abbrev Res := Host.Outcome State Fault Refusal

end Sys2Proof.Machine
end

