-- ==== Sys2Proof/Machine/Flags.lean ====
section
/-! DEFINITION. Number formats, exact values, rounding, conversions and the sticky arithmetic flags (spec/02, and R60, R61). -/
namespace Sys2Proof.Machine

/-- The four sticky flags (R61). -/
abbrev ArithFlags := BitVec 4
def flOverflow : ArithFlags := 1
def flFlush : ArithFlags := 2
def flSaturate : ArithFlags := 4
def flInvalid : ArithFlags := 8

/-- The OR of flags. -/
def orFlags (l : List ArithFlags) : ArithFlags := l.foldl (· ||| ·) 0

/-- The number formats (R30). -/
inductive Fmt where
  | fp32 | fp16 | bf16 | e4m3 | e5m2 | e3m2 | e2m3 | e2m1 | int8 | int4 | int32
  deriving DecidableEq, Repr

/-- The format of a code (R30); codes 0xB to 0xF are reserved. -/
def fmtOf (code : Nat) : Option Fmt :=
  match code with
  | 0 => some .fp32 | 1 => some .fp16 | 2 => some .bf16 | 3 => some .e4m3 | 4 => some .e5m2 | 5 => some .e3m2
  | 6 => some .e2m3 | 7 => some .e2m1 | 8 => some .int8 | 9 => some .int4 | 10 => some .int32
  | _ => none

/-- A format specifier that is valid (R31, R32): its format and whether it is block-scaled. -/
def specOf (s : BitVec 5) : Option (Fmt × Bool) :=
  match fmtOf (s.toNat % 16) with
  | none => none
  | some f => if s.toNat < 16 then some (f, false) else if 3 ≤ s.toNat % 16 ∧ s.toNat % 16 ≤ 9 then some (f, true) else none

/-- Width in bits (R30). -/
def Fmt.width : Fmt → Nat
  | .fp32 | .int32 => 32
  | .fp16 | .bf16 => 16
  | .e4m3 | .e5m2 | .int8 => 8
  | .e3m2 | .e2m3 => 6
  | .e2m1 | .int4 => 4

/-- An integer format (R37). -/
def Fmt.isInt : Fmt → Bool
  | .int8 | .int4 | .int32 => true
  | _ => false

/-- The parameters of a floating-point format (R33, R57): mantissa bits, bias, encoding of the largest finite magnitude,
whether it has infinities, the canonical NaN if it has NaNs, and the sign bit's weight. -/
structure FloatFmt where
  m : Nat
  bias : Nat
  maxEnc : Nat
  hasInf : Bool
  nan : Option Nat
  signBit : Nat
  deriving DecidableEq, Repr

/-- The parameters of each format; integer formats have none and take those of FP32 here. -/
def Fmt.params : Fmt → FloatFmt
  | .fp16 => ⟨10, 15, 0x7BFF, true, some 0x7E00, 0x8000⟩
  | .bf16 => ⟨7, 127, 0x7F7F, true, some 0x7FC0, 0x8000⟩
  | .e4m3 => ⟨3, 7, 0x7E, false, some 0x7F, 0x80⟩
  | .e5m2 => ⟨2, 15, 0x7B, true, some 0x7E, 0x80⟩
  | .e3m2 => ⟨2, 3, 0x1F, false, none, 0x20⟩
  | .e2m3 => ⟨3, 1, 0x1F, false, none, 0x20⟩
  | .e2m1 => ⟨1, 1, 0x7, false, none, 0x8⟩
  | _ => ⟨23, 127, 0x7F7FFFFF, true, some 0x7FC00000, 0x80000000⟩

/-- Binary64, the format of a levain (R80, R82). -/
def binary64 : FloatFmt := ⟨52, 1023, 0x7FEFFFFFFFFFFFFF, true, some 0x7FF8000000000000, 0x8000000000000000⟩

/-- A value: NaN, a signed infinity, or (-1)^neg * m * 2^e exactly (m = 0: a signed zero). -/
inductive Val where
  | nan
  | inf (neg : Bool)
  | fin (neg : Bool) (m : Nat) (e : Int)
  deriving DecidableEq, Repr

/-- The value of a floating-point encoding (R34 to R36). -/
def FloatFmt.decode (p : FloatFmt) (raw : Nat) : Val :=
  let neg := p.signBit ≤ raw % (2 * p.signBit)
  let mag := raw % p.signBit
  if p.maxEnc < mag then
    (if p.hasInf && mag = p.maxEnc + 1 then .inf neg else .nan)
  else
    let e := mag / 2 ^ p.m
    let f := mag % 2 ^ p.m
    if e = 0 then .fin neg f (1 - (p.bias : Int) - p.m) else .fin neg (2 ^ p.m + f) ((e : Int) - p.bias - p.m)

/-- The two's-complement number of `w` bits (R37). -/
def signedOf (w raw : Nat) : Int := if raw % 2 ^ w < 2 ^ (w - 1) then (raw % 2 ^ w : Nat) else (raw % 2 ^ w : Nat) - (2 ^ w : Nat)

/-- The value of a whole number. -/
def Val.ofInt (v : Int) : Val := .fin (v < 0) v.natAbs 0

/-- The value of an encoding (R34 to R37). -/
def Fmt.decode (f : Fmt) (raw : Nat) : Val :=
  if f.isInt then .ofInt (signedOf f.width raw) else f.params.decode raw

/-- The value times 2^k (R41). -/
def Val.scale (v : Val) (k : Int) : Val :=
  match v with
  | .fin n m e => .fin n m (e + k)
  | v => v

/-- The value of an element of a block with scale byte `s` (R40, R41). -/
def scaled (s : Nat) (v : Val) : Val := if s = 255 then .nan else v.scale ((s : Int) - 127)

/-- Rounding directions: to nearest even (R49), towards zero (R72), towards plus infinity (R180). -/
inductive Rounding where
  | nearest | zero | up
  deriving DecidableEq, Repr

/-- `m` divided by 2^k, rounded; `neg` is the sign of the value. -/
def roundShift (d : Rounding) (neg : Bool) (m k : Nat) : Nat :=
  let q := m / 2 ^ k
  let r := m % 2 ^ k
  match d with
  | .zero => q
  | .up => if r ≠ 0 ∧ neg = false then q + 1 else q
  | .nearest => if 2 ^ k < 2 * r ∨ (2 * r = 2 ^ k ∧ q % 2 = 1) then q + 1 else q

/-- The magnitude encoding of m * 2^e rounded in a format with the exponent unbounded above (R49): it exceeds the largest
finite encoding exactly when the rounded value overflows. -/
def FloatFmt.encodeMag (p : FloatFmt) (d : Rounding) (neg : Bool) (m : Nat) (e : Int) : Nat :=
  if m = 0 then 0 else
    let top : Int := (Nat.log2 m : Int) + e
    let q : Int := max top (1 - (p.bias : Int)) - p.m
    let n := if q ≤ e then m * 2 ^ (e - q).toNat else roundShift d neg m (q - e).toNat
    (q + p.m + p.bias - 1).toNat * 2 ^ p.m + n

/-- The sign bit of an encoding. -/
def FloatFmt.sign (p : FloatFmt) (neg : Bool) : Nat := if neg then p.signBit else 0

/-- Clamp a whole number to a width (R52): the encoding and whether it clamped. -/
def clampInt (w : Nat) (v : Int) : Nat × Bool :=
  if (2 ^ (w - 1) : Nat) - 1 < v then (2 ^ (w - 1) - 1, true)
  else if v < -((2 ^ (w - 1) : Nat) : Int) then (2 ^ (w - 1), true)
  else ((v % (2 ^ w : Nat)).toNat, false)

/-- A value rounded to a whole number (R49). -/
def roundInt (neg : Bool) (m : Nat) (e : Int) : Int :=
  let n : Nat := if 0 ≤ e then m * 2 ^ e.toNat else roundShift .nearest neg m (-e).toNat
  if neg then -(n : Int) else n

/-- Convert a value to a floating-point format, with saturating mode (R49 to R54): the encoding and the flags. -/
def FloatFmt.convert (p : FloatFmt) (sat : Bool) (v : Val) : Nat × ArithFlags :=
  match v with
  | .nan => (match p.nan with | some c => (c, 0) | none => (0, flInvalid))
  | .inf neg =>
    match p.nan with
    | none => (p.maxEnc + p.sign neg, flSaturate)
    | some c =>
      if sat then (p.maxEnc + p.sign neg, flSaturate)
      else if p.hasInf then (p.maxEnc + 1 + p.sign neg, 0) else (c, flInvalid)
  | .fin neg m e =>
    let k := p.encodeMag .nearest neg m e
    if p.maxEnc < k then
      match p.nan with
      | none => (p.maxEnc + p.sign neg, flSaturate)
      | some c =>
        if sat then (p.maxEnc + p.sign neg, flSaturate)
        else if p.hasInf then (p.maxEnc + 1 + p.sign neg, flOverflow) else (c, flOverflow)
    else (k + p.sign neg, 0)

/-- Convert a value to a format (R49 to R54); saturating mode acts on the FP8 formats alone (R51). -/
def Fmt.convert (f : Fmt) (sat : Bool) (v : Val) : Nat × ArithFlags :=
  if f.isInt then
    match v with
    | .nan => (0, flInvalid)
    | .inf neg => ((if neg then 2 ^ (f.width - 1) else 2 ^ (f.width - 1) - 1), flSaturate)
    | .fin neg m e =>
      let r := clampInt f.width (roundInt neg m e)
      (r.1, if r.2 then flSaturate else 0)
  else
    let r := f.params.convert (sat && (f == .e4m3 || f == .e5m2)) v
    -- an integer zero gives +0 because its value is not negative (R54)
    r

/-- The signed significand of a finite value. -/
def signedM (neg : Bool) (m : Nat) : Int := if neg then -(m : Int) else m

/-- The exact sum of two finite values as m * 2^e. -/
def addExact (m1 : Int) (e1 : Int) (m2 : Int) (e2 : Int) : Int × Int :=
  let e := min e1 e2
  (m1 * 2 ^ (e1 - e).toNat + m2 * 2 ^ (e2 - e).toNat, e)

/-- The sum of two values (R60): the flags are those of an invalid operation. -/
def Val.add (a b : Val) : Val × ArithFlags :=
  match a, b with
  | .nan, _ => (.nan, 0)
  | _, .nan => (.nan, 0)
  | .inf x, .inf y => if x = y then (.inf x, 0) else (.nan, flInvalid)
  | .inf x, .fin .. => (.inf x, 0)
  | .fin .., .inf y => (.inf y, 0)
  | .fin n1 m1 e1, .fin n2 m2 e2 =>
    let r := addExact (signedM n1 m1) e1 (signedM n2 m2) e2
    if r.1 = 0 then (.fin (m1 = 0 && m2 = 0 && n1 && n2) 0 0, 0) else (.fin (r.1 < 0) r.1.natAbs r.2, 0)

/-- The negated value. -/
def Val.neg : Val → Val
  | .nan => .nan
  | .inf n => .inf (!n)
  | .fin n m e => .fin (!n) m e

/-- The product of two values (R60). -/
def Val.mul (a b : Val) : Val × ArithFlags :=
  match a, b with
  | .nan, _ => (.nan, 0)
  | _, .nan => (.nan, 0)
  | .inf x, .inf y => (.inf (x != y), 0)
  | .inf x, .fin y m _ => if m = 0 then (.nan, flInvalid) else (.inf (x != y), 0)
  | .fin x m _, .inf y => if m = 0 then (.nan, flInvalid) else (.inf (x != y), 0)
  | .fin n1 m1 e1, .fin n2 m2 e2 => (.fin (n1 != n2) (m1 * m2) (e1 + e2), 0)

/-- The quotient of two values to well beyond any format's precision, with a sticky last bit (R60, R107). -/
def Val.div (a b : Val) : Val × ArithFlags :=
  match a, b with
  | .nan, _ => (.nan, 0)
  | _, .nan => (.nan, 0)
  | .inf _, .inf _ => (.nan, flInvalid)
  | .inf x, .fin y _ _ => (.inf (x != y), 0)
  | .fin x _ _, .inf y => (.fin (x != y) 0 0, 0)
  | .fin n1 m1 e1, .fin n2 m2 e2 =>
    if m2 = 0 then (if m1 = 0 then (.nan, flInvalid) else (.inf (n1 != n2), 0))
    else
      let k := 128 + Nat.log2 m2
      let q := m1 * 2 ^ k / m2
      let r := m1 * 2 ^ k % m2
      (.fin (n1 != n2) (2 * q + if r = 0 then 0 else 1) (e1 - e2 - k - 1), 0)

/-- Integer square root by bits, from bit `k` down. -/
def isqrtFrom (n : Nat) : Nat → Nat → Nat
  | 0, acc => acc
  | k + 1, acc => isqrtFrom n k (if (acc + 2 ^ k) * (acc + 2 ^ k) ≤ n then acc + 2 ^ k else acc)

/-- Integer square root. -/
def isqrt (n : Nat) : Nat := isqrtFrom n (Nat.log2 n / 2 + 1) 0

/-- The square root to well beyond any format's precision, with a sticky last bit (R60, R107). -/
def Val.sqrt (a : Val) : Val × ArithFlags :=
  match a with
  | .nan => (.nan, 0)
  | .inf false => (.inf false, 0)
  | .inf true => (.nan, flInvalid)
  | .fin n m e =>
    if m = 0 then (.fin n 0 0, 0)
    else if n then (.nan, flInvalid)
    else
      let m1 := if e % 2 = 0 then m else 2 * m
      let e1 := if e % 2 = 0 then e else e - 1
      let s := isqrt (2 ^ 256 * m1)
      (.fin false (2 * s + if s * s = m1 * 2 ^ 256 then 0 else 1) (e1 / 2 - 128 - 1), 0)

/-- a is below b by value (NaN never). -/
def Val.lt (a b : Val) : Bool :=
  match a, b with
  | .nan, _ => false
  | _, .nan => false
  | .inf x, .inf y => x && !y
  | .inf x, .fin .. => x
  | .fin .., .inf y => !y
  | .fin n1 m1 e1, .fin n2 m2 e2 =>
    let e := min e1 e2
    signedM n1 m1 * 2 ^ (e1 - e).toNat < signedM n2 m2 * 2 ^ (e2 - e).toNat

/-- A value is zero. -/
def Val.isZero : Val → Bool
  | .fin _ m _ => m = 0
  | _ => false

/-- The sign of a value. -/
def Val.isNeg : Val → Bool
  | .nan => false
  | .inf n => n
  | .fin n _ _ => n

/-- maximumNumber of two values (R59). -/
def Val.maxNum (a b : Val) : Val :=
  match a, b with
  | .nan, v => v
  | v, .nan => v
  | a, b => if a.isZero && b.isZero then .fin (a.isNeg && b.isNeg) 0 0 else if a.lt b then b else a

/-- minimumNumber of two values (R59). -/
def Val.minNum (a b : Val) : Val :=
  match a, b with
  | .nan, v => v
  | v, .nan => v
  | a, b => if a.isZero && b.isZero then .fin (a.isNeg || b.isNeg) 0 0 else if b.lt a then b else a

/-- Round a value to a format as an arithmetic result (R49, R50, R52). (DEDUCED, log 18) -/
def Fmt.result (f : Fmt) (r : Val × ArithFlags) : Nat × ArithFlags :=
  let c := f.convert false r.1
  (c.1, c.2 ||| r.2)

/-- Element `i` of `w` bits in packed bytes (R38): packing is little-endian in every width. -/
def elemAt (w : Nat) (packed i : Nat) : Nat := packed / 2 ^ (w * i) % 2 ^ w

/-- Elements packed into one number (R38). -/
def packElems (w : Nat) : List Nat → Nat
  | [] => 0
  | x :: xs => x % 2 ^ w + 2 ^ w * packElems w xs

/-- Bytes that `n` elements take (R38). -/
def Fmt.bytesFor (f : Fmt) (n : Nat) : Nat := f.width * n / 8

/-- The reference exponent of a block-scaled format (R55). -/
def Fmt.eMax : Fmt → Int
  | .e4m3 => 8
  | .e5m2 => 15
  | .e3m2 => 4
  | .e2m3 => 2
  | .e2m1 => 2
  | .int8 => 6
  | .int4 => 2
  | _ => 0

/-- floor(log2) of a non-zero magnitude m * 2^e. -/
def floorLog (m : Nat) (e : Int) : Int := (Nat.log2 m : Int) + e

/-- The largest finite encoding of a sign (R55): for the integer formats, the limits. -/
def Fmt.limit (f : Fmt) (neg : Bool) : Nat :=
  if f.isInt then (if neg then 2 ^ (f.width - 1) else 2 ^ (f.width - 1) - 1) else f.params.maxEnc + f.params.sign neg

/-- Quantise a block of 32 values, the engine choosing the scale (R55): scale byte, elements, flags. -/
def quantiseBlock (f : Fmt) (xs : List Val) : Nat × List Nat × ArithFlags :=
  if xs.any (fun v => match v with | .fin .. => false | _ => true) then
    (255, xs.map (fun _ => 0), if xs.any (fun v => match v with | .inf _ => true | _ => false) then flInvalid else 0)
  else
    let tops := xs.filterMap (fun v => match v with
      | .fin _ m e => if m = 0 then none else some (floorLog m e)
      | _ => none)
    let s : Int := match tops with
      | [] => 127
      | t :: ts => max (ts.foldl max t - f.eMax + 127) 0
    (s.toNat, xs.map (fun v =>
      let y := v.scale (127 - s)
      match y with
      | .fin neg m e =>
        if f.isInt then (clampInt f.width (roundInt neg m e)).1
        else
          let k := f.params.encodeMag .nearest neg m e
          if f.params.maxEnc < k then f.limit neg else k + f.params.sign neg
      | _ => 0), 0)

end Sys2Proof.Machine
end

