-- ==== Sys2Proof/Machine/Passes.lean ====
section
/-! DEFINITION. The arithmetic of passes (R69 to R73), of contribution records (R173), of spills (R81, R82) and of the
activity predictor (R179 to R182). -/
namespace Sys2Proof.Machine

/-- The exact product of a pair (R72): NaN marks infinity times zero. -/
def pairProduct (a b : Val) : Val := (a.mul b).1

/-- floor(m * 2^e / 2^u) for a signed significand. -/
def floorTo (m : Int) (e u : Int) : Int := if u ≤ e then m * 2 ^ (e - u).toNat else m / 2 ^ (u - e).toNat

/-- The group sum S of R70 as m * 2^e, over finite products of which one is not zero. (DEDUCED, log 19) -/
def groupSum (ps : List Val) : Int × Int :=
  let tops := ps.filterMap (fun v => match v with
    | .fin _ m e => if m = 0 then none else some (floorLog m e)
    | _ => none)
  let top := match tops with
    | [] => 0
    | t :: ts => ts.foldl max t
  let u := top - 30
  ((ps.map (fun v => match v with
    | .fin n m e => floorTo (signedM n m) e u
    | _ => 0)).sum, u)

/-- |m * 2^e| exceeds the largest finite FP32 magnitude. -/
def overMax (m : Int) (e : Int) : Bool :=
  let k := min e 104
  16777215 * 2 ^ (104 - k).toNat < m.natAbs * 2 ^ (e - k).toNat

/-- |m * 2^e| is below 2^-149. -/
def underMin (m : Int) (e : Int) : Bool :=
  let k := min e (-149)
  m.natAbs * 2 ^ (e - k).toNat < 2 ^ (-149 - k).toNat

/-- Steps 1 and 2 of fp_pass (R72), the tile's NaN apart: the contribution and the flags they set. -/
def fpContrib (as bs : List Val) (isScaled : Bool) (sa sb : Nat) : Record :=
  let prs := as.zip bs
  if prs.any (fun p => p.1 == .nan || p.2 == .nan) then ⟨.nan, 0⟩
  else if isScaled && (sa == 255 || sb == 255) then ⟨.nan, 0⟩
  else
    let ps := prs.map (fun p => pairProduct p.1 p.2)
    if ps.any (· == .nan) then ⟨.nan, flInvalid⟩
    else if ps.any (· == .inf false) && ps.any (· == .inf true) then ⟨.nan, flInvalid⟩
    else if ps.any (· == .inf false) then ⟨.inf false, 0⟩
    else if ps.any (· == .inf true) then ⟨.inf true, 0⟩
    else if ps.all Val.isZero then ⟨.zero (ps.all Val.isNeg), 0⟩
    else
      let s := groupSum ps
      let sigma : Int := if isScaled then ((sa : Int) - 127) + ((sb : Int) - 127) else 0
      if s.1 = 0 then ⟨.zero false, 0⟩
      else if overMax s.1 (s.2 + sigma) then ⟨.inf (s.1 < 0), flOverflow⟩
      else if isScaled && underMin s.1 (s.2 + sigma) then ⟨.zero (s.1 < 0), flFlush⟩
      else ⟨.num s.1 (s.2 + sigma), 0⟩

/-- The canonical NaN of FP32 (R57). -/
def qnan32 : Nat := 0x7FC00000

/-- Step 3 of fp_pass (R72) for the tile element `t` (an FP32 encoding): the element written and all flags set. -/
def fpApply (t : Nat) (r : Record) : Nat × ArithFlags :=
  let tv := Fmt.fp32.decode t
  match tv with
  | .nan => (qnan32, 0)
  | .inf x =>
    match r.c with
    | .nan => (qnan32, r.flags)
    | .inf y => if x = y then (Fmt.fp32.limit x + 1, r.flags) else (qnan32, r.flags ||| flInvalid)
    | _ => (Fmt.fp32.limit x + 1, r.flags)
  | .fin n m e =>
    match r.c with
    | .nan => (qnan32, r.flags)
    | .inf y => (Fmt.fp32.limit y + 1, r.flags)
    | .int _ => (t, r.flags)
    | .zero z =>
      if m = 0 then (Fmt.fp32.params.sign (n && z), r.flags) else (t, r.flags)
    | .num cm ce =>
      let x := addExact (signedM n m) e cm ce
      if x.1 = 0 then (0, r.flags)
      else if overMax x.1 x.2 then (Fmt.fp32.limit (x.1 < 0) + 1, r.flags ||| flOverflow)
      else (Fmt.fp32.params.encodeMag .zero (x.1 < 0) x.1.natAbs x.2 + Fmt.fp32.params.sign (x.1 < 0), r.flags)

/-- The sum of a group in an integer pass (R73). -/
def intContrib (as bs : List Int) : Record := ⟨.int ((as.zip bs).map (fun p => p.1 * p.2)).sum, 0⟩

/-- An integer pass applied to an INT32 element (R73). -/
def intApply (t : Nat) (r : Record) : Nat × ArithFlags :=
  match r.c with
  | .int s =>
    let c := clampInt 32 (signedOf 32 t + s)
    (c.1, if c.2 then flSaturate else 0)
  | _ => (t, 0)

/-- What a pass works on: format, whether it is block-scaled, group length, slabs and scale bytes (R102). -/
structure SlabData where
  fmt : Fmt
  sc : Bool
  n : Nat
  left : List W8
  right : List W8
  sl : List W8
  sr : List W8
  deriving DecidableEq, Repr

/-- The group length n and packed width, in bytes, of a slab row (R102). -/
def Fmt.rowBytes (f : Fmt) : Nat := 4 * f.width

/-- The first `n` elements of row `r` of a slab (R102). -/
def slabRow (f : Fmt) (n : Nat) (slab : List W8) (r : Nat) : List Nat :=
  let packed := leNat ((slab.drop (r * f.rowBytes)).take f.rowBytes)
  (List.range n).map (elemAt f.width packed)

/-- Byte `i` of a list, 0 past its end. -/
def byteAt (l : List W8) (i : Nat) : Nat := (l.getD i 0).toNat

/-- Whether a pass accumulates into INT32 (R47). -/
def SlabData.isInt (d : SlabData) : Bool := d.fmt.isInt && !d.sc

/-- The contribution record of output (r, c) (R72, R73, R173). -/
def SlabData.record (d : SlabData) (r c : Nat) : Record :=
  let a := slabRow d.fmt d.n d.left r
  let b := slabRow d.fmt d.n d.right c
  if d.isInt then intContrib (a.map (signedOf d.fmt.width)) (b.map (signedOf d.fmt.width))
  else fpContrib (a.map d.fmt.decode) (b.map d.fmt.decode) d.sc (byteAt d.sl r) (byteAt d.sr c)

/-- Element (r, c) of a tile (R66): its encoding. -/
def tileElem (tile : List W8) (i : Nat) : Nat := leNat ((tile.drop (4 * i)).take 4)

/-- Apply records to the elements of a tile that `live` selects: the tile and the flags (R72, R73, R174, R183). -/
def applyRecords (isInt : Bool) (tile : List W8) (recs : Nat → Record) (live : Nat → Bool) : List W8 × ArithFlags :=
  (List.range 256).foldl (fun acc i =>
    let t := tileElem tile i
    if live i then
      let r := if isInt then intApply t (recs i) else fpApply t (recs i)
      (acc.1 ++ leBytes 4 r.1, acc.2 ||| r.2)
    else (acc.1 ++ leBytes 4 t, acc.2)) ([], 0)

/-- A whole dense pass into a tile (R65, R72, R73). -/
def SlabData.pass (d : SlabData) (tile : List W8) : List W8 × ArithFlags :=
  applyRecords d.isInt tile (fun i => d.record (i / 16) (i % 16)) (fun _ => true)

/-- A spill of one element (R81, R82): the new levain value and the flags. -/
def spillElem (isInt init : Bool) (t lev : Nat) : Nat × ArithFlags :=
  let x : Val := if isInt then Fmt.int32.decode t else Fmt.fp32.decode t
  if init then binary64.convert false x
  else
    let r := x.add (binary64.decode lev)
    let c := binary64.convert false r.1
    (c.1, r.2)

/-- A spill of a whole tile (R81): the levain bytes and the flags. -/
def spillTile (isInt init : Bool) (tile lev : List W8) : List W8 × ArithFlags :=
  (List.range 256).foldl (fun acc i =>
    let r := spillElem isInt init (tileElem tile i) (leNat ((lev.drop (8 * i)).take 8))
    (acc.1 ++ leBytes 8 r.1, acc.2 ||| r.2)) ([], 0)

/-- The shadow of an element (R179): zero, dropped, or a kept signed power of two. -/
inductive Shadow where
  | zero | dropped
  | kept (neg : Bool) (e : Int)
  | special
  deriving DecidableEq, Repr

/-- The shadow of an element value before its block scale (R179). -/
def shadowOf (f : Fmt) (v : Val) : Shadow :=
  match v with
  | .fin neg m e =>
    if m = 0 then .zero
    else if floorLog m e < f.eMax - 6 then .dropped
    else .kept neg (min (floorLog m e) f.eMax)
  | _ => .special

/-- V of R180: the largest finite magnitude, or the integer limit. -/
def Fmt.shadowMax (f : Fmt) : Val :=
  match f with
  | .int8 => .ofInt 128
  | .int4 => .ofInt 8
  | f => f.params.decode f.params.maxEnc

/-- The exact amounts that a shadow pass adds for an output (R180): to S, and to B (none: plus infinity). A pair with a NaN or
an infinite element adds nothing to S, which R180 leaves open. (DESIGN CHOICE, log 158) -/
def shadowAdd (f : Fmt) (sigma : Int) (smax : Nat) (as bs : List Val) : (Int × Int) × Option (Int × Int) :=
  let prs := (as.map (shadowOf f)).zip (bs.map (shadowOf f))
  let s := prs.foldl (fun acc p => match p with
    | (.kept n1 e1, .kept n2 e2) => addExact acc.1 acc.2 (if n1 = n2 then 1 else -1) (e1 + e2 + sigma)
    | _ => acc) ((0 : Int), (0 : Int))
  if prs.any (fun p => p.1 == .special || p.2 == .special) then (s, none)
  else
    let v : Int × Int := match f.shadowMax with
      | .fin _ m e => ((m : Int), e + (f.eMax - 6) + 2 * ((smax : Int) - 127))
      | _ => (0, 0)
    (s, some (prs.foldl (fun acc p =>
      let acc1 := match p with
        | (.kept n1 e1, .kept n2 e2) => if n1 = n2 then addExact acc.1 acc.2 3 (e1 + e2 + sigma) else acc
        | _ => acc
      if p.1 == .dropped || p.2 == .dropped then addExact acc1.1 acc1.2 v.1 v.2 else acc1) (0, 0)))

/-- Add an exact amount to an FP32 element, rounding towards plus infinity (R180). -/
def addUp (t : Nat) (x : Int × Int) : Nat :=
  match Fmt.fp32.decode t with
  | .nan => qnan32
  | .inf n => Fmt.fp32.limit n + 1
  | .fin n m e =>
    let y := addExact (signedM n m) e x.1 x.2
    let neg : Bool := y.1 < 0
    let k := Fmt.fp32.params.encodeMag (if neg then .zero else .up) neg y.1.natAbs y.2
    if Fmt.fp32.params.maxEnc < k then (if neg then Fmt.fp32.limit true else Fmt.fp32.limit false + 1)
    else k + Fmt.fp32.params.sign neg

/-- The elements of a slab row as a shadow pass takes them: under a block scale 0xFF every one is NaN (R41, R180). -/
def SlabData.shadowRow (d : SlabData) (slab scales : List W8) (r : Nat) : List Val :=
  let es := (slabRow d.fmt d.n slab r).map d.fmt.decode
  if d.sc && byteAt scales r == 255 then es.map (fun _ => .nan) else es

/-- A shadow pass (R180) over tile t and its partner: S and B rounded up, once for the exact sum of the group; a special element
makes B plus infinity. (DESIGN CHOICE, log 158) -/
def SlabData.shadowPass (d : SlabData) (smax : Nat) (s b : List W8) : List W8 × List W8 :=
  (List.range 256).foldl (fun acc i =>
    let av := d.shadowRow d.left d.sl (i / 16)
    let bv := d.shadowRow d.right d.sr (i % 16)
    let sigma : Int := if d.sc then ((byteAt d.sl (i / 16) : Int) - 127) + ((byteAt d.sr (i % 16) : Int) - 127) else 0
    let x := shadowAdd d.fmt sigma smax av bv
    (acc.1 ++ leBytes 4 (addUp (tileElem s i) x.1),
     acc.2 ++ leBytes 4 (match x.2 with | none => 0x7F800000 | some y => addUp (tileElem b i) y))) ([], [])

/-- A scale of a pass lies above SMAX (R181): an unscaled operand counts as 0x7F, and 0xFF is above every SMAX. -/
def SlabData.aboveMax (d : SlabData) (smax : Nat) : Bool :=
  if d.sc then (d.sl ++ d.sr).any (fun b => smax < b.toNat || b == 255) else smax < 127

/-- Formats that have a shadow (R179, R181). -/
def Fmt.hasShadow (f : Fmt) : Bool :=
  match f with
  | .e4m3 | .e5m2 | .e3m2 | .e2m3 | .e2m1 | .int8 | .int4 => true
  | _ => false

/-- The verdict of an output (R182): 0 live, 1 skipped, 2 skipped by margin, 3 sampled. -/
def verdict (allLive : Bool) (s b theta : Nat) (aggr sample t i : Nat) : Nat :=
  let sv := Fmt.fp32.decode s
  let bv := Fmt.fp32.decode b
  let th := Fmt.fp32.decode theta
  let exact := (sv.add bv).1.lt th
  let margin := (sv.add (bv.scale (-(aggr : Int)))).1.lt th
  if allLive then 0 else if exact then 1 else if !margin then 0
  else if (i + t) % 2 ^ (min sample 8) = 0 then 3 else 2

/-- The value S + B by which a NaN never passes a test is exact; the decision over a tile (R182): verdicts by element. -/
def verdicts (allLive : Bool) (s b pblock : List W8) (t : Nat) : List Nat :=
  (List.range 256).map (fun i =>
    verdict allLive (tileElem s i) (tileElem b i) (tileElem pblock (i % 16)) (byteAt pblock 66 % 4) (byteAt pblock 67) t i)

/-- Tile t after the decision (R182). (DEDUCED, log 44) -/
def decidedTile (s : List W8) (vs : List Nat) : List W8 :=
  (List.range 256).flatMap (fun i => let v := vs.getD i 0; leBytes 4 (if v = 1 ∨ v = 2 then tileElem s i else 0))

/-- Tile t XOR 1 after the decision (R182). -/
def decidedPartner (vs : List Nat) : List W8 := vs.flatMap (fun v => leBytes 4 v)

end Sys2Proof.Machine
end

