-- ==== Sys2Proof/Machine/Access.lean ====
section
/-! DEFINITION. Reading and changing one part of the state: the one place where each part has its home. -/
namespace Sys2Proof.Machine

/-- The index of a cluster site. -/
def Site.idx (s : Site) : Nat := 160 * s.y.val + s.x.val

/-- The site index of wafer coordinates. -/
def siteIdx (x y : Nat) : Nat := 160 * y + x

/-- Wafer x of a site index. -/
def siteX (i : Nat) : Nat := i % 160

/-- Wafer y of a site index. -/
def siteY (i : Nat) : Nat := i / 160

/-- The field index 8y + x that holds a site (R8, R223). -/
def fieldOf (i : Nat) : Nat := 8 * (siteY i / 20) + siteX i / 20

/-- The host port of a function (R296). -/
def portOf (f : Nat) : Nat := f / 32

/-- Whether `f` is a physical function (R296). -/
def isPF (f : Nat) : Bool := f % 32 == 0

/-- Cluster state by site index. -/
def State.clu (s : State) (i : Nat) : Cluster := Tab.get {} s.cl i

/-- Change a cluster. -/
def State.modClu (s : State) (i : Nat) (f : Cluster → Cluster) : State :=
  { s with cl := Tab.put {} s.cl i (f (s.clu i)) }

/-- A core of a cluster. -/
def Cluster.getCore (c : Cluster) (n : Nat) : Core := Tab.get {} c.core n

/-- Change a core of a cluster. -/
def Cluster.modCore (c : Cluster) (n : Nat) (f : Core → Core) : Cluster :=
  { c with core := Tab.put {} c.core n (f (c.getCore n)) }

/-- A core by reference. -/
def State.core (s : State) (r : CoreRef) : Core := (s.clu (Site.idx r.site)).getCore r.n.val

/-- Change a core by reference. -/
def State.modCore (s : State) (r : CoreRef) (f : Core → Core) : State :=
  s.modClu (Site.idx r.site) (fun c => c.modCore r.n.val f)

/-- A queue of a cluster. -/
def Cluster.getQueue (c : Cluster) (q : Nat) : Queue := Tab.get {} c.queue q

/-- Change a queue of a cluster. -/
def Cluster.modQueue (c : Cluster) (q : Nat) (f : Queue → Queue) : Cluster :=
  { c with queue := Tab.put {} c.queue q (f (c.getQueue q)) }

/-- A steering unit of a cluster. -/
def Cluster.getSteer (c : Cluster) (u : Nat) : Steer := Tab.get {} c.steer u

/-- Change a steering unit of a cluster. -/
def Cluster.modSteer (c : Cluster) (u : Nat) (f : Steer → Steer) : Cluster :=
  { c with steer := Tab.put {} c.steer u (f (c.getSteer u)) }

/-- The transfer in a slot of a cluster. -/
def Cluster.getSlot (c : Cluster) (k : Nat) : Option Xfer := Tab.get none c.slot k

/-- Set a transfer slot of a cluster. -/
def Cluster.setSlot (c : Cluster) (k : Nat) (x : Option Xfer) : Cluster :=
  { c with slot := Tab.put none c.slot k x }

/-- Pass count of a tile (R130). -/
def Cluster.passCount (c : Cluster) (t : Nat) : Nat := Tab.get 0 c.pass t

/-- Group-length tag of a kilobyte (R133). -/
def Cluster.glenTag (c : Cluster) (t : Nat) : Nat := Tab.get 32 c.glen t

/-- Predictor state of a tile (R178). -/
def Cluster.getPred (c : Cluster) (t : Nat) : Pred := Tab.get {} c.pred t

/-- A partition. -/
def State.prt (s : State) (f : Nat) : Part := Tab.get {} s.part f

/-- Change a partition. -/
def State.modPart (s : State) (f : Nat) (g : Part → Part) : State :=
  { s with part := Tab.put {} s.part f (g (s.prt f)) }

/-- A configuration of a partition. -/
def Part.getCfg (p : Part) (c : Nat) : Cfg := Tab.get {} p.cfg c

/-- Change a configuration of a partition. -/
def Part.modCfg (p : Part) (c : Nat) (g : Cfg → Cfg) : Part :=
  { p with cfg := Tab.put {} p.cfg c (g (p.getCfg c)) }

/-- A configuration of a function. -/
def State.cfg (s : State) (f c : Nat) : Cfg := (s.prt f).getCfg c

/-- Change a configuration of a function. -/
def State.modCfg (s : State) (f c : Nat) (g : Cfg → Cfg) : State := s.modPart f (fun p => p.modCfg c g)

/-- A ring context by absolute number. -/
def State.ring (s : State) (r : Nat) : Ring := Tab.get {} s.hst.ring r

/-- Change a ring context. -/
def State.modRing (s : State) (r : Nat) (g : Ring → Ring) : State :=
  { s with hst := { s.hst with ring := Tab.put {} s.hst.ring r (g (s.ring r)) } }

/-- The HIF_FUNC entry of a function. -/
def State.fent (s : State) (f : Nat) : FuncEntry := Tab.get {} s.hst.func f

/-- Change the HIF_FUNC entry of a function. -/
def State.modFent (s : State) (f : Nat) (g : FuncEntry → FuncEntry) : State :=
  { s with hst := { s.hst with func := Tab.put {} s.hst.func f (g (s.fent f)) } }

/-- A host port. -/
def State.port (s : State) (h : Nat) : Port := Tab.get {} s.hst.port h

/-- Change a host port. -/
def State.modPort (s : State) (h : Nat) (g : Port → Port) : State :=
  { s with hst := { s.hst with port := Tab.put {} s.hst.port h (g (s.port h)) } }

/-- The RING block of a function. -/
def State.rwin (s : State) (f : Nat) : RingWin := Tab.get {} s.hst.win f

/-- Change the RING block of a function. -/
def State.modRwin (s : State) (f : Nat) (g : RingWin → RingWin) : State :=
  { s with hst := { s.hst with win := Tab.put {} s.hst.win f (g (s.rwin f)) } }

/-- Change the descriptors in progress. -/
def State.modDescs (s : State) (g : List Desc → List Desc) : State :=
  { s with hst := { s.hst with descs := g s.hst.descs } }

/-- A page-table entry. -/
def State.page (s : State) (p : Nat) : Page := Tab.get {} s.mem.page p

/-- Change a page-table entry. -/
def State.modPage (s : State) (p : Nat) (g : Page → Page) : State :=
  { s with mem := { s.mem with page := Tab.put {} s.mem.page p (g (s.page p)) } }

/-- A version group. -/
def State.group (s : State) (g : Nat) : Group := Tab.get {} s.mem.group g

/-- Change a version group. -/
def State.modGroup (s : State) (g : Nat) (h : Group → Group) : State :=
  { s with mem := { s.mem with group := Tab.put {} s.mem.group g (h (s.group g)) } }

/-- A controller. -/
def State.ctl (s : State) (n : Nat) : Ctl := Tab.get {} s.mem.ctl n

/-- Change a controller. -/
def State.modCtl (s : State) (n : Nat) (g : Ctl → Ctl) : State :=
  { s with mem := { s.mem with ctl := Tab.put {} s.mem.ctl n (g (s.ctl n)) } }

/-- Change the memory system. -/
def State.modMem (s : State) (g : MemSys → MemSys) : State := { s with mem := g s.mem }

/-- Change the fabric. -/
def State.modFab (s : State) (g : Fabric → Fabric) : State := { s with fab := g s.fab }

/-- The receiving end of an on-wafer link: the key of a router and a direction. -/
def linkKey (i : Nat) (d : Dir) : Nat :=
  4 * i + (match d with | .north => 0 | .east => 1 | .south => 2 | .west => 3)

/-- A link end. -/
def State.link (s : State) (k : Nat) : Link := Tab.get {} s.fab.link k

/-- Change a link end. -/
def State.modLink (s : State) (k : Nat) (g : Link → Link) : State :=
  s.modFab (fun f => { f with link := Tab.put {} f.link k (g (s.link k)) })

/-- State of a site (R416). -/
def State.siteState (s : State) (i : Nat) : SiteState := Tab.get .spare s.site i

/-- Set the state of a site. -/
def State.setSite (s : State) (i : Nat) (v : SiteState) : State := { s with site := Tab.put .spare s.site i v }

/-- A field is dark (R215). -/
def State.isDark (s : State) (fld : Nat) : Bool := s.fab.dark.getLsbD fld

/-- A field is marked out of service (R217). -/
def State.isOos (s : State) (fld : Nat) : Bool := s.fab.oos.getLsbD fld

/-- A field. -/
def State.field (s : State) (i : Nat) : FieldSt := Tab.get {} s.fld i

/-- Change a field. -/
def State.modField (s : State) (i : Nat) (g : FieldSt → FieldSt) : State :=
  { s with fld := Tab.put {} s.fld i (g (s.field i)) }

/-- An E port in its media role. -/
def State.mport (s : State) (p : Nat) : MPort := Tab.get {} s.media.port p

/-- Change an E port in its media role. -/
def State.modMport (s : State) (p : Nat) (g : MPort → MPort) : State :=
  { s with media := { s.media with port := Tab.put {} s.media.port p (g (s.mport p)) } }

/-- A stream context. -/
def State.ctx (s : State) (c : Nat) : Ctx := Tab.get {} s.media.ctx c

/-- Change a stream context. -/
def State.modCtx (s : State) (c : Nat) (g : Ctx → Ctx) : State :=
  { s with media := { s.media with ctx := Tab.put {} s.media.ctx c (g (s.ctx c)) } }

/-- Change the binding of a stream context. -/
def State.modBound (s : State) (c : Nat) (g : Binding → Binding) : State :=
  s.modCtx c (fun x => { x with bound := x.bound.map g })

/-- An E port in its Tow role. -/
def State.tport (s : State) (p : Nat) : TPort := Tab.get {} s.tow.port p

/-- Change an E port in its Tow role. -/
def State.modTport (s : State) (p : Nat) (g : TPort → TPort) : State :=
  { s with tow := { s.tow with port := Tab.put {} s.tow.port p (g (s.tport p)) } }

/-- The training state of a version group. -/
def State.tgroup (s : State) (g : Nat) : TGroup := Tab.get {} s.tow.group g

/-- Change the training state of a version group. -/
def State.modTgroup (s : State) (g : Nat) (h : TGroup → TGroup) : State :=
  { s with tow := { s.tow with group := Tab.put {} s.tow.group g (h (s.tgroup g)) } }

/-- Send something to the outside. -/
def State.emit (s : State) (o : Out) : State := { s with out := s.out ++ [o] }

/-- Take the number of the next free value, and advance the count of free values. -/
def State.takeFree (s : State) : Nat × State := (s.free, { s with free := s.free + 1 })

/-- `n` consecutive naturals from `a`. -/
def fromTo (a n : Nat) : List Nat := (List.range n).map (a + ·)

/-- Fold an operation on the state over a list. -/
def State.each {α : Type} (s : State) (l : List α) (f : State → α → State) : State := l.foldl f s

end Sys2Proof.Machine
end

