-- ==== Sys2Proof/Machine/DevMem.lean ====
section
/-! DEFINITION. Device memory by page, slot and line (R251 to R256, R261, R283 to R286): the plain reads and writes on
which every access is built. -/
namespace Sys2Proof.Machine

/-- Bytes of a page (R251). -/
def pageBytes : Nat := 2097152

/-- Page number of a device address (R251). -/
def pageOf (a : Nat) : Nat := a / 2097152

/-- Line number of a device address (R251). -/
def lineOf (a : Nat) : Nat := a / 64

/-- The items from `a` to `b` inclusive. -/
def span (a b : Nat) : List Nat := fromTo a (b + 1 - a)

/-- The pages that `n ≥ 1` bytes from `a` touch. -/
def pagesOf (a n : Nat) : List Nat := span (pageOf a) (pageOf (a + n - 1))

/-- The lines that `n ≥ 1` bytes from `a` touch. -/
def linesOf (a n : Nat) : List Nat := span (lineOf a) (lineOf (a + n - 1))

/-- A range lies within the mapped pages of a function (R253, R289, R315). -/
def State.owns (s : State) (f a n : Nat) : Bool :=
  a + n ≤ 4398046511104 && (n == 0 || (pagesOf a n).all (fun p => (s.page p).v && (s.page p).owner == f))

/-- A range lies within the placed pages of a function (R350). -/
def State.ownsPlaced (s : State) (f a n : Nat) : Bool := s.owns f a n && (n == 0 || (pagesOf a n).all (fun p => !(s.page p).coherent))

/-- A page belongs to a SEALED group (R285). -/
def State.sealedPage (s : State) (p : Nat) : Bool :=
  (s.page p).vers && (s.group (s.page p).vgroup).state == .sealed

/-- A range touches a page of a SEALED group. -/
def State.touchesSealed (s : State) (a n : Nat) : Bool := n != 0 && (pagesOf a n).any s.sealedPage

/-- The current slot of a group (R283). -/
def Group.slot (g : Group) : Nat := g.vg.toNat % 2

/-- The slot a read takes from a page: that of the captured parity for a view (the list of groups whose V_g was odd),
else the current slot (R284, R286). (DEDUCED, log 71) -/
def State.readSlot (s : State) (view : Option (List Nat)) (p : Nat) : Nat :=
  if (s.page p).vers then
    match view with
    | some odd => if odd.contains (s.page p).vgroup then 1 else 0
    | none => (s.group (s.page p).vgroup).slot
  else 0

/-- The slots that a write from a transfer, a COPY, BAR4 or the engine changes (R284, R285). -/
def State.writeSlots (s : State) (p : Nat) : List Nat :=
  if (s.page p).vers then (if s.sealedPage p then [] else [0, 1]) else [0]

/-- The stored bytes of a slot. -/
def MemSys.slotMem (m : MemSys) (slot : Nat) : Mem := if slot = 1 then m.slot1 else m.bytes

/-- The key of a line of a slot among the uncorrectable lines. -/
def badKey (slot line : Nat) : Nat := line + 68719476736 * slot

/-- Read one byte of device memory. -/
def State.devByte (s : State) (view : Option (List Nat)) (a : Nat) : W8 :=
  (s.mem.slotMem (s.readSlot view (pageOf a))).get a

/-- Read `n` bytes of device memory. -/
def State.devRead (s : State) (view : Option (List Nat)) (a n : Nat) : List W8 :=
  (fromTo a n).map (s.devByte view)

/-- The number of stacks a spread code names (R255, R292). -/
def spreadOf (code : Nat) : Nat :=
  if code = 0 then 32 else if code = 1 then 8 else if code = 2 then 4 else if code = 3 then 2 else 1

/-- The stack that holds an address under a spread and set (R256). -/
def stackAt (spread setbase a : Nat) : Nat :=
  setbase + ((a / 4096 % 512) + pageOf a) % spreadOf spread

/-- The stack that holds an address (R256). -/
def State.stackOf (s : State) (a : Nat) : Nat :=
  let p := s.page (pageOf a)
  if p.coherent then p.home else
    match p.moving with
    | some (sp, b) => if a / 4096 % 512 < p.chunk then stackAt sp b a else stackAt p.spread p.setbase a
    | none => stackAt p.spread p.setbase a

/-- The name of a line of a page's slot on its stack: the page and slot, and the line within the page's region (R256). -/
def localLine (spread slot a : Nat) : Nat :=
  (2 * pageOf a + slot) * 32768 + (a / 4096 % 512 / spread) * 64 + a / 64 % 64

/-- The spread with which a page's address is served now (R256, R277). -/
def State.spreadAt (s : State) (a : Nat) : Nat :=
  let p := s.page (pageOf a)
  if p.coherent then 1 else
    match p.moving with
    | some (sp, _) => if a / 4096 % 512 < p.chunk then spreadOf sp else spreadOf p.spread
    | none => spreadOf p.spread

/-- The cache set of a line: regions follow one another over the 65,536 sets (R264). (DESIGN CHOICE, log 171) -/
def setOf (line : Nat) : Nat := (line / 32768 * 1024 + line % 32768) % 65536

/-- The cached copy of a line of a slot at the controller that serves it (R264). -/
def State.cachedLine (s : State) (slot line : Nat) : Option CLine :=
  let name := localLine (s.spreadAt (64 * line)) slot (64 * line)
  (Tab.get [] (s.ctl (s.stackOf (64 * line))).set (setOf name)).find? (fun x => x.line == name)

/-- A read of a line meets an uncorrectable error: in the stack, or in a dirty cached copy (R261, R265). -/
def State.lineBad (s : State) (slot line : Nat) : Bool :=
  s.mem.bad.contains (badKey slot line)
    || (s.mem.cacheBad.contains (badKey slot line) && (match s.cachedLine slot line with
      | some x => x.dirty
      | none => false))

/-- The uncorrectable lines that a read of `n` bytes from `a` meets (R261, R265). -/
def State.badRead (s : State) (view : Option (List Nat)) (a n : Nat) : List Nat :=
  if n = 0 then [] else (linesOf a n).filter (fun l => s.lineBad (s.readSlot view (l / 32768)) l)

/-- The lines that a write covers only in part. -/
def partLines (a n : Nat) : List Nat := (linesOf a n).filter (fun l => !(a ≤ 64 * l && 64 * l + 64 ≤ a + n))

/-- The lines that a write covers whole. -/
def wholeLines (a n : Nat) : List Nat := (linesOf a n).filter (fun l => a ≤ 64 * l && 64 * l + 64 ≤ a + n)

/-- The uncorrectable lines that a write covers only in part (R261, R262). -/
def State.badMerge (s : State) (a n : Nat) : List Nat :=
  if n = 0 then [] else
    (partLines a n).filter (fun l => (s.writeSlots (l / 32768)).any (fun k => s.lineBad k l))

/-- Write bytes in one slot; whole lines written become sound (R261). -/
def MemSys.writeSlot (m : MemSys) (slot a : Nat) (bs : List W8) : MemSys :=
  let m1 := if slot = 1 then { m with slot1 := m.slot1.write a bs } else { m with bytes := m.bytes.write a bs }
  if (m.bad = [] && m.soft = [] && m.cacheBad = []) || bs = [] then m1
  else
    let sound (l : List Nat) : List Nat := l.filter (fun k => !((wholeLines a bs.length).map (badKey slot)).contains k)
    { m1 with bad := sound m.bad, soft := sound m.soft, cacheBad := sound m.cacheBad }

/-- Split a write at page boundaries: address and bytes of each part. -/
def splitPages (a : Nat) (bs : List W8) : List (Nat × List W8) :=
  if bs = [] then [] else
    (pagesOf a bs.length).map (fun p =>
      let lo := max a (p * pageBytes)
      let hi := min (a + bs.length) ((p + 1) * pageBytes)
      (lo, (bs.drop (lo - a)).take (hi - lo)))

/-- Write bytes to device memory, in every slot that R284 and R285 give. -/
def State.devWrite (s : State) (a : Nat) (bs : List W8) : State :=
  s.each (splitPages a bs) (fun s e =>
    s.modMem (fun m => (s.writeSlots (pageOf e.1)).foldl (fun m k => m.writeSlot k e.1 e.2) m))

end Sys2Proof.Machine
end

