-- ==== Sys2Proof/Machine/Regs.lean ====
section
/-! DEFINITION. BAR0 offsets (R299, R139, R301, R335), registers that hold what is written to them, and counter
pairs (R140, R510). -/
namespace Sys2Proof.Machine

/-- The register page of a cluster (R139). -/
def clPage (i : Nat) : Nat :=
  0x02800000 + 0x40000 * fieldOf i + 0x200 * (20 * (siteY i % 20) + siteX i % 20)

/-- The window of a field (R139). -/
def fieldWin (fld : Nat) : Nat := 0x02800000 + 0x40000 * fld

/-- The register set of a partition (R335). -/
def partSet (f : Nat) : Nat := 0x400000 + 0x1000 * f

/-- The HIF_FUNC entry of a function (R301). -/
def hifFunc (f : Nat) : Nat := 0x101000 + 64 * f

/-- The INTEG_FUNC entry of a function, and the other blocks' first offsets (R299). -/
def fabBase : Nat := 0x800000
def memBase : Nat := 0xC00000
def mediaBase : Nat := 0x1000000
def towBase : Nat := 0x1400000
def integBase : Nat := 0x1800000
def pwrBase : Nat := 0x1C00000
def secBase : Nat := 0x2000000
def mgmtBase : Nat := 0x2400000

/-- A function exists (R301): a physical function, or a virtual one that VF Enable and NumVFs cover. (DEDUCED, log 15) -/
def State.exists (s : State) (f : Nat) : Bool :=
  isPF f || ((s.port (portOf f)).vfEnable && f % 32 ≤ (s.port (portOf f)).numVfs)

/-- The host reaches the registers and BARs of a function (R345): the engine is ready, the port is out of PERST#, and the
function exists. -/
def State.reaches (s : State) (f : Nat) : Bool := s.ready && !(s.port (portOf f)).perst && s.exists f

/-- The host reaches a physical function. -/
def State.reachesPF (s : State) (f : Nat) : Bool := isPF f && s.reaches f

/-- HIF counters (R301). -/
def offBadAccess : Nat := 0x100008
def offDbBad : Nat := 0x100010
def offEvlost (f : Nat) : Nat := hifFunc f + 0x20

/-- The reset value of a register that holds what is written to it. -/
def regReset (off : Nat) : W32 :=
  if off = integBase then 0x86000080
  else if off = memBase + 8 then 0x80104B32
  else if memBase + 0x100 ≤ off ∧ off < memBase + 0x500 ∧ off % 16 = 8 then 64
  else if off = fabBase + 0x20 then 64
  else if off = fabBase + 0x24 then 1000
  else if off = fabBase + 0x50 then 0x00400003
  else if off = towBase + 0x0C then 200
  else if off = pwrBase + 0x70 then 0x051800A8
  else if 0x2800000 ≤ off ∧ off < 0x3800000 ∧ (off - 0x2800000) % 0x40000 = 0x32008 then 0x00100002
  else if integBase + 0x100 ≤ off ∧ off < integBase + 0x500 ∧ off % 16 = 4 then 20
  else 0

/-- A register that holds what is written to it: kept as the difference from its reset value. (DESIGN CHOICE, log 10) -/
def State.reg (s : State) (off : Nat) : W32 := Tab.get 0 s.regs off ^^^ regReset off

/-- Set a register that holds what is written to it. -/
def State.setReg (s : State) (off : Nat) (v : W32) : State := { s with regs := Tab.put 0 s.regs off (v ^^^ regReset off) }

/-- A counter pair. -/
def State.ctr (s : State) (off : Nat) : Counter := Tab.get {} s.ctrs off

/-- Set a counter pair. -/
def State.setCtr (s : State) (off : Nat) (c : Counter) : State := { s with ctrs := Tab.put {} s.ctrs off c }

/-- Add to a counter (R510): it sticks at 2^48 - 1 and sets OVF. -/
def Counter.add (c : Counter) (n : Nat) : Counter :=
  if 281474976710655 < c.count + n then { count := 281474976710655, ovf := true, raised := c.raised }
  else { c with count := c.count + n }

/-- Adding `n` makes the counter stick for the first time since CLR (R511). -/
def Counter.sticks (c : Counter) (n : Nat) : Bool := 281474976710655 < c.count + n && !c.raised

/-- The high word of a counter pair (R140). -/
def Counter.high (c : Counter) : W32 := BitVec.ofNat 32 (c.count / 4294967296 + if c.ovf then 2147483648 else 0)

/-- The low word of a counter pair. -/
def Counter.low (c : Counter) : W32 := BitVec.ofNat 32 c.count

/-- The functions that one site's cluster page or one function's register set names (R511): the owner of the cluster,
the function of the set, or none. -/
def State.ctrFunc (s : State) (off : Nat) : Option Nat :=
  if 0x400000 ≤ off ∧ off < 0x440000 then some ((off - 0x400000) / 0x1000)
  else if 0x101000 ≤ off ∧ off < 0x102000 then some ((off - 0x101000) / 64)
  else if 0x2800000 ≤ off ∧ off < 0x3800000 then
    let fld := (off - 0x2800000) / 0x40000
    let n := (off - 0x2800000) % 0x40000 / 0x200
    if n < 400 then (s.clu (siteIdx (20 * (fld % 8) + n % 20) (20 * (fld / 8) + n / 20))).owner else none
  else none

end Sys2Proof.Machine
end

