-- ==== Sys2Proof/Machine/Caches.lean ====
section
/-! DEFINITION. Memory-side caches, lifts and access counts (R258, R259, R264 to R269, R275): what a demand access to a line does
beside reading or writing it. -/
namespace Sys2Proof.Machine

/-- Offsets of a controller's counters (R292). -/
def offCtl (n off : Nat) : Nat := memBase + 0x800 + 64 * n + off

/-- A line is in the cache (R264). -/
def Ctl.cached (c : Ctl) (line : Nat) : Bool := (Tab.get [] c.set (setOf line)).any (fun l => l.line == line)

/-- A stream of a lift. -/
def Ctl.getStream (c : Ctl) (k : Nat) : Option Stream := Tab.get none c.stream k

/-- Change the stream of a lift that a prefetched line belongs to, if its slot still holds that stream. -/
def Ctl.modStream (c : Ctl) (k : Nat × Nat) (f : Stream → Stream) : Ctl :=
  { c with stream := Tab.put none c.stream k.1 ((c.getStream k.1).map (fun x => if x.serial = k.2 then f x else x)) }

/-- A prefetched line is hit before it is evicted, or evicted without a hit (R267). -/
def Stream.useful (now : Nat) (x : Stream) : Stream := { x with dist := min 64 (2 * x.dist), lastHit := now }
def Stream.wasted (x : Stream) : Stream := { x with dist := max 4 (x.dist / 2) }

/-- Put a line at the front of its set; the least recently used line leaves a full set (R264). (DEDUCED, log 66) -/
def Ctl.fill (c : Ctl) (x : CLine) : Ctl × Option CLine :=
  let l := Tab.get [] c.set (setOf x.line)
  let out := if 16 ≤ l.length then l.getLast? else none
  ({ c with set := Tab.put [] c.set (setOf x.line) (x :: l.take 15) }, out)

/-- A miss to `line` completes a run of three, upwards or downwards, within 256 requests (R267). -/
def Ctl.forms (c : Ctl) (line : Nat) : Option Bool :=
  let run (a b : Nat) : Bool := c.misses.any (fun x => x.1 == b && x.2 + 256 > c.requests &&
    c.misses.any (fun y => y.1 == a && x.2 < y.2))
  if 2 ≤ line && run (line - 1) (line - 2) then some false
  else if run (line + 1) (line + 2) then some true else none

/-- The slot for a new stream: a free one, or that of the stream hit least recently (R268). -/
def Ctl.streamSlot (c : Ctl) : Nat :=
  match (List.range 64).find? (fun k => (c.getStream k).isNone) with
  | some k => k
  | none => (List.range 64).foldl (fun b k =>
      match c.getStream k, c.getStream b with
      | some x, some y => if x.lastHit < y.lastHit then k else b
      | _, _ => b) 0

/-- The slot of the stream that a demand address continues (R267). -/
def Ctl.continues (c : Ctl) (line : Nat) : Option Nat :=
  (List.range 64).find? (fun k => match c.getStream k with
    | some x => if x.down then line + 1 == x.last else line == x.last + 1
    | none => false)

/-- The stream that a demand address continues moves to that address (R267). -/
def Ctl.follow (c : Ctl) (line : Nat) : Ctl :=
  match c.continues line with
  | some k => { c with stream := Tab.put none c.stream k ((c.getStream k).map (fun x => { x with last := line, lastHit := c.requests })) }
  | none => c

/-- A miss continues a stream, or forms a new one (R267, R268). -/
def Ctl.missed (c : Ctl) (line : Nat) : Ctl :=
  match c.continues line, c.forms line with
  | none, some down =>
    { c with stream := Tab.put none c.stream c.streamSlot (some { last := line, ahead := line, down := down, dist := 4,
                                                                   lastHit := c.requests, serial := c.streamNext }),
             streamNext := c.streamNext + 1 }
  | _, _ => c.follow line

/-- Streams without a hit for 65,536 requests end (R268). -/
def Ctl.expire (c : Ctl) : Ctl :=
  { c with stream := c.stream.filter (fun e => match e.2 with
      | some x => c.requests < x.lastHit + 65536
      | none => false) }

/-- The page region that holds a line's name has a given first name and length. -/
def sameRegion (a b : Nat) : Bool := a / 32768 == b / 32768

/-- An error of a cached copy is met (R265): that of a clean copy has no effect, since the line is read again from the stack, and that of
a dirty one is an uncorrectable error of the line. -/
def MemSys.meetCopy (m : MemSys) (key : Nat) (dirty : Bool) : MemSys :=
  if m.cacheBad.contains key then
    { m with cacheBad := m.cacheBad.filter (· != key), bad := if dirty && !m.bad.contains key then m.bad ++ [key] else m.bad }
  else m

/-- A line that leaves a cache (R264, R265, R267): the errors of its copy, and the stream that brought it in. -/
def Ctl.evict (c : Ctl) (y : Option CLine) : Ctl :=
  match y.bind CLine.lift with
  | some k => c.modStream k Stream.wasted
  | none => c
def MemSys.evict (m : MemSys) (y : Option CLine) : MemSys :=
  match y with
  | some x => m.meetCopy x.key x.dirty
  | none => m

/-- A read of a line from its stack corrects an error that can be corrected and writes the line back (R259). -/
def MemSys.correct (m : MemSys) (key : Nat) : MemSys := { m with soft := m.soft.filter (· != key) }

/-- A demand access of one line at its controller (R258, R259, R264, R265, R267): the cache, the lift and the error reports, with the
counters to advance and by how much; `reads` says that the stack is read on a miss. -/
def State.touchCore (s : State) (slot a : Nat) (write reads : Bool) : State × List (Nat × Nat) :=
  let n := s.stackOf a
  let line := localLine (s.spreadAt a) slot a
  let key := badKey slot (lineOf a)
  let c0 := s.ctl n
  let c := { c0 with requests := c0.requests + 1, reports := 0, scrubbing := false }.expire
  let l := Tab.get [] c.set (setOf line)
  let told := if c0.reports = 0 then [] else [(offCtl n 8, c0.reports)]
  match l.find? (fun x => x.line == line) with
  | some x =>
    let c1 := { c with set := Tab.put [] c.set (setOf line) ({ x with dirty := x.dirty || write, lift := none } :: l.filter (fun y => y.line != line)) }
    let c2 := match x.lift with
      | some k => c1.modStream k (Stream.useful c.requests)
      | none => c1
    ((s.modMem (fun m => m.meetCopy key x.dirty)).modCtl n (fun _ => c2.follow line),
     told ++ (offCtl n 0x10, 1) :: (if x.lift.isSome then [(offCtl n 0x20, 1)] else []))
  | none =>
    let f := c.fill { line := line, key := key, dirty := write, lift := none }
    let c1 := (f.1.evict f.2).missed line
    let c2 := { c1 with misses := (line, c.requests) :: c1.misses.filter (fun x => c.requests < x.2 + 256) }
    let soft := reads && s.mem.soft.contains key
    ((s.modMem (fun m => (if soft then m.correct key else m).evict f.2)).modCtl n (fun _ => c2),
     told ++ (if soft then [(offCtl n 8, 1)] else []) ++ (offCtl n 0x18, 1) ::
       (if (f.2.bind CLine.lift).isSome then [(offCtl n 0x28, 1)] else []))

/-- The crust-block pairs that a field faces (R9, R275). -/
def pairsFaced (fld : Nat) : List Nat :=
  let x := fld % 8
  let y := fld / 8
  (if y = 0 then [x / 4] else []) ++ (if x = 7 then [2 + y / 4] else []) ++ (if y = 7 then [4 + (7 - x) / 4] else [])
    ++ (if x = 0 then [6 + (7 - y) / 4] else [])

/-- Count `n` line accesses of a page by a cluster's field, or by none (R275). -/
def State.countAccess (s : State) (page n : Nat) (fld : Option Nat) : State :=
  s.modMem (fun m =>
    let c : MigCount := Tab.get {} m.mig page
    let ps := match fld with | some f => pairsFaced f | none => []
    let d : MigCount :=
      { c with total := c.total + n, pair := ps.foldl (fun t j => Tab.put 0 t j (Tab.get 0 t j + n)) c.pair }
    { m with mig := Tab.put {} m.mig page d })

end Sys2Proof.Machine
end

