-- ==== Sys2Proof/Machine/Ops.lean ====
section
/-! DEFINITION. The shared operations: counters and their overflow event, event records, interrupts, completion records
and ring errors (R307, R322 to R331, R507 to R511). -/
namespace Sys2Proof.Machine

/-- The completion status codes (R326). -/
def stOk : W16 := 0x0000
def stOkFlags : W16 := 0x0001
def stFormat : W16 := 0x0101
def stIllegal : W16 := 0x0102
def stDrain : W16 := 0x0201
def stStall : W16 := 0x0202
def stMemUE : W16 := 0x0301
def stFieldLost : W16 := 0x0401
def stUnreachable : W16 := 0x0402
def stReset : W16 := 0x0501
def stStepRepeat : W16 := 0x0601
def stChecksum : W16 := 0x0602
def stSde : W16 := 0x0701
def stDigest : W16 := 0x0702
def stDropped : W16 := 0x0801
def stDeadline : W16 := 0x0802
def stMakeup : W16 := 0x0901

/-- A report with a status alone. -/
def rep (st : W16) : Report := { status := st }

/-- PHASE of record number `c` in a ring of 2^log records (R323). -/
def phaseOf (c : W32) (log : Nat) : Nat := if c.toNat.testBit log then 0 else 1

/-- The owner of a ring (R303). -/
def State.ringOwner (s : State) (r : Nat) : Option Nat :=
  (List.range 64).find? (fun f => (s.fent f).base ≤ r && r < (s.fent f).base + (s.fent f).count)

/-- The absolute number of ring `i` of a function (R303). -/
def State.absRing (s : State) (f i : Nat) : Nat := if isPF f then i else (s.fent f).base + i

/-- A ring's number in its function's numbering (R303). -/
def State.ringNum (s : State) (f r : Nat) : Nat := if isPF f then r else r - (s.fent f).base

/-- A function's default event ring (R301). -/
def State.defRing (s : State) (f : Nat) : Nat := s.absRing f (s.fent f).evring

/-- A partition reset of the function is in progress. -/
def State.resetting (s : State) (f : Nat) : Bool := (s.prt f).reset.isSome

/-- The crust block that caches a ring's context and takes its descriptors: chosen by the ring number (R306, R313).
(DESIGN CHOICE, log 84) -/
def ringBlock (r : Nat) : Nat := r % 16

/-- The ring's context is cached (R306). -/
def State.ctxCached (s : State) (r : Nat) : Bool := (Tab.get [] s.hst.cached (ringBlock r)).contains r

/-- A use of the ring's context reads it from its stack, where it lies in an uncorrectable line (R306, R307). -/
def State.ctxBad (s : State) (r : Nat) : Bool :=
  match s.mem.bad with
  | [] => false
  | l => l.contains (Config.contextLine r) && !s.ctxCached r

/-- Contexts are written back: their whole lines are replaced (R261, R306). -/
def State.writeBack (s : State) (l : List Nat) : State :=
  if s.mem.bad = [] ∨ l = [] then s
  else s.modMem (fun m => { m with bad := m.bad.filter (fun k => !(l.map Config.contextLine).contains k) })

/-- A ring's context is used: it is in the cache of its crust block, and one that leaves the cache is written back (R306).
(DESIGN CHOICE, log 84) -/
def State.useCtx (s : State) (r : Nat) : State :=
  let l := r :: (Tab.get [] s.hst.cached (ringBlock r)).filter (· != r)
  ({ s with hst := { s.hst with cached := Tab.put [] s.hst.cached (ringBlock r) (l.take 4096) } }).writeBack (l.drop 4096)

/-- The bytes of an event record (R328). -/
def eventBytes (e : Event) (phase : Nat) : List W8 :=
  leBytes 2 e.typ.toNat ++ leBytes 2 0 ++ leBytes 4 e.ring ++ leBytes 8 e.time ++ leBytes 15 e.data ++ leBytes 1 phase

/-- The bytes of a completion record (R322). -/
def recordBytes (tag index : Nat) (p : Report) (phase : Nat) : List W8 :=
  leBytes 4 tag ++ leBytes 4 index ++ leBytes 2 p.status.toNat ++ leBytes 1 p.flags.toNat
    ++ leBytes 1 (16 * p.source.toNat + p.code.toNat) ++ leBytes 1 p.cx ++ leBytes 1 p.cy ++ leBytes 1 p.core
    ++ leBytes 1 phase ++ leBytes 8 p.r0 ++ leBytes 8 p.r1

/-- A word of the MSI-X tables where nothing has written it: each vector is masked (R294). (PRESUMED, log 157) -/
def msixReset (k : Nat) : W32 := if k % 4 = 3 then 1 else 0

/-- A vector of a function's MSI-X table is masked (R294). (PRESUMED, log 157) -/
def State.masked (s : State) (f v : Nat) : Bool := bitOf (Tab.get 1 s.hst.msix (8192 * f + 4 * v + 3)).toNat 0

/-- A message of a function's vector: sent, or pending while the vector is masked (R294). (PRESUMED, log 157) -/
def State.sendMsix (s : State) (f v : Nat) : State :=
  if s.masked f v then { s with hst := { s.hst with pba := Tab.put false s.hst.pba (2048 * f + v) true } } else s.emit (.msix f v)

/-- The interrupt after a record (R324): sent if the ring or the descriptor asks for it, ARMED is set and ICOAL
microseconds have passed since the ring's last interrupt. (DEDUCED, log 77) -/
def State.interrupt (s : State) (r f : Nat) (force : Bool) : State :=
  let g := s.ring r
  let quiet := match g.lastIrq with
    | none => true
    | some t => t + g.icoal ≤ s.now
  if (g.irqEn || force) && g.armed && quiet then
    (s.modRing r (fun g => { g with armed := false, lastIrq := some s.now })).sendMsix f g.vector
  else s

/-- An event ring has room for a record (R328). -/
def Ring.evRoom (g : Ring) : Bool := (g.cprod - g.tail).toInt < (2 ^ g.logsz : Nat)

/-- Where event operations send further events (function, ring, event). -/
abbrev Post := State → Nat → Nat → Event → State

/-- An event for a subscription (R508): a full queue drops its oldest event and counts it. -/
def Subscription.push (x : Subscription) (e : Event) : Subscription :=
  if x.queue.length < 256 then { x with queue := x.queue ++ [e] }
  else { queue := x.queue.drop 1 ++ [e], dropped := x.dropped + 1 }

/-- Raise an event for a function and, when `wide`, engine-wide (R507, R508): one record per function. -/
def State.raiseWith (post : Post) (s : State) (conc : Option (Nat × Nat)) (wide : Bool) (typ : W16) (data : Nat) : State :=
  let s1 := match conc with
    | some (f, r) => post s f (s.defRing f) { typ := typ, ring := r, time := s.now, data := data }
    | none => s
  if wide then
    let e : Event := { typ := typ, ring := 0, time := s.now, data := data }
    let s2 := s1.each ([0, 32].filter (fun f => match conc with | some (c, _) => f != c | none => true))
      (fun t f => post t f (t.defRing f) e)
    { s2 with evlog := (e :: s2.evlog).take 4096, subs := s2.subs.map (·.push e) }
  else s1

/-- Add to a counter pair; when it sticks, COUNTER_OVF (R510, R511). -/
def State.bumpWith (post : Post) (s : State) (off n : Nat) : State :=
  let c := s.ctr off
  let s1 := s.setCtr off { c.add n with raised := c.raised || c.sticks n }
  if c.sticks n then
    let own := s.ctrFunc off
    s1.raiseWith post (own.map (fun f => (f, 0))) true 0x0060
      (off + 67108864 * (match own with | some f => f | none => 63))
  else s1

/-- A demand access of one line (R264, R267), with its counters. -/
def State.touchWith (post : Post) (s : State) (slot a : Nat) (write reads : Bool) : State :=
  let x := s.touchCore slot a write reads
  x.2.foldl (fun t e => t.bumpWith post e.1 e.2) x.1

/-- The demand accesses of `n` bytes from `a`, by a cluster's field or by none (R264, R275): a write that does not cover a line whole
reads it too. -/
def State.demandWith (post : Post) (s : State) (view : Option (List Nat)) (a n : Nat) (write : Bool) (fld : Option Nat) : State :=
  if n = 0 then s else
    let s1 := s.each (linesOf a n) (fun t l =>
      if write then (t.writeSlots (l / 32768)).foldl (fun t k => t.touchWith post k (64 * l) true ((partLines a n).contains l)) t
      else t.touchWith post (t.readSlot view (l / 32768)) (64 * l) false true)
    s1.each (pagesOf a n) (fun t p => t.countAccess p ((linesOf a n).filter (fun l => l / 32768 == p)).length fld)

/-- A line of device memory is found uncorrectable (R262): count, log, event 0x0008 to the owner and engine-wide. -/
def State.memUEWith (post : Post) (s : State) (source line : Nat) : State :=
  let a := 64 * line
  let own := (s.page (pageOf a)).owner
  let stk := s.stackOf a
  let s1 := s.bumpWith post (memBase + 0x30) 1
  let s2 := if s1.mem.ueLog.valid then s1 else
    s1.modMem (fun m => { m with ueLog := { valid := true, func := own, stack := stk, source := source, addr := a } })
  s2.raiseWith post (some (own, 0)) true 0x0008 (a + 2 ^ 42 * stk + 2 ^ 47 * source + 2 ^ 51 * own)

/-- A ring enters error (R331): ERROR and ECAUSE are set and RING_ERROR goes to its owner's default event ring. A ring in
error stays as it is. -/
def State.ringErrWith (post : Post) (s : State) (r : Nat) (cause : W8) : State :=
  if (s.ring r).error then s
  else
    let s1 := s.modRing r (fun g => { g with error := true, ecause := cause })
    match s.ringOwner r with
    | some f => s1.raiseWith post (some (f, s.ringNum f r)) false 0x0003 cause.toNat
    | none => s1

/-- Write one 32-byte record of a ring at CPROD, advance CPROD and interrupt (R323, R324, R328); a CBASE in device memory
outside the owner's pages puts the ring in error instead (R331). (DEDUCED, log 80) -/
def State.recordWith (post : Post) (s : State) (f r : Nat) (bytes : Nat → List W8) (force : Bool) : State :=
  let g := s.ring r
  let a := g.cbase.toNat + 32 * (g.cprod.toNat % 2 ^ g.logsz)
  let bs := bytes (phaseOf g.cprod g.logsz)
  if g.cloc && !s.owns f a 32 then s.ringErrWith post r 4
  else
    let s1 := if g.cloc then
        (s.badMerge a 32).foldl (fun t l => t.memUEWith post 8 l) ((s.demandWith post none a 32 true none).devWrite a bs)
      else { s with hst := { s.hst with mem := s.hst.mem.write a bs } }
    ((s1.useCtx r).modRing r (fun g => { g with cprod := g.cprod + 1 })).interrupt r f force

/-- Count an event that was not written (R328, R507). -/
def State.evLostWith (post : Post) (s : State) (f : Nat) : State := s.bumpWith post (offEvlost f) 1

/-- Write an event to a ring of a function. The first argument bounds how often writing an event may itself raise
events. Events for a resetting partition are discarded (R339); an event whose ring is disabled, in error or full is
counted (R328, R507). (DESIGN CHOICE, log 79) -/
def State.postOn : Nat → Post
  | 0 => fun s _ _ _ => s
  | k + 1 => fun s f r e =>
    let g := s.ring r
    if s.resetting f then s
    else if g.kind != .event || g.error || s.ringOwner r != some f then s.evLostWith (State.postOn k) f
    else if s.ctxBad r then
      ((s.bumpWith (State.postOn k) (memBase + 0x30) 1).ringErrWith (State.postOn k) r 1).evLostWith (State.postOn k) f
    else if !g.evRoom then
      (s.modRing r (fun g => { g with ovfDue := true })).evLostWith (State.postOn k) f
    else s.recordWith (State.postOn k) f r (eventBytes e) false

/-- Write an event to a ring. -/
def State.post : Post := State.postOn 4

/-- Raise an event for a function (with the ring number in its numbering) and engine-wide. -/
def State.raise (s : State) (conc : Option (Nat × Nat)) (wide : Bool) (typ : W16) (data : Nat) : State :=
  s.raiseWith State.post conc wide typ data

/-- Raise an engine-wide event. -/
def State.raiseWide (s : State) (typ : W16) (data : Nat) : State := s.raise none true typ data

/-- Count at a counter pair. -/
def State.bump (s : State) (off n : Nat) : State := s.bumpWith State.post off n

/-- Demand accesses of device memory (R264, R275). -/
def State.touchLine (s : State) (slot a : Nat) (write reads : Bool) : State := s.touchWith State.post slot a write reads
def State.demand (s : State) (view : Option (List Nat)) (a n : Nat) (write : Bool) (fld : Option Nat) : State :=
  s.demandWith State.post view a n write fld

/-- Meet an uncorrectable line (R262). -/
def State.memUE (s : State) (source line : Nat) : State := s.memUEWith State.post source line

/-- Meet several uncorrectable lines. -/
def State.memUEs (s : State) (source : Nat) (lines : List Nat) : State := s.each lines (fun t l => t.memUE source l)

/-- Put a ring in error (R331). -/
def State.ringErr (s : State) (r : Nat) (cause : W8) : State := s.ringErrWith State.post r cause

/-- Write bytes to device memory for a writer with a SOURCE code; partly written uncorrectable lines are met (R261,
R262). -/
def State.devStore (s : State) (source a : Nat) (bs : List W8) : State :=
  (s.devWrite a bs).memUEs source (s.badMerge a bs.length)

/-- When an overflowed event ring has room again, EV_OVERFLOW is written first (R328). (DEDUCED, log 78) -/
def State.evRoomBack (s : State) (f r : Nat) : State :=
  let g := s.ring r
  if g.kind == .event && g.ovfDue && g.evRoom then
    (s.modRing r (fun g => { g with ovfDue := false })).post f r
      { typ := 0x0005, ring := s.ringNum f r, time := s.now, data := (s.ctr (offEvlost f)).count }
  else s

/-- The descriptor in progress with a ring and index. -/
def State.desc (s : State) (r : Nat) (i : W32) : Option Desc :=
  s.hst.descs.find? (fun d => d.ring == r && d.index == i)

/-- Change a descriptor in progress. -/
def State.modDesc (s : State) (r : Nat) (i : W32) (g : Desc → Desc) : State :=
  s.modDescs (fun l => l.map (fun d => if d.ring == r && d.index == i then g d else d))

/-- `n` bytes of a descriptor's raw bytes as a number. -/
def Desc.field (d : Desc) (off n : Nat) : Nat := leNat ((d.raw.drop off).take n)

/-- OPCODE (R314). -/
def Desc.opcode (d : Desc) : Nat := d.field 0 1

/-- SERIAL, IRQ and TRAIN of CTL (R314). -/
def Desc.serial (d : Desc) : Bool := bitOf (d.field 1 1) 5
def Desc.irq (d : Desc) : Bool := bitOf (d.field 1 1) 6
def Desc.train (d : Desc) : Bool := bitOf (d.field 1 1) 7

/-- TAG (R314). -/
def Desc.tag (d : Desc) : Nat := d.field 4 4

/-- Halt the running cores of the given clusters (R116). -/
def State.haltCores (s : State) (sites : List Nat) : State :=
  s.each sites (fun s i => s.modClu i (fun c =>
    { c with core := c.core.map (fun e => (e.1, if e.2.seq == .running then { e.2 with seq := .halted } else e.2)) }))

/-- Drop a descriptor in progress and count INPROG down (R304). -/
def State.dropDesc (s : State) (r : Nat) (i : W32) : State :=
  (s.modDescs (fun l => l.filter (fun d => !(d.ring == r && d.index == i)))).modRing r
    (fun g => { g with inprog := g.inprog - 1 })

/-- The running launches taken from a ring: function and CFGID. -/
def State.runsOfRing (s : State) (r : Nat) : List (Nat × Nat) :=
  s.part.flatMap (fun e => e.2.cfg.filterMap (fun c =>
    match c.2.run with
    | some u => match u.desc with
      | some (q, _) => if q == r then some (e.1, c.1) else none
      | none => none
    | none => none))

/-- The engine reads a context with an uncorrectable error (R307): the ring is in error with ECAUSE 0x1, MEM_UE counts,
and the launches taken from it halt without completions. -/
def State.ctxError (s : State) (r : Nat) : State :=
  let s1 := (s.bump (memBase + 0x30) 1).ringErr r 1
  s1.each (s1.runsOfRing r) (fun s fc =>
    let c := s.cfg fc.1 fc.2
    let s2 := (s.haltCores c.clusters).modCfg fc.1 fc.2 (fun c => { c with run := none, halted := some (rep stMemUE) })
    match c.run with
    | some u => match u.desc with
      | some (q, i) => s2.dropDesc q i
      | none => s2
    | none => s2)

/-- A descriptor completes (R322 to R327): it is no longer in progress, and its record is written unless its partition
resets (R339) or its ring is in error with ECAUSE 0x1 (R307). -/
def State.completeDesc (s : State) (r : Nat) (i : W32) (p : Report) : State :=
  match s.desc r i with
  | none => s
  | some d =>
    let s1 := s.dropDesc r i
    let g := s1.ring r
    if s1.resetting d.func || g.kind == .disabled || (g.error && g.ecause == 1) then s1
    else if s1.ctxBad r then s1.ctxError r
    else s1.recordWith State.post d.func r (recordBytes d.tag i.toNat p) d.irq

end Sys2Proof.Machine
end

