-- ==== Sys2Proof/Machine/Runs.lean ====
section
/-! DEFINITION. The end of launches and frame-slot runs: frame reports (R360, R363), halting (R116, R138, R155, R263), and
core faults (R113 to R118). -/
namespace Sys2Proof.Machine

/-- `n` bytes of a stream context's record as a number (R349). -/
def Ctx.field (c : Ctx) (off n : Nat) : Nat := leNat ((c.raw.drop off).take n)

/-- CTL bits, FUNC, TPORT and rate of a stream context (R349). -/
def Ctx.valid (c : Ctx) : Bool := bitOf (c.field 0 1) 7
def Ctx.sendsAnc (c : Ctx) : Bool := bitOf (c.field 0 1) 6
def Ctx.red (c : Ctx) : Bool := bitOf (c.field 0 1) 5
def Ctx.exc (c : Ctx) : Bool := bitOf (c.field 0 1) 4
def Ctx.func (c : Ctx) : Nat := c.field 1 1 % 64
def Ctx.tport (c : Ctx) : Nat := c.field 4 1
def Ctx.rateNum (c : Ctx) : Nat := c.field 32 4
def Ctx.rateDen (c : Ctx) : Nat := c.field 36 4

/-- PTP time of a port in half-nanoseconds (R325, R356). (DEDUCED, log 96) -/
def State.ptpTime (s : State) (p : Nat) : Int := (s.mport p).base + 2000 * s.now

/-- T_n in half-nanoseconds, rounded down (R352). -/
def Ctx.alignAt (c : Ctx) (n : Nat) : Nat := 2000000000 * (n * c.rateDen) / c.rateNum

/-- S_n in half-nanoseconds (R354). -/
def Ctx.slotAt (c : Ctx) (n : Nat) : Int := (c.alignAt n + 2000 * c.field 52 4 : Nat)

/-- Offsets of the counters of a stream context (R365). -/
def ctxStatus (c : Nat) : Nat := mediaBase + 0x30000 + 64 * c

/-- A status that says that no error applies (R327). -/
def okStatus (w : W16) : Bool := w == stOk || w == stOkFlags || w == stMakeup

/-- Write a frame report to FRING (R363): with EXC set, only for statuses other than OK and OK_FLAGS. -/
def State.frameReport (s : State) (c n : Nat) (st : W16) (flags : BitVec 4) (reason elapsed : Nat) : State :=
  let x := s.ctx c
  match x.bound with
  | none => s
  | some b =>
    if x.exc && (st == stOk || st == stOkFlags) then s
    else s.post b.func (s.absRing b.func b.fring)
      { typ := 0x0010, ring := b.ring, time := s.now,
        data := st.toNat + 2 ^ 16 * c + 2 ^ 32 * flags.toNat + 2 ^ 40 * reason + 2 ^ 48 * (n % 2 ^ 48) + 2 ^ 96 * elapsed }

/-- The report of a run whose results left at time `d` of TPORT (R360): DEADLINE_MISSED when late and no error applies. (DEDUCED, log 41) -/
def State.runReport (s : State) (c n : Nat) (p : Report) (d : Int) : State :=
  let x := s.ctx c
  match x.bound with
  | none => s
  | some b =>
    let late := okStatus p.status && x.slotAt n + 2000 * b.latency < d
    let el := min ((d - x.slotAt n).toNat / 2000) 0xFFFFFF
    let s1 := if late then s.bump (ctxStatus c + 0x18) 1 else s
    s1.frameReport c n (if late then stDeadline else p.status) (if late || !okStatus p.status then 0 else p.flags) 0 el

/-- A frame-slot run of context `c` ends (R360, R361, R364): the frame counts as run, and its report is written, or with
OUT set waits for its ancillary data. -/
def State.endFrameRun (s : State) (c : Nat) (p : Report) : State :=
  let x := s.ctx c
  match x.bound with
  | none => s
  | some b =>
    match b.running with
    | none => s
    | some n =>
      let t := s.ptpTime x.tport
      let s1 := (s.bump (ctxStatus c + 0x08) 1).modBound c (fun b => { b with running := none })
      if x.sendsAnc && okStatus p.status then
        s1.modBound c (fun b => { b with anc := b.anc ++ [{ frame := n, done := t, report := p }] })
      else s1.runReport c n p t

/-- Tokens held in the queues of clusters (R152). -/
def State.tokensIn (s : State) (sites : List Nat) : Nat :=
  (sites.map (fun i => ((s.clu i).queue.map (fun e => e.2.toks.length + e.2.ahead.length)).sum)).sum

/-- A training launch of a function completes with an error: its open steps are marked LOST (R386). -/
def State.markLost (s : State) (f : Nat) : State :=
  { s with tow := { s.tow with group := s.tow.group.map (fun e =>
      if (s.group e.1).owner == f then
        (e.1, { e.2 with step := e.2.step.map (fun t => { t with lost := true }) })
      else e) } }

/-- The open step of a group is marked LOST, if it is this step (R383). -/
def State.loseStep (s : State) (g : Nat) (step : W32) : State :=
  s.modTgroup g (fun x => { x with step := x.step.map (fun t => if t.step = step then { t with lost := true } else t) })

/-- The open steps of a function: group and step number (R385). -/
def State.openSteps (s : State) (f : Nat) : List (Nat × W32) :=
  s.tow.group.filterMap (fun e => if (s.group e.1).owner = f then e.2.step.map (fun t => (e.1, t.step)) else none)

/-- The report of a run for which a silent error has been detected first (R327, R402). -/
def Run.sdeReport (u : Run) (p : Report) : Report :=
  if u.sde then { p with status := stSde, flags := 0, source := 0, code := 0, cx := 0, cy := 0, core := 0 } else p

/-- The packets in flight that write device memory for clusters of a function (R272). -/
def State.writesOut (s : State) (f : Nat) (sites : List Nat) : List Nat :=
  (s.fab.flight.filter (fun p => (p.typ == .wr || p.typ == .racc) && (160 ≤ p.dx || 160 ≤ p.dy) && p.func == f
    && sites.contains (siteIdx p.sx p.sy))).map Packet.id

/-- A LAUNCH completes once every write of it to device memory has been performed (R272). -/
def State.closeLaunch (s : State) (r : Nat) (i : W32) (p : Report) (writes : List Nat) : State :=
  if writes = [] then s.completeDesc r i p else s.modDesc r i (fun d => { d with ending := some p, writes := writes })

/-- The LAUNCHes that have ended and whose writes are no longer on their way complete (R272). -/
def State.settleLaunches (s : State) : State :=
  (s.hst.descs.filter (fun d => d.ending.isSome && !s.fab.flight.any (fun p => d.writes.contains p.id))).foldl (fun t d =>
    match d.ending with
    | some p => t.completeDesc d.ring d.index p
    | none => t) s

/-- The run of a configuration ends with a report: its descriptor completes, or its frame-slot run ends. -/
def State.finishRun (s : State) (f c : Nat) (p : Report) : State :=
  match (s.cfg f c).run with
  | none => s
  | some u =>
    let q := u.sdeReport p
    let s1 := s.modCfg f c (fun k => { k with run := none })
    let s2 := if u.train && !okStatus q.status then s1.markLost f else s1
    match u.desc, u.stream with
    | some (r, i), _ => s2.closeLaunch r i q (s2.writesOut f (s2.cfg f c).clusters)
    | none, some x => s2.endFrameRun x q
    | none, none => s2

/-- Halt a configuration's run (R116): its cores stop, the configuration is halted, and the run ends with the report. -/
def State.haltOne (s : State) (f c : Nat) (p : Report) : State :=
  let k := s.cfg f c
  let p0 := match k.run with | some u => u.sdeReport p | none => p
  let p1 := { p0 with flags := 0, r0 := s.tokensIn k.clusters, r1 := (k.run.map Run.group).getD 0 }
  ((s.haltCores k.clusters).modCfg f c (fun k => { k with halted := some (k.halted.getD p1) })).finishRun f c p1

/-- The configurations of a function with a run in progress. -/
def State.running (s : State) (f : Nat) : List Nat :=
  (s.prt f).cfg.filterMap (fun e => if e.2.run.isSome then some e.1 else none)

/-- Every other running launch of the partition halts with MEM_UNCORRECTABLE (R263). -/
def State.haltOthers (s : State) (f : Nat) : State := s.each (s.running f) (fun t c => t.haltOne f c (rep stMemUE))

/-- A descriptor completes; with MEM_UNCORRECTABLE, R263 applies to its partition. -/
def State.finishDesc (s : State) (r : Nat) (i : W32) (p : Report) : State :=
  match s.desc r i with
  | none => s
  | some d =>
    let s1 := s.completeDesc r i p
    if p.status == stMemUE then s1.haltOthers d.func else s1

/-- Halt a run; a launch that completes with MEM_UNCORRECTABLE halts the partition's others (R263, R327). -/
def State.haltRun (s : State) (f c : Nat) (p : Report) : State :=
  match (s.cfg f c).run with
  | none => s
  | some u =>
    let s1 := s.haltOne f c p
    if (u.sdeReport p).status == stMemUE && u.desc.isSome then s1.haltOthers f else s1

/-- Halt the run that a cluster takes part in, if any. -/
def State.haltClusterRun (s : State) (i : Nat) (p : Report) : State :=
  match (s.clu i).owner, (s.clu i).cfg with
  | some f, some c => s.haltRun f c p
  | _, _ => s

/-- Core fault codes (R113). -/
inductive CoreFault where
  | ecc | pcRange | illegal | mode | format | tile | address | queue
  deriving DecidableEq, Repr

/-- The code of a core fault (R113). -/
def CoreFault.code : CoreFault → BitVec 4
  | .ecc => 1
  | .pcRange => 2
  | .illegal => 3
  | .mode => 4
  | .format => 5
  | .tile => 6
  | .address => 7
  | .queue => 8

/-- The status of a core fault (R113). -/
def CoreFault.status : CoreFault → W16
  | .ecc => stMemUE
  | .format => stFormat
  | _ => stIllegal

/-- The register of a core's fault counter (R139). -/
def offCoreFaults (r : CoreRef) : Nat := clPage (Site.idx r.site) + 0x80 + 8 * r.n.val

/-- A core raises a fault (R113 to R118): the instruction has no effect, the core halts, the fault is counted and, unless
VALID is set, recorded; the launch halts with the fault's status and cause. (DEDUCED, log 23) -/
def State.coreFaultAt (s : State) (r : CoreRef) (pc : BitVec 12) (x : CoreFault) : State :=
  let op : BitVec 6 := BitVec.ofNat 6 ((Tab.get 0#32 (s.core r).imem pc.toNat).toNat / 2 ^ 26)
  let s1 := s.modCore r (fun k =>
    { k with seq := .halted,
             fault := if k.fault.valid then k.fault else { valid := true, cause := x.code, pc := pc, opcode := op } })
  (s1.bump (offCoreFaults r) 1).haltClusterRun (Site.idx r.site)
    { status := x.status, source := 1, code := x.code, cx := r.site.x.val, cy := r.site.y.val, core := r.n.val }

/-- The instruction at the program counter raises a fault. -/
def State.coreFault (s : State) (r : CoreRef) (x : CoreFault) : State := s.coreFaultAt r (s.core r).pc x

/-- The status of a transfer failure (R138). -/
def xferStatus (cause : Nat) : W16 := if cause = 4 then stMemUE else if cause = 5 then stUnreachable else stIllegal

/-- A transfer of core `n` of a cluster fails (R138): FIELD_CL_DMA_ERR records it unless VALID is set there, and the launch
halts. (DEDUCED, log 32) -/
def State.xferFail (s : State) (i n op cause : Nat) : State :=
  let s1 := s.modClu i (fun c =>
    { c with dmaErr := if c.dmaErr.valid then c.dmaErr else
        { valid := true, cause := BitVec.ofNat 3 cause, core := BitVec.ofNat 4 n, op := BitVec.ofNat 8 op } })
  s1.haltClusterRun i
    { status := xferStatus cause, source := 2, code := BitVec.ofNat 4 cause, cx := siteX i, cy := siteY i, core := n }

end Sys2Proof.Machine
end

