-- ==== Sys2Proof/Machine/Operands.lean ====
section
/-! DEFINITION. The operand forms of a core: instruction words (R95, R96), data addresses (R88, R99), scratchpad and local
memory with their check bits (R89, R123), hazards (R110), reservations (R131), and the issue of one instruction. -/
namespace Sys2Proof.Machine

/-- The 32-bit word of major opcode `op` with the given lower bits (R95). -/
def word (op low : Nat) : W32 := BitVec.ofNat 32 (2 ^ 26 * op + low)

/-- Form T (R95). -/
def wordT (op : Nat) (gd ga gb : GReg) (fn : Nat) : W32 :=
  word op (2 ^ 22 * gd.val + 2 ^ 18 * ga.val + 2 ^ 14 * gb.val + fn)

/-- Form I (R95). -/
def wordI (op : Nat) (gd ga : GReg) (imm : BitVec 18) : W32 := word op (2 ^ 22 * gd.val + 2 ^ 18 * ga.val + imm.toNat)

/-- Form B (R95). -/
def wordB (cond : Nat) (ga gb : GReg) (off : BitVec 15) : W32 :=
  word 0x0C (2 ^ 23 * cond + 2 ^ 19 * ga.val + 2 ^ 15 * gb.val + off.toNat)

/-- Form Q (R95). -/
def wordQ (op g q k : Nat) (imm : W16) : W32 := word op (2 ^ 22 * g + 2 ^ 19 * q + 2 ^ 17 * k + imm.toNat)

/-- Form M (R95). -/
def wordM (op : Nat) (ga gb : GReg) (tile : BitVec 12) (acc : Bool) : W32 :=
  word op (2 ^ 22 * ga.val + 2 ^ 18 * gb.val + 2 ^ 6 * tile.toNat + 2 ^ 5 * acc.toNat)

/-- Form V (R95). -/
def wordV (op : Nat) (gd ga gb : GReg) (spec1 fn : Nat) (sat sup : Bool) : W32 :=
  word op (2 ^ 22 * gd.val + 2 ^ 18 * ga.val + 2 ^ 14 * gb.val + 2 ^ 9 * spec1 + 2 ^ 4 * fn + 2 ^ 3 * sat.toNat
    + 2 ^ 2 * sup.toNat)

/-- Form P (R95). -/
def wordP (op : Nat) (gd : GReg) (tile : BitVec 12) (init : Bool) : W32 :=
  word op (2 ^ 22 * gd.val + 2 ^ 6 * tile.toNat + 2 ^ 5 * init.toNat)

/-- Form F (R95). -/
def wordF (fa fb : BitVec 5) (g : GReg) (fromReg : Bool) : W32 :=
  word 0x18 (2 ^ 21 * fa.toNat + 2 ^ 16 * fb.toNat + 2 ^ 12 * g.val + 2 ^ 11 * fromReg.toNat)

/-- Form Z (R95). -/
def wordZ (op : Nat) (gd : Nat) (bar : Nat) : W32 := word op (2 ^ 22 * gd + 2 ^ 16 * bar)

/-- Bytes of a scratchpad (R88). -/
def spBytes : Nat := 0x180000

/-- The slice of a scratchpad address: bits [9:6] (R121). -/
def sliceOf (a : Nat) : Nat := bits a 9 6

/-- The byte of an address within its slice: 64 bytes of each KiB (R121). -/
def sliceByte (a : Nat) : Nat := 64 * (a / 1024) + a % 64

/-- Lines of 64 bytes in a slice (R121). -/
def sliceLines : Nat := 1536

/-- First data address of local data memory (R88). -/
def lmemBase : Nat := 0x200000

/-- `n` bytes from `a` lie in scratchpad (R88). -/
def inSp (a n : Nat) : Bool := a + n ≤ spBytes

/-- `n` bytes from `a` lie in local data memory (R88). -/
def inLmem (a n : Nat) : Bool := lmemBase ≤ a && a + n ≤ lmemBase + 0x10000

/-- `n` bytes from `a` lie in one memory (R99). -/
def inData (a n : Nat) : Bool := inSp a n || inLmem a n

/-- The largest power of two that divides n (R99). -/
def lowBit (n : Nat) : Nat := if n = 0 then 1 else if n % 2 = 1 then 1 else
  if n % 4 = 2 then 2 else if n % 8 = 4 then 4 else if n % 16 = 8 then 8 else if n % 32 = 16 then 16
  else if n % 64 = 32 then 32 else if n % 128 = 64 then 64 else 128

/-- A vector operand of `n` bytes at `a` meets R99. -/
def vecOperand (a n : Nat) : Bool := a % lowBit n == 0 && inData a n

/-- Word indices of `w`-byte words that `n ≥ 1` bytes from `a` touch. -/
def wordsOf (w a n : Nat) : List Nat := span (a / w) ((a + n - 1) / w)

/-- Word indices of `w`-byte words that `n` bytes from `a` cover whole. -/
def wholeWords (w a n : Nat) : List Nat := (wordsOf w a n).filter (fun i => a ≤ w * i && w * i + w ≤ a + n)

/-- A byte of data at a core's data address (R88). -/
def Cluster.dataByte (c : Cluster) (n a : Nat) : W8 :=
  if a < spBytes then c.sp.get a else (c.getCore n).lmem.get (a - lmemBase)

/-- `len` bytes at a core's data address. -/
def Cluster.dataRead (c : Cluster) (n a len : Nat) : List W8 := (fromTo a len).map (c.dataByte n)

/-- A little-endian number at a core's data address. -/
def Cluster.dataNat (c : Cluster) (n a len : Nat) : Nat := leNat (c.dataRead n a len)

/-- A read of `len ≥ 1` bytes meets an uncorrectable word (R89, R123). -/
def Cluster.dataBad (c : Cluster) (n a len : Nat) : Bool :=
  if a < spBytes then (wordsOf 8 a len).any (fun w => c.spBad.contains w)
  else (wordsOf 4 (a - lmemBase) len).any (fun w => (c.getCore n).lmemBad.contains w)

/-- The offsets of the corrected-error counters of a cluster's scratchpad and of a core (R139). -/
def offSpCorr (i : Nat) : Nat := clPage i + 0x10
def offCoreCorr (i n : Nat) : Nat := clPage i + 0x108 + 16 * n

/-- The words that a read corrects: they are written back and counted (R89, R123). -/
def State.correctRead (s : State) (i n a len : Nat) : State :=
  let c := s.clu i
  if a < spBytes then
    match c.spSoft with
    | [] => s
    | l =>
      let ws := wordsOf 8 a len
      (s.modClu i (fun c => { c with spSoft := l.filter (fun w => !ws.contains w) })).bump (offSpCorr i)
        (l.filter (fun w => ws.contains w)).length
  else
    match (c.getCore n).lmemSoft with
    | [] => s
    | l =>
      let ws := wordsOf 4 (a - lmemBase) len
      (s.modClu i (fun c => c.modCore n (fun k => { k with lmemSoft := l.filter (fun w => !ws.contains w) }))).bump
        (offCoreCorr i n) (l.filter (fun w => ws.contains w)).length

/-- The tiles whose bytes `n ≥ 1` bytes from `a` touch (R129). -/
def tilesOf (a n : Nat) : List Nat := span (a / 1024) ((a + n - 1) / 1024)

/-- The partner of a tile (R177). -/
def partner (t : Nat) : Nat := if t % 2 = 0 then t + 1 else t - 1

/-- A write to a tile's bytes other than a pass: its pass count and last-pass format are gone, and so are the predictor
phases of the tile and its partner (R130, R178, R109). -/
def Cluster.touch (c : Cluster) (t : Nat) : Cluster :=
  { c with pass := Tab.put 0 c.pass t 0, accInt := Tab.put false c.accInt t false,
           pred := Tab.put {} (Tab.put {} c.pred t {}) (partner t) {} }

/-- Write bytes to scratchpad (R122, R123, R130): words written whole become sound. (DESIGN CHOICE, log 161) -/
def Cluster.spWrite (c : Cluster) (a : Nat) (bs : List W8) : Cluster :=
  if bs = [] then c else
    let ws := wholeWords 8 a bs.length
    let c1 := { c with sp := c.sp.write a bs, spBad := c.spBad.filter (fun w => !ws.contains w),
                       spSoft := c.spSoft.filter (fun w => !ws.contains w) }
    (tilesOf a bs.length).foldl Cluster.touch c1

/-- Write bytes at a core's data address. (DESIGN CHOICE, log 161) -/
def Cluster.dataWrite (c : Cluster) (n a : Nat) (bs : List W8) : Cluster :=
  if a < spBytes then c.spWrite a bs
  else
    let ws := wholeWords 4 (a - lmemBase) bs.length
    c.modCore n (fun k => { k with lmem := k.lmem.write (a - lmemBase) bs,
                                   lmemBad := k.lmemBad.filter (fun w => !ws.contains w),
                                   lmemSoft := k.lmemSoft.filter (fun w => !ws.contains w) })

/-- Read a general register; g0 reads as zero (R87). (DEDUCED, log 20) -/
def Core.reg (k : Core) (r : Nat) : W32 := if r = 0 then 0 else Tab.get 0 k.g r

/-- Write a general register; writes to g0 are discarded (R87). -/
def Core.setReg (k : Core) (r : Nat) (v : W32) : Core := if r = 0 then k else { k with g := Tab.put 0 k.g r v }

/-- Read a counter (R87). -/
def Core.ctr (k : Core) (r : Nat) : W32 := Tab.get 0 k.k r

/-- Write a counter. -/
def Core.setCtr (k : Core) (r : Nat) (v : W32) : Core := { k with k := Tab.put 0 k.k r v }

/-- The queue bound to port p of a core, if any (R147). -/
def Core.portQueue (k : Core) (p : Nat) : Option Nat :=
  let b := (Tab.get 0#8 k.port p).toNat
  if 128 ≤ b then some (b - 128) else none

/-- The queue that port p of core n reads, if the port is an input (R147). -/
def Cluster.inPort (c : Cluster) (n p : Nat) : Option Nat :=
  match (c.getCore n).portQueue p with
  | some q => if (c.getQueue q).cap ≠ 0 ∧ (c.getQueue q).cons.toNat = 8 * n + p then some q else none
  | none => none

/-- The queue that port p of core n writes, if the port is an output (R147). -/
def Cluster.outPort (c : Cluster) (n p : Nat) : Option Nat :=
  match (c.getCore n).portQueue p with
  | some q => if (c.getQueue q).cap ≠ 0 ∧ (c.getQueue q).prod.toNat = 8 * n + p then some q else none
  | none => none

/-- Free slots of a queue (R145, R146). -/
def Queue.room (q : Queue) : Nat := q.cap - q.toks.length - q.ahead.length

/-- Put a token of the cluster at the tail of one of its queues (R142, R156). -/
def Cluster.enqueue (c : Cluster) (q : Nat) (data : W32) : Cluster :=
  c.modQueue q (fun x => { x with toks := x.toks ++ [{ data := data, epoch := c.epoch }] })

/-- Take the head token of a queue; a credit is owed for a token of an inbound queue (R145). -/
def Cluster.dequeue (c : Cluster) (q : Nat) : Cluster :=
  c.modQueue q (fun x => { x with toks := x.toks.drop 1, owed := x.owed + if x.prod == 0xA0 then 1 else 0 })

/-- Progress of a cluster sets its watchdog count to 0 (R153). -/
def State.progress (s : State) (i : Nat) : State := s.modClu i (fun c => { c with wdog := 0 })

/-- Byte ranges: first address and length. -/
abbrev Range := Nat × Nat

/-- Two ranges share a byte. -/
def meets (x y : Range) : Bool := x.1 < y.1 + y.2 && y.1 < x.1 + x.2

/-- Some range of one list shares a byte with some range of another. -/
def clash (xs ys : List Range) : Bool := xs.any (fun x => ys.any (meets x))

/-- The bytes of a tile (R129). -/
def tileRange (t : Nat) : Range := (1024 * t, 1024)

/-- Bytes of a slab of a format (R102). -/
def Fmt.slabBytes (f : Fmt) : Nat := 16 * f.rowBytes

/-- The format of a matrix operand (R101). -/
def MatOp.fmt (o : MatOp) : Fmt := match specOf o.spec with
  | some (f, _) => f
  | none => .fp32

/-- A block-scaled specifier (R31). -/
def MatOp.scaled (o : MatOp) : Bool := match specOf o.spec with
  | some (_, b) => b
  | none => false

/-- The bytes that a matrix instruction reads beside its tile (R102, R164, R177). -/
def MatOp.reads (o : MatOp) : List Range :=
  let n := o.fmt.slabBytes
  if o.kind = .tzero then [] else
    [(o.a, n), (o.b, n)] ++ (if o.scaled then [(o.sa, 16), (o.sb, 16)] else [])
      ++ (if o.kind = .mms then [(o.a + n, 64), (o.b + n, 64)] else [])
      ++ (if o.kind = .mmp then [(o.a + n, 128)] else [])

/-- The tiles that a matrix instruction uses: MMP's are two (R102, R177). -/
def MatOp.tiles (o : MatOp) : List Nat := if o.kind = .mmp then [o.tile, partner o.tile] else [o.tile]

/-- The tiles that a matrix instruction writes (R102, R177). -/
def MatOp.writes (o : MatOp) : List Range := o.tiles.map tileRange

/-- Bytes of the elements of a VOP. -/
def vopBytes (f : Fmt) : Nat := f.bytesFor 16

/-- The format of a vector specifier. -/
def vecFmt (s : BitVec 5) : Fmt := match specOf s with
  | some (f, _) => f
  | none => .fp32

/-- A valid block-scaled specifier. -/
def vecScaled (s : BitVec 5) : Bool := match specOf s with
  | some (_, b) => b
  | none => false

/-- A VOP function of one operand (R107). -/
def vopUnary : VopFn → Bool
  | .sqrt | .abs | .neg => true
  | _ => false

/-- The elements that a VCVT converts (R108). -/
def cvtCount (s1 s2 : BitVec 5) : Nat := if vecScaled s1 || vecScaled s2 then 32 else 16

/-- The bytes that a vector instruction reads when it runs (R107, R108, R81); a supplied scale is read at issue (R56). -/
def VecOp.reads : VecOp → List Range
  | .vop fn sp d a b =>
    let n := vopBytes (vecFmt sp)
    [(a, n)] ++ (if vopUnary fn then [] else if fn = .scale then [(b, (vecFmt sp).width / 8)] else [(b, n)])
      ++ (if fn = .select then [(d, n)] else [])
  | .vcvt s1 s2 _ a b _ _ _ =>
    [(a, (vecFmt s1).bytesFor (cvtCount s1 s2))] ++ (if vecScaled s1 then [(b, 1)] else [])
  | .spill d t init => [tileRange t] ++ if init then [] else [(d, 2048)]

/-- The bytes that a vector instruction writes (R107, R108, R81). -/
def VecOp.writes : VecOp → List Range
  | .vop _ sp d _ _ => [(d, vopBytes (vecFmt sp))]
  | .vcvt s1 s2 d _ b _ sup _ =>
    [(d, (vecFmt s2).bytesFor (cvtCount s1 s2))] ++ if vecScaled s2 && !sup then [(b, 1)] else []
  | .spill d t _ => [tileRange t, (d, 2048)]

/-- The bytes that issued and incomplete instructions of a core have yet to read. A started MMS pass has read its operands
(R176). -/
def Core.toRead (k : Core) : List Range :=
  k.matQueue.flatMap (fun o => o.reads ++ o.writes)
    ++ (match k.matRun with | some r => r.op.reads ++ r.op.writes | none => [])
    ++ k.mms.flatMap (fun p => p.2.run.op.writes)
    ++ k.vecQueue.flatMap (fun v => v.op.reads)

/-- The bytes that issued and incomplete instructions of a core have yet to write. -/
def Core.toWrite (k : Core) : List Range :=
  k.matQueue.flatMap MatOp.writes
    ++ (match k.matRun with | some r => r.op.writes | none => [])
    ++ k.mms.flatMap (fun p => p.2.run.op.writes)
    ++ k.vecQueue.flatMap (fun v => v.op.writes)

/-- Reading some bytes and writing others meets a hazard with an earlier instruction of the core (R110). -/
def Core.hazard (k : Core) (rd wr : List Range) : Bool :=
  clash rd k.toWrite || clash wr k.toRead || clash wr k.toWrite

/-- The hazards of a matrix instruction: its tiles follow those of earlier matrix instructions in the unit's own order
(R104, R110). -/
def Core.matHazard (k : Core) (o : MatOp) : Bool :=
  clash o.reads k.toWrite
    || clash o.writes (k.vecQueue.flatMap (fun v => v.op.reads ++ v.op.writes))
    || clash o.writes (k.matQueue.flatMap MatOp.reads)
    || clash o.writes (match k.matRun with | some r => r.op.reads | none => [])

/-- Another core holds the reservation of a tile that the ranges touch (R131). -/
def Cluster.reservedFrom (c : Cluster) (n : Nat) (rs : List Range) : Bool :=
  match c.resv with
  | [] => false
  | l => l.any (fun e => match e.2.holder with
    | some m => m != n && rs.any (meets (tileRange e.1))
    | none => false)

/-- The compute clock of a site's field runs: the field is not dark and not gated (R29, R215, R447, R468). -/
def State.clocked (s : State) (i : Nat) : Bool :=
  let f := s.field (fieldOf i)
  !s.isDark (fieldOf i) && !f.gateSp && !f.gateCap

/-- Core `r` is about to execute the word `w`: it is running, in a block, waits for nothing, and the word stands at its
program counter (R92, R93). -/
def State.mayIssue (s : State) (r : CoreRef) (w : W32) : Bool :=
  let k := s.core r
  s.clocked (Site.idx r.site) && k.seq == .running && k.inBlock && k.barWait.isNone && !k.xferWait
    && Tab.get 0#32 k.imem k.pc.toNat == w

/-- A fetched word with a single-bit error is corrected, written back and counted (R89). -/
def State.fetched (s : State) (r : CoreRef) : State :=
  let k := s.core r
  if k.imemSoft.contains k.pc.toNat then
    (s.modCore r (fun k => { k with imemSoft := k.imemSoft.filter (· != k.pc.toNat) })).bump
      (offCoreCorr (Site.idx r.site) r.n.val) 1
  else s

/-- The first cause that applies (R114). -/
def firstFault : List (Bool × CoreFault) → Option CoreFault
  | [] => none
  | (b, x) :: l => if b then some x else firstFault l

/-- Issue one instruction of a core (R89, R92, R93, R110, R114, R153): `hazard` holds it at issue, the first of `faults`
that applies is raised with no effect, `stall` makes it wait, and otherwise it takes its effect. (DEDUCED, log 21) -/
def State.issue (s : State) (r : CoreRef) (w : W32) (hazard : Bool) (faults : List (Bool × CoreFault)) (stall : Bool)
    (eff : State → State) : State :=
  if !s.mayIssue r w then s
  else if (s.core r).imemBad.contains (s.core r).pc.toNat then s.coreFault r .ecc
  else if hazard then s
  else
    match firstFault faults with
    | some x => (s.fetched r).coreFault r x
    | none => if stall then s else (eff (s.fetched r)).progress (Site.idx r.site)

/-- Execution would continue past word 4,095 (R98). -/
def State.lastWord (s : State) (r : CoreRef) : Bool := (s.core r).pc == 4095

/-- Move to the next word. -/
def Core.advance (k : Core) : Core := { k with pc := k.pc + 1 }

/-- An instruction that changes the core alone: it takes its effect and moves to the next word. -/
def State.scalar (s : State) (r : CoreRef) (w : W32) (f : Core → Core) : State :=
  s.issue r w false [(s.lastWord r, .pcRange)] false (fun t => t.modCore r (fun k => (f k).advance))

end Sys2Proof.Machine
end

