-- ==== Sys2Proof/Machine/Capture.lean ====
section
/-! DEFINITION. Crumb sampling (R398, R399) and the lineage entry of a run (R408). -/
namespace Sys2Proof.Machine

/-- The 8 bytes of a lineage entry (R408): FR, FUNC, RING and TAG. -/
def lineageWord (frame : Bool) (f ring tag : Nat) : W64 :=
  BitVec.ofNat 64 ((if frame then 2 ^ 63 else 0) + 2 ^ 57 * f + 2 ^ 32 * (ring % 2 ^ 20) + tag % 2 ^ 32)

/-- The lineage entry of a run of a function (R408). -/
def State.runEntry (s : State) (f : Nat) (u : Run) : W64 :=
  match u.desc, u.stream with
  | some (r, i), _ => lineageWord false f (s.ringNum f r) (match s.desc r i with | some d => d.tag | none => 0)
  | none, some x =>
    match (s.ctx x).bound with
    | some b => lineageWord true f b.ring (b.running.getD 0)
    | none => 0
  | none, none => 0

/-- The run that a cluster takes part in, with its function. -/
def State.runOf (s : State) (i : Nat) : Option (Nat × Run) :=
  match (s.clu i).owner, (s.clu i).cfg with
  | some f, some c => (s.cfg f c).run.map (fun u => (f, u))
  | _, _ => none

/-- RATE (R415): values below 4 act as 4, above 8 as 8. -/
def State.crumbRate (s : State) : Nat := max 4 (min 8 (bits (s.reg integBase).toNat 27 24))

/-- INTEG_SKIP (R415). -/
def offSkip : Nat := integBase + 0x20

/-- A checked operation of a field's clusters counts towards its rate (R399). -/
def State.countChecked (s : State) (fld : Nat) : State :=
  { s with integ := { s.integ with checked := Tab.put 0 s.integ.checked fld (Tab.get 0 s.integ.checked fld + 1) } }

/-- A checked operation of a cluster has completed (R396, R398, R399): when its own generator selects it, it is captured,
or counted as skipped where there is no checker or no room. -/
def State.capture (s : State) (i n : Nat) (pc : BitVec 12) (operands orig : List W8) : State :=
  let c := s.clu i
  if bitOf (s.reg integBase).toNat 31 && s.siteState i == .enabled && c.pair.isNone then
    let t := s.countChecked (fieldOf i) |>.takeFree
    if (Config.freeValue t.1).toNat % 2 ^ s.crumbRate = 0 then
      if c.checker.isNone || 4 ≤ c.caps.length then t.2.bump offSkip 1
      else
        let u := s.runOf i
        let x : Capture :=
          { core := n, opcode := BitVec.ofNat 6 ((Tab.get 0#32 (c.getCore n).imem pc.toNat).toNat / 2 ^ 26),
            operands := operands, orig := orig,
            entry := match u with | some (f, v) => s.runEntry f v | none => 0,
            desc := match u with | some (_, v) => v.desc | none => none,
            frame := match u with
              | some (_, v) => match v.stream with
                | some k => ((s.ctx k).bound.bind (fun b => b.running)).map (fun m => (k, m))
                | none => none
              | none => none,
            steps := match u with | some (f, v) => (if v.train then s.openSteps f else []) | none => [],
            since := s.now }
        t.2.modClu i (fun c => { c with caps := c.caps ++ [x] })
    else t.2
  else s

end Sys2Proof.Machine
end

