-- ==== Sys2Proof/Machine/Mesh.lean ====
section
/-! DEFINITION. The bulk mesh: packets, routes as a function of the live map, buffers, injection, and what becomes of packets
that cannot be delivered (R193 to R209, R215, R216). -/
namespace Sys2Proof.Machine

/-- FAB_RUNOUT_WAIT and FAB_LOSS_QUIET with their lower limits (R223, R537). -/
def State.runoutWait (s : State) : Nat := max 16 ((s.reg (fabBase + 0x20)).toNat % 4096)
def State.lossQuiet (s : State) : Nat := max 100 ((s.reg (fabBase + 0x24)).toNat % 65536)

/-- The type codes of packets (R194). -/
def PType.code : PType → Nat
  | .token => 1 | .rdReq => 2 | .rdData => 3 | .wr => 4 | .wrAck => 5 | .fold => 6 | .racc => 7 | .raccAck => 8
  | .unreach => 9 | .cfgBody => 10 | .ttData => 16

/-- Answer-class packet types (R194). -/
def PType.answer : PType → Bool
  | .rdReq | .wr | .racc => false
  | _ => true

/-- Flits of a packet (R193). -/
def Packet.flits (p : Packet) : Nat := (16 + p.payload.length + 63) / 64

/-- The router that a packet's destination coordinates name: a crust coordinate stands for its edge (R193, R195). -/
def routerAt (x y : Nat) : Nat :=
  siteIdx (if x = 0xA0 then 0 else if x = 0xA1 then 159 else x) (if y = 0xA0 then 0 else if y = 0xA1 then 159 else y)

/-- The router of a packet's destination, and of its source. -/
def Packet.dest (p : Packet) : Nat := routerAt p.dx p.dy
def Packet.src (p : Packet) : Nat := routerAt p.sx p.sy

/-- A packet is addressed to the crust, and the side on which it is (R193). -/
def Packet.toCrust (p : Packet) : Bool := 160 ≤ p.dx || 160 ≤ p.dy
def Packet.crustDir (p : Packet) : Option Dir :=
  if p.dx = 0xA0 then some .west else if p.dx = 0xA1 then some .east
  else if p.dy = 0xA0 then some .north else if p.dy = 0xA1 then some .south else none

/-- The opposite direction. -/
def opposite : Dir → Dir
  | .north => .south | .east => .west | .south => .north | .west => .east

/-- The neighbouring router in a direction. -/
def neighbour (i : Nat) (d : Dir) : Option Nat :=
  match d with
  | .north => if siteY i = 0 then none else some (i - 160)
  | .east => if siteX i = 159 then none else some (i + 1)
  | .south => if siteY i = 159 then none else some (i + 160)
  | .west => if siteX i = 0 then none else some (i - 1)

/-- The directions in the order of R196. -/
def dirs : List Dir := [.north, .east, .south, .west]

/-- A field of a bitmap. -/
def inBits (b : W64) (i : Nat) : Bool := b.getLsbD (fieldOf i)

/-- The link from router i in direction d is absent in a live map, in either direction (R190, R192). -/
def LiveMap.noLink (m : LiveMap) (i : Nat) (d : Dir) : Bool :=
  match neighbour i d with
  | none => true
  | some j => m.absent.contains (linkKey i d) || m.absent.contains (linkKey j (opposite d))

/-- A hop of the live graph: through live routers, and out of an out-of-service field but not into one (R216). -/
def LiveMap.hop (m : LiveMap) (i : Nat) (d : Dir) : Option Nat :=
  match neighbour i d with
  | none => none
  | some j =>
    if m.noLink i d || inBits m.dark i || inBits m.dark j || (inBits m.oos j && !inBits m.oos i) then none else some j

/-- The routers from which `dst` is at most k hops away. -/
def LiveMap.ball (m : LiveMap) (dst : Nat) : Nat → List Nat
  | 0 => [dst]
  | k + 1 =>
    let b := m.ball dst k
    b ++ (List.range 25600).filter (fun i => !b.contains i && dirs.any (fun d =>
      match m.hop i d with | some j => b.contains j | none => false))

/-- Hops between two routers on a healthy wafer. -/
def manhattan (i j : Nat) : Nat :=
  (siteX i - siteX j) + (siteX j - siteX i) + (siteY i - siteY j) + (siteY j - siteY i)

/-- Hops of a shortest path to `dst` in the live graph, if there is one. -/
def LiveMap.dist (m : LiveMap) (dst i : Nat) : Option Nat :=
  if m = {} then some (manhattan i dst)
  else if inBits m.dark dst then none
  else (List.range 25600).find? (fun k => (m.ball dst k).contains i)

/-- The output that a table entry names for destination `t`: the first on a shortest path in the order of R196. -/
def LiveMap.entry (m : LiveMap) (i t : Nat) (own : Dir) : Option Dir :=
  match m.dist t i with
  | none => none
  | some n => (own :: dirs).find? (fun d =>
      match m.hop i d with
      | some j => m.dist t j == some (n - 1)
      | none => false)

/-- The dimension-order direction from router i to router t: X first (R196). -/
def dimDir (i t : Nat) : Option Dir :=
  if siteX i < siteX t then some .east else if siteX t < siteX i then some .west
  else if siteY i < siteY t then some .south else if siteY t < siteY i then some .north else none

/-- The normal route: the X table to the destination's column, then the Y table (R196). None: at the destination router; some
none: the entry names no output. (DEDUCED, log 50) -/
def LiveMap.normalHop (m : LiveMap) (i t : Nat) : Option (Option Dir) :=
  match dimDir i t with
  | none => none
  | some d => some (m.entry i (if siteX i = siteX t then t else siteIdx (siteX t) (siteY i)) d)

/-- The clean bit: the dimension-order path uses only live routers and links (R196, R197). -/
def LiveMap.cleanFrom (m : LiveMap) (t : Nat) : Nat → Nat → Bool
  | 0, _ => true
  | k + 1, i =>
    !inBits m.dark i && !inBits m.oos i &&
      (match dimDir i t with
      | none => true
      | some d => match neighbour i d with
        | some j => !m.noLink i d && m.cleanFrom t k j
        | none => false)

/-- The clean bit of router i for destination router t. -/
def LiveMap.clean (m : LiveMap) (i t : Nat) : Bool := m = {} || m.cleanFrom t 400 i

/-- A live router of the map. -/
def LiveMap.live (m : LiveMap) (i : Nat) : Bool := !inBits m.dark i && !inBits m.oos i

/-- The order in which the root of the up*/down* tree is chosen (R197). -/
def rootBefore (i j : Nat) : Bool :=
  let c := siteIdx 80 80
  manhattan i c < manhattan j c || (manhattan i c == manhattan j c &&
    (siteY i < siteY j || (siteY i == siteY j && siteX i < siteX j)))

/-- The root of the up*/down* tree: the live router nearest C(80,80) (R197). -/
def LiveMap.root (m : LiveMap) : Option Nat :=
  if m = {} then some (siteIdx 80 80)
  else (List.range 25600).foldl (fun b i =>
    if m.live i then
      match b with
      | none => some i
      | some j => if rootBefore i j then some i else b
    else b) none

/-- The up link of router i: to the neighbour one hop nearer the root that has the lowest y, then the lowest x (R197). -/
def LiveMap.up (m : LiveMap) (i : Nat) : Option (Dir × Nat) :=
  match m.root with
  | none => none
  | some r =>
    if i = r then none else
      match m.dist r i with
      | none => none
      | some n => ([Dir.north, .west, .east, .south].filterMap (fun d => (m.hop i d).map (fun j => (d, j)))).find? (fun e => m.dist r e.2 == some (n - 1))

/-- The routers from t up to the root. -/
def LiveMap.chain (m : LiveMap) : Nat → Nat → List Nat
  | 0, t => [t]
  | k + 1, t => t :: match m.up t with
    | some (_, j) => m.chain k j
    | none => []

/-- The direction from a router to its neighbour. -/
def dirTo (i j : Nat) : Option Dir := dirs.find? (fun d => neighbour i d == some j)

/-- The hop of lane U: down towards t where t is below router i, else up (R197). -/
def LiveMap.laneUHop (m : LiveMap) (i t : Nat) : Option Dir :=
  let c := m.chain 25600 t
  match (c.zip (c.drop 1)).find? (fun e => e.2 == i) with
  | some (j, _) => dirTo i j
  | none => (m.up i).map Prod.fst

/-- The next hop towards router t by a lane's tables (R196, R197). -/
def LiveMap.next (m : LiveMap) (lane : Lane) (i t : Nat) : Option Dir :=
  match lane with
  | .normal => (m.normalHop i t).bind id
  | .laneD => dimDir i t
  | .laneU => m.laneUHop i t

/-- The output of router i at which a packet leaves it, by its lane and the installed tables; FOLD packets follow their tree
and TT_DATA packets their timetable (R196, R197, R242). (DESIGN CHOICE, log 177) -/
def State.output (s : State) (p : Packet) (i : Nat) : Option OutPort :=
  if p.typ = .fold ∨ p.typ = .ttData then none
  else if i = p.dest then some (if p.toCrust then .crust else .locl)
  else (s.fab.installed.next p.lane i p.dest).map OutPort.dir

/-- A link is up at both ends (R192). -/
def State.linkUp (s : State) (i : Nat) (d : Dir) : Bool :=
  match neighbour i d with
  | none => false
  | some j => (s.link (linkKey i d)).state == .up && (s.link (linkKey j (opposite d))).state == .up

/-- The link at a router's port is up: at both ends on the wafer, and at the router where it leads to the crust (R192). -/
def State.portUp (s : State) (i : Nat) (d : Dir) : Bool :=
  match neighbour i d with
  | none => (s.link (linkKey i d)).state == .up
  | some _ => s.linkUp i d

/-- The routers of a field run: it is not dark (R215). -/
def State.routing (s : State) (i : Nat) : Bool := !s.isDark (fieldOf i)

/-- The virtual channel and lane of a packet, as one number: 0 lane D, 4 lane U, 5 the timetable stage (R242), else the VC. -/
def Packet.channel (p : Packet) : Nat :=
  if p.typ = .ttData then 5
  else match p.lane with
    | .normal => p.vc
    | .laneD => 0
    | .laneU => 4

/-- Buffers per input port and class (R208): flits and packets. -/
def channelCap (c : Nat) : Nat × Nat := if c = 1 then (10, 2) else if c = 2 then (32, 6) else if c = 3 then (10, 2) else (5, 1)

/-- Two packets wait in the same queue: of one input buffer of a router, or at one source (R208). -/
def Packet.sameBuffer (p q : Packet) : Bool := p.pos == q.pos && p.channel == q.channel && p.typ.answer == q.typ.answer

/-- The input buffer that a packet holds: a packet on a link holds the credits of the buffer that it goes to (R208). -/
def Pos.buffer : Pos → Option (Nat × Option Dir)
  | .router i inp => some (i, inp)
  | .wire i inp _ => some (i, some inp)
  | _ => none

/-- A packet is at the head of its input buffer. -/
def State.atHead (s : State) (p : Packet) : Bool :=
  ((s.fab.flight.filter p.sameBuffer).head?.map Packet.id) == some p.id

/-- Room in an input buffer of a router for a packet (R208). -/
def State.roomFor (s : State) (p : Packet) (pos : Pos) : Bool :=
  let l := s.fab.flight.filter (fun q => q.pos.buffer == pos.buffer && q.channel == p.channel && q.typ.answer == p.typ.answer)
  let cap := channelCap p.channel
  l.length < cap.2 && (l.map Packet.flits).sum + p.flits ≤ cap.1

/-- A packet in flight. -/
def State.packet (s : State) (id : Nat) : Option Packet := s.fab.flight.find? (fun p => p.id == id)

/-- Packet types that the epoch counts of R158 track (R158, R239). -/
def PType.tracked : PType → Bool
  | .token | .fold | .ttData => true
  | _ => false

/-- The in-flight counts of a packet change (R158, R207). -/
def State.countFlight (s : State) (p : Packet) (add : Bool) : State :=
  let step (n : Nat) : Nat := if add then n + 1 else n - 1
  let k := 4 * p.func + p.epoch.toNat
  s.modFab (fun f =>
    let n := step (Tab.get 0 f.inflight p.func)
    let m := step (Tab.get 0 f.tokenFlight k)
    let f1 := { f with inflight := Tab.put 0 f.inflight p.func n, inflightSince := Tab.put 0 f.inflightSince p.func s.now,
                       suspect := if n = 0 then f.suspect.filter (· != p.func) else f.suspect }
    if p.typ.tracked then
      { f1 with tokenFlight := Tab.put 0 f1.tokenFlight k m, inflightSince := Tab.put 0 f1.inflightSince (64 + k) s.now,
                suspect := if m = 0 then f1.suspect.filter (· != 64 + k) else f1.suspect }
    else f1)

/-- A packet stops being in flight. -/
def State.removePacket (s : State) (p : Packet) : State :=
  (s.modFab (fun f => { f with flight := f.flight.filter (fun q => q.id != p.id) })).countFlight p false

/-- Change a packet in flight; it stands behind the packets that are in its new buffer already. -/
def State.movePacket (s : State) (p q : Packet) : State :=
  s.modFab (fun f => { f with flight := f.flight.filter (fun x => x.id != p.id) ++ [q] })

/-- The flits that a link's sender holds for replay, and room for a packet's among them (R192). -/
def Link.unacked (k : Link) : Nat := k.sent - k.nextFlit
def State.replayRoom (s : State) (k : Nat) (p : Packet) : Bool := (s.link k).unacked + p.flits ≤ 16

/-- A packet's flits are sent on the link into router j at its port d, by a router that it came into by `prev` (R192, R208). -/
def State.sendWire (s : State) (p : Packet) (j : Nat) (d : Dir) (prev : Option Dir) : State :=
  (s.movePacket p { p with pos := .wire j d prev, waited := 0, left := p.flits }).modLink (linkKey j d) (fun k =>
    { k with sent := k.sent + p.flits })

/-- A packet is on the link whose receiving end has a key. -/
def Packet.onWire (p : Packet) (k : Nat) : Bool :=
  match p.pos with
  | .wire j d _ => linkKey j d == k
  | _ => false

/-- A packet on a link goes back to the buffer that it was sent from. -/
def Packet.unwire (p : Packet) : Packet :=
  match p.pos with
  | .wire j d prev => { p with left := 0, pos := match neighbour j d with
      | some i => .router i prev
      | none => .source j (some d) }
  | _ => p

/-- A link is lost to its receiver: packets that it has not taken whole stay with their senders (R192, R216). (DEDUCED, log 163) -/
def State.unwire (s : State) (k : Nat) : State :=
  (s.modFab (fun f => { f with flight := (f.flight.filter (fun p => p.onWire k)).map Packet.unwire
                                 ++ f.flight.filter (fun p => !p.onWire k) })).modLink k (fun l => { l with sent := l.nextFlit })

/-- A link leaves the state up: the packets on it go back, and its end changes. -/
def State.loseLink (s : State) (k : Nat) (f : Link → Link) : State := (s.unwire k).modLink k f

/-- The dark and out-of-service bits that a router holds (R215). -/
def State.heldBits (s : State) (i : Nat) : W64 := (Tab.get (0, 0) s.fab.held i).1 ||| (Tab.get (0, 0) s.fab.held i).2

/-- Router i cannot deliver a packet: its destination lies in a field whose bit the router holds, or the installed tables
cannot reach its destination router or have no link there to the crust (R205, R215, R216). -/
def State.undeliverable (s : State) (i : Nat) (p : Packet) : Bool :=
  (!p.toCrust && inBits (s.heldBits i) p.dest)
    || (s.fab.installed != {} && ((s.fab.installed.dist p.dest i).isNone
        || (match p.crustDir with
          | some d => s.fab.installed.absent.contains (linkKey p.dest d)
          | none => false)))

/-- FAB_UNREACH (R223). -/
def offUnreach : Nat := fabBase + 0x30

/-- The UNREACH notice that replaces a request (R194, R205). -/
def Packet.notice (p : Packet) (i : Nat) : Packet :=
  { dx := p.sx, dy := p.sy, sx := siteX i, sy := siteY i, typ := .unreach, vc := p.vc, func := p.func, epoch := p.epoch,
    tag := p.tag, seq := p.seq, serial := p.serial, arg := 2 ^ 40 * p.typ.code + 2 ^ 32 * p.dy + 2 ^ 24 * p.dx, pos := .source i none }

/-- A packet enters the mesh and is counted (R193, R207). -/
def State.enterMesh (s : State) (p : Packet) : State :=
  (s.modFab (fun f => { f with flight := f.flight ++ [{ p with id := f.nextId }], nextId := f.nextId + 1 })).countFlight p true

/-- What becomes of a packet at router i that the router cannot deliver (R205): a request is replaced by a notice to its
source, and an answer is discarded; each is counted in FAB_UNREACH. -/
def State.settlePacket (s : State) (p : Packet) : State :=
  match p.pos with
  | .source _ _ | .wire _ _ _ | .delivered _ => s
  | .router i _ =>
    if p.typ = .fold ∨ p.typ = .ttData ∨ !s.undeliverable i p then s
    else if p.typ.answer then (s.removePacket p).bump offUnreach 1
    else
      let q := p.notice i
      let s1 := (s.removePacket p).bump offUnreach 1
      if s1.undeliverable i q then s1.bump offUnreach 1
      else s1.enterMesh q

/-- The first packet of its kind at a source goes into its router's buffer when the whole packet has room there (R208): a cluster's
directly, and one from the crust over its link. -/
def State.letInOne (s : State) (p : Packet) : State :=
  match p.pos with
  | .source i inp =>
    if !s.routing i || !s.atHead p || !s.roomFor p (.router i inp) then s
    else
      match inp with
      | none =>
        let q := { p with pos := .router i none }
        (s.movePacket p q).settlePacket q
      | some d => if s.portUp i d && s.replayRoom (linkKey i d) p then s.sendWire p i d none else s
  | _ => s

/-- The packets that wait to enter a router do so in order, as far as they can. (DEDUCED, log 164) -/
def State.letIn (s : State) (i : Nat) : State :=
  s.each (s.fab.flight.filter (fun p => match p.pos with
    | .source j _ => i == j
    | _ => false)) State.letInOne

/-- Put a packet into the mesh (R193, R207). (DEDUCED, log 49) -/
def State.inject (s : State) (p : Packet) : State :=
  match p.pos with
  | .source i _ => (s.enterMesh p).letIn i
  | _ => s.enterMesh p

/-- Send a packet of a cluster: a pair's packets wait at the primary for comparison (R404, R405). -/
def State.sendFrom (s : State) (i : Nat) (p : Packet) : State :=
  match (s.clu i).pair with
  | none => s.inject p
  | some x =>
    if x.primary then
      s.modClu i (fun c => { c with pair := c.pair.map (fun x => { x with held := x.held ++ [(p, s.now)] }) })
    else
      s.modClu x.other (fun c => { c with pair := c.pair.map (fun x => { x with twin := x.twin ++ [p] }) })

/-- The sides of the crust (R9). -/
def crustSide (k : Nat) : Dir := if k < 4 then .north else if k < 8 then .east else if k < 12 then .south else .west

/-- The first column or row that a crust block faces (R9, R195). -/
def crustFirst (k : Nat) : Nat :=
  if k < 4 then 40 * k else if k < 8 then 40 * (k - 4) else if k < 12 then 40 * (11 - k) else 40 * (15 - k)

/-- The edge router of a side at a column or row. -/
def edgeRouter (d : Dir) (e : Nat) : Nat := match d with
  | .north => siteIdx e 0
  | .south => siteIdx e 159
  | .west => siteIdx 0 e
  | .east => siteIdx 159 e

/-- The entry column or row for crust block k and a cluster (R195). -/
def State.crustEntry (s : State) (k i : Nat) : Nat :=
  let d := crustSide k
  let c0 := crustFirst k
  let own := match d with | .north => siteX i | .south => siteX i | _ => siteY i
  let e := min (max own c0) (c0 + 39)
  let f := fieldOf (edgeRouter d e)
  if s.isDark f || s.isOos f then (if e < c0 + 20 then c0 + 20 else c0 + 19) else e

/-- The packet coordinates of crust block k as cluster i addresses it (R193, R195). -/
def State.crustAddr (s : State) (k i : Nat) : Nat × Nat :=
  let e := s.crustEntry k i
  match crustSide k with
  | .north => (e, 0xA0)
  | .south => (e, 0xA1)
  | .west => (0xA0, e)
  | .east => (0xA1, e)

/-- The map of what is live now (R196, R201, R215). -/
def State.liveMap (s : State) : LiveMap :=
  { dark := s.fab.dark, oos := s.fab.oos,
    absent := s.fab.link.filterMap (fun e => if e.2.state == .up then none else some e.1) }

/-- A map change (R201): the route engine closes lane U and recomputes. -/
def State.mapChange (s : State) : State := s.modFab (fun f => { f with recomputing := true })

/-! ### Checkers -/

/-- Hops between two sites under the installed tables. -/
def State.hops (s : State) (i j : Nat) : Nat := (s.fab.installed.dist j i).getD 100000

/-- A site can serve as a checker (R400): it is spare and its field is live. -/
def State.canCheck (s : State) (i : Nat) : Bool := s.siteState i == .spare && !s.isDark (fieldOf i) && !s.isOos (fieldOf i)

/-- The sites of the wafer. -/
def allSites : List Nat := List.range 25600

/-- The nearest of a list of sites, the lowest on a tie: with its hops. -/
def State.nearest (s : State) (i : Nat) (l : List Nat) : Option (Nat × Nat) :=
  l.foldl (fun b j =>
    let h := s.hops i j
    match b with
    | none => some (j, h)
    | some (_, k) => if h < k then some (j, h) else b) none

/-- The checker of a cluster among spare sites that serve fewer than 48 (R400): in its own field if one is free there, else the
nearest. -/
def State.pickChecker (s : State) (spares : List Nat) (used : Tab Nat) (i : Nat) : Option Nat :=
  let free := spares.filter (fun j => Tab.get 0 used j < 48)
  let own := free.filter (fun j => fieldOf j == fieldOf i)
  (s.nearest i (if own.isEmpty then free else own)).map Prod.fst

/-- One site's turn when checkers are assigned (R400), with how many clusters each checker serves so far. -/
def State.checkStep (s : State) (spares : List Nat) (a : Tab Cluster × Tab Nat) (i : Nat) : Tab Cluster × Tab Nat :=
  let k := if s.siteState i = .enabled then s.pickChecker spares a.2 i else none
  (Tab.put {} a.1 i { (Tab.get {} a.1 i : Cluster) with checker := k },
    match k with | some j => Tab.put 0 a.2 j (Tab.get 0 a.2 j + 1) | none => a.2)

/-- Assign checkers afresh (R400), to enabled clusters in ascending site order. -/
def State.assignCheckers (s : State) : State :=
  { s with cl := (allSites.foldl (s.checkStep (allSites.filter s.canCheck)) (s.cl, [])).1 }

end Sys2Proof.Machine
end

