-- ==== Sys2Proof/Machine/Steering.lean ====
section
/-! DEFINITION. Steering units, token packets, credits, the steering watchdog and the end of a launch (R142 to R157). -/
namespace Sys2Proof.Machine

/-- The queue of a cluster with a consumer endpoint (R143). -/
def Cluster.consumedBy (c : Cluster) (code : Nat) : Option Nat :=
  (c.queue.find? (fun e => e.2.cap != 0 && e.2.cons.toNat == code)).map Prod.fst

/-- The queue of a cluster with a producer endpoint (R143). -/
def Cluster.producedBy (c : Cluster) (code : Nat) : Option Nat :=
  (c.queue.find? (fun e => e.2.cap != 0 && e.2.prod.toNat == code)).map Prod.fst

/-- The endpoint code of port k of steering unit u (R143): 0 C, 1 D0, 2 D1, 4 O0, 5 O1. -/
def steerCode (u k : Nat) : Nat := 0x80 + 8 * u + k

/-- The token at the head of the queue on an input port of a steering unit. -/
def Cluster.steerHead (c : Cluster) (u k : Nat) : Option Token :=
  (c.consumedBy (steerCode u k)).bind (fun q => (c.getQueue q).toks.head?)

/-- The queue on an output port of a steering unit has room. -/
def Cluster.steerRoom (c : Cluster) (u k : Nat) : Bool :=
  match c.producedBy (steerCode u k) with
  | some q => 0 < (c.getQueue q).room
  | none => false

/-- Consume the token at the head of an input port. -/
def Cluster.steerTake (c : Cluster) (u k : Nat) : Cluster :=
  match c.consumedBy (steerCode u k) with
  | some q => c.dequeue q
  | none => c

/-- Enqueue a data word on an output port. -/
def Cluster.steerPut (c : Cluster) (u k : Nat) (data : W32) : Cluster :=
  match c.producedBy (steerCode u k) with
  | some q => c.enqueue q data
  | none => c

/-- A site accepts no work: it is quarantined, or retired (R12, R29). -/
def State.barred (s : State) (i : Nat) : Bool := s.siteState i == .quarantined || s.siteState i == .retired

/-- The load of a cluster's configuration is past its drain (R159). -/
def State.pastDrain (s : State) (i : Nat) : Bool :=
  match (s.clu i).owner, (s.clu i).cfg with
  | some f, some c => (match (s.cfg f c).load with
    | some l => l.phase != .drain
    | none => false)
  | _, _ => false

/-- A steering unit of a cluster can act: the compute clock runs, and the cluster is loaded, accepts work and is not past the drain of
a load (R12, R150, R157, R159). -/
def State.steers (s : State) (i : Nat) : Bool :=
  s.clocked i && (s.clu i).cfg.isSome && !(s.clu i).resetting && !s.barred i && !s.pastDrain i

/-- A control token's condition (R150). -/
def Token.isTrue (t : Token) : Bool := t.data != 0

/-- The count of a rate control token (R150). -/
def Token.count (t : Token) : Nat := t.data.toNat % 65536

/-- A change of a cluster that is progress (R153). -/
def State.fire (s : State) (i : Nat) (f : Cluster → Cluster) : State := s.modClu i (fun c => { f c with wdog := 0 })

/-- BRANCH_FIRE (R150). -/
def execBranchFire (x : Site) (u : SteerIx) (s : State) : Res :=
  let i := Site.idx x
  let c := s.clu i
  match c.steerHead u.val 0, c.steerHead u.val 1 with
  | some t, some d =>
    let o := if t.isTrue then 5 else 4
    if s.steers i && (c.getSteer u.val).kind == .branch && c.steerRoom u.val o then
      .next (s.fire i (fun c => ((c.steerTake u.val 0).steerTake u.val 1).steerPut u.val o d.data))
    else .next s
  | _, _ => .next s

/-- MERGE_FIRE (R150). -/
def execMergeFire (x : Site) (u : SteerIx) (s : State) : Res :=
  let i := Site.idx x
  let c := s.clu i
  match c.steerHead u.val 0 with
  | some t =>
    let k := if t.isTrue then 2 else 1
    (match c.steerHead u.val k with
    | some d =>
      if s.steers i && (c.getSteer u.val).kind == .merge && c.steerRoom u.val 4 then
        .next (s.fire i (fun c => ((c.steerTake u.val 0).steerTake u.val k).steerPut u.val 4 d.data))
      else .next s
    | none => .next s)
  | none => .next s

/-- RATE_REPEAT_FIRE (R150): the first of n copies leaves in the firing cycle. -/
def execRateRepeatFire (x : Site) (u : SteerIx) (s : State) : Res :=
  let i := Site.idx x
  let c := s.clu i
  let v := c.getSteer u.val
  match c.steerHead u.val 0, c.steerHead u.val 1 with
  | some t, some d =>
    if s.steers i && v.kind == .rateRepeat && v.count == 0 && c.steerRoom u.val 4 then
      .next (s.fire i (fun c =>
        let c1 := (c.steerTake u.val 0).steerTake u.val 1
        if t.count = 0 then c1
        else (c1.steerPut u.val 4 d.data).modSteer u.val (fun v =>
          { v with count := t.count - 1, held := if t.count = 1 then none else some d })))
    else .next s
  | _, _ => .next s

/-- RATE_REPEAT_EMIT (R150). -/
def execRateRepeatEmit (x : Site) (u : SteerIx) (s : State) : Res :=
  let i := Site.idx x
  let c := s.clu i
  let v := c.getSteer u.val
  match v.held with
  | some d =>
    if s.steers i && v.kind == .rateRepeat && 0 < v.count && c.steerRoom u.val 4 then
      .next (s.fire i (fun c => (c.steerPut u.val 4 d.data).modSteer u.val (fun v =>
        { v with count := v.count - 1, held := if v.count = 1 then none else some d })))
    else .next s
  | none => .next s

/-- RATE_SKIP_FIRE (R150): with a count of 0 only the control token is consumed. -/
def execRateSkipFire (x : Site) (u : SteerIx) (s : State) : Res :=
  let i := Site.idx x
  let c := s.clu i
  let v := c.getSteer u.val
  if s.steers i && v.kind == .rateSkip && v.count == 0 then
    match c.steerHead u.val 0 with
    | some t =>
      if t.count = 0 then .next (s.fire i (fun c => c.steerTake u.val 0))
      else
        (match c.steerHead u.val 1 with
        | some d =>
          if c.steerRoom u.val 4 then
            .next (s.fire i (fun c => (((c.steerTake u.val 0).steerTake u.val 1).steerPut u.val 4 d.data).modSteer u.val
              (fun v => { v with count := t.count - 1 })))
          else .next s
        | none => .next s)
    | none => .next s
  else .next s

/-- RATE_SKIP_DISCARD (R150). -/
def execRateSkipDiscard (x : Site) (u : SteerIx) (s : State) : Res :=
  let i := Site.idx x
  let c := s.clu i
  let v := c.getSteer u.val
  if s.steers i && v.kind == .rateSkip && 0 < v.count && (c.steerHead u.val 1).isSome then
    .next (s.fire i (fun c => (c.steerTake u.val 1).modSteer u.val (fun v => { v with count := v.count - 1 })))
  else .next s

/-- CARRY_ENTER (R150). -/
def execCarryEnter (x : Site) (u : SteerIx) (s : State) : Res :=
  let i := Site.idx x
  let c := s.clu i
  let v := c.getSteer u.val
  match c.steerHead u.val 1 with
  | some d =>
    if s.steers i && v.kind == .carry && !v.looping && c.steerRoom u.val 4 then
      .next (s.fire i (fun c => ((c.steerTake u.val 1).steerPut u.val 4 d.data).modSteer u.val
        (fun v => { v with looping := true })))
    else .next s
  | none => .next s

/-- CARRY_LOOP (R150). -/
def execCarryLoop (x : Site) (u : SteerIx) (s : State) : Res :=
  let i := Site.idx x
  let c := s.clu i
  let v := c.getSteer u.val
  match c.steerHead u.val 0, c.steerHead u.val 2 with
  | some t, some d =>
    let o := if t.isTrue then 4 else 5
    if s.steers i && v.kind == .carry && v.looping && c.steerRoom u.val o then
      .next (s.fire i (fun c => (((c.steerTake u.val 0).steerTake u.val 2).steerPut u.val o d.data).modSteer u.val
        (fun v => { v with looping := t.isTrue })))
    else .next s
  | _, _ => .next s

/-- The site that holds logical coordinates of a configuration; a twin stands for none (R147, R403). -/
def State.siteOf (s : State) (f c lx ly : Nat) : Option Nat :=
  (s.cfg f c).clusters.find? (fun i => (s.clu i).lx == lx && (s.clu i).ly == ly &&
    (match (s.clu i).pair with | some x => x.primary | none => true))

/-- A queue's remote cluster. -/
def State.remoteOf (s : State) (i : Nat) (q : Queue) : Option Nat :=
  match (s.clu i).owner, (s.clu i).cfg with
  | some f, some c => s.siteOf f c q.rx.toNat q.ry.toNat
  | _, _ => none

/-- A TT stream of KIND 0 carries a queue of a site (R240). -/
def State.ttQueue (s : State) (i q : Nat) : Option TTStream :=
  match (s.clu i).owner, (s.clu i).cfg with
  | some f, some c => (s.cfg f c).streams.find? (fun t => !t.put && t.src == i && t.sq == q)
  | _, _ => none

/-- The data words of tokens as bytes (R194). -/
def tokenBytes (l : List Token) : List W8 := l.flatMap (fun t => leBytes 4 t.data.toNat)

/-- Take n tokens from the head of an outbound queue to send them (R145, R146). -/
def Queue.sendOut (q : Queue) (n : Nat) : Queue :=
  { q with toks := q.toks.drop n, seq := q.seq + BitVec.ofNat 16 n, credits := q.credits - n }

/-- TOKEN_SEND (R144, R145): up to 8 credited tokens of an outbound queue leave in one packet; the operand is their number
less 1. -/
def execTokenSend (x : Site) (q : Fin 128) (n : Fin 8) (s : State) : Res :=
  let i := Site.idx x
  let c := s.clu i
  let v := c.getQueue q.val
  let m := n.val + 1
  match s.remoteOf i v, c.owner with
  | some j, some f =>
    if s.routing i && v.cap != 0 && v.cons == 0xA0 && m ≤ v.toks.length && m ≤ v.credits && (s.ttQueue i q.val).isNone
        && !c.resetting then
      .next ((s.fire i (fun c => c.modQueue q.val (fun v => v.sendOut m))).sendFrom i
        { dx := siteX j, dy := siteY j, sx := x.x.val, sy := x.y.val, typ := .token, vc := v.vc.toNat, func := f,
          epoch := c.epoch, seq := v.seq, arg := v.rq.toNat, payload := tokenBytes (v.toks.take m), pos := .source i none })
    else .next s
  | _, _ => .next s

/-- A packet of a type that has reached its destination, and where (R202). -/
def State.arrived (s : State) (id : Nat) (t : PType) : Option (Packet × Nat) :=
  match s.packet id with
  | some p => match p.pos with
    | .delivered i => if p.typ = t then some (p, i) else none
    | _ => none
  | none => none

/-- The offset of FIELD_CL_DISCARD (R139). -/
def offClDiscard (i : Nat) : Nat := clPage i + 0x30

/-- A packet is discarded at a cluster: counted there, and for a resetting partition in PART_RESET_DISCARD (R157, R338). -/
def State.discardAt (s : State) (i : Nat) (p : Packet) : State :=
  let s1 := (s.removePacket p).bump (offClDiscard i) 1
  if s1.resetting p.func then s1.bump (partSet p.func + 0x20) 1 else s1

/-- Tokens of an epoch are discarded at a cluster and counted; a load in progress on the cluster's configuration counts those of its
old epoch in its result (R157, R160). (DEDUCED, log 38) -/
def State.staleTokens (s : State) (i n : Nat) (e : BitVec 2) : State :=
  match (s.clu i).owner with
  | none => s
  | some f =>
    let s1 := if n = 0 then s else s.bump (partSet f + 0x200) n
    match (s.clu i).cfg with
    | some c => s1.modCfg f c (fun k => { k with load := k.load.map (fun l =>
        if l.oldEpoch = some e then { l with discarded := l.discarded + n } else l) })
    | none => s1

/-- The words of a token packet's payload. -/
def payloadWords : List W8 → List W32
  | a :: b :: c :: d :: l => BitVec.ofNat 32 (leNat [a, b, c, d]) :: payloadWords l
  | _ => []

/-- Tokens whose turn has come become visible (R145). -/
def Queue.release : Nat → Queue → Queue
  | 0, q => q
  | k + 1, q =>
    match q.ahead.find? (fun e => e.1 == q.seq.toNat) with
    | some e => Queue.release k { q with toks := q.toks ++ [e.2], seq := q.seq + 1,
                                         ahead := q.ahead.filter (fun x => x.1 != e.1) }
    | none => q

/-- Tokens arrive at an inbound queue from a sequence number on (R145). -/
def Queue.arrive (q : Queue) (seq : W16) (l : List Token) : Queue :=
  Queue.release 32 { q with ahead := q.ahead ++ (List.range l.length).map (fun k =>
    ((seq + BitVec.ofNat 16 k).toNat, l.getD k { data := 0, epoch := 0 })) }

/-- A token packet reaches a cluster (R145, R157). -/
def State.tokensReach (s : State) (i : Nat) (p : Packet) : State :=
  let ws := payloadWords p.payload
  if p.epoch != (s.clu i).epoch then (s.removePacket p).staleTokens i ws.length p.epoch
  else (s.removePacket p).fire i (fun c => c.modQueue (p.arg % 128) (fun q =>
    q.arrive p.seq (ws.map (fun w => { data := w, epoch := p.epoch }))))

/-- What a packet for a primary also does at its twin (R404). -/
def State.twinOf (s : State) (i : Nat) : Option Nat :=
  match (s.clu i).pair with
  | some x => if x.primary then some x.other else none
  | none => none

/-- A packet of tokens reaches a cluster and its twin, each of which compares its epoch, or is discarded there (R145, R157, R404). -/
def State.tokenArrive (s : State) (i : Nat) (p : Packet) : State :=
  if (s.clu i).cfg.isNone || (s.clu i).resetting || s.barred i then s.discardAt i p
  else
    let s1 := s.tokensReach i p
    match s.twinOf i with
    | some j =>
      if p.epoch != (s.clu i).epoch || p.epoch != (s.clu j).epoch then s1
      else s1.fire j (fun c => c.modQueue (p.arg % 128) (fun q =>
        q.arrive p.seq ((payloadWords p.payload).map (fun w => { data := w, epoch := p.epoch }))))
    | none => s1

/-- TOKEN (R145, R157): a packet's tokens are stored by sequence number, or discarded. -/
def execToken (id : Nat) (s : State) : Res :=
  match s.arrived id .token with
  | none => .next s
  | some (p, i) => .next (s.tokenArrive i p)

/-- The outbound queue at the other end of an inbound queue (R148). -/
def State.senderOf (s : State) (i q : Nat) : Option (Nat × Nat) :=
  match s.remoteOf i ((s.clu i).getQueue q) with
  | none => none
  | some j =>
    ((s.clu j).queue.find? (fun e => e.2.cap != 0 && e.2.cons == 0xA0 && e.2.rq.toNat == q
      && s.remoteOf j e.2 == some i)).map (fun e => (j, e.1))

/-- CREDIT_RETURN (R145): one credit leaves for the outbound queue, with the epoch of the configuration. -/
def execCreditReturn (x : Site) (q : Fin 128) (s : State) : Res :=
  let i := Site.idx x
  let v := (s.clu i).getQueue q.val
  if s.routing i && v.prod == 0xA0 && 0 < v.owed then
    let s1 := s.modClu i (fun c => c.modQueue q.val (fun v => { v with owed := v.owed - 1 }))
    match s.senderOf i q.val with
    | some (j, r) => .next (s1.modFab (fun f => { f with credits := f.credits ++ [{ site := j, q := r, epoch := (s.clu i).epoch, src := i }] }))
    | none => .next s1
  else .next s

/-- Remove the first element that a test selects. -/
def dropFirst {α : Type} (p : α → Bool) : List α → List α
  | [] => []
  | x :: l => if p x then l else x :: dropFirst p l

/-- Every hop of the normal route from router i to router t, in the tables m, leads on in the live map. -/
def LiveMap.routeLives (m live : LiveMap) (t : Nat) : Nat → Nat → Bool
  | 0, _ => false
  | k + 1, i =>
    match m.normalHop i t with
    | none => true
    | some none => false
    | some (some d) => (match live.hop i d with
      | some j => m.routeLives live t k j
      | none => false)

/-- A credit on its way from site i to site j is held for a map change: the tables still send it over a part that is lost (R216, R218). -/
def State.creditHeld (s : State) (i j : Nat) : Bool := s.fab.recomputing && !s.fab.installed.routeLives s.liveMap j 25600 i

/-- CREDIT_RECEIVE (R145, R218): a credit that is not held arrives; one of another epoch, or for a queue that is not loaded or whose
partition resets, is discarded. -/
def execCreditReceive (x : Site) (q : Fin 128) (s : State) : Res :=
  let i := Site.idx x
  let mine (k : Credit) : Bool := k.site == i && k.q == q.val && !s.creditHeld k.src i
  match s.fab.credits.find? mine with
  | none => .next s
  | some k =>
    let s1 := s.modFab (fun f => { f with credits := dropFirst mine f.credits })
    let c := s.clu i
    if k.epoch == c.epoch && c.cfg.isSome && !c.resetting && (c.getQueue q.val).cap != 0 then
      .next (s1.modClu i (fun c => c.modQueue q.val (fun v => { v with credits := v.credits + 1 })))
    else .next s1

/-- A loaded core of the cluster is running and has not executed DONE (R153). -/
def Cluster.unfinished (c : Cluster) : Bool := c.core.any (fun e => e.2.seq == .running && !e.2.done)

/-- STEER_STALL (R153 to R155): fabric cycles without progress; at 2^WDOG the launch halts and completes with STEER_STALL.
(DEDUCED, log 35) -/
def execSteerStall (x : Site) (cycles : Nat) (s : State) : Res :=
  let i := Site.idx x
  let c := s.clu i
  match c.owner, c.cfg with
  | some f, some k =>
    let cf := s.cfg f k
    if s.routing i && s.clocked i && c.unfinished && cf.load.isNone && cf.halted.isNone then
      let n := c.wdog + cycles
      if 2 ^ c.wdogExp ≤ n then
        .next ((s.modClu i (fun c => { c with wdog := 2 ^ c.wdogExp })).haltRun f k
          { status := stStall, source := 3, cx := x.x.val, cy := x.y.val })
      else .next (s.modClu i (fun c => { c with wdog := n }))
    else .next s
  | _, _ => .next s

/-- A cluster's part in a launch is over (R152): every loaded core has executed DONE, carry units are idle, no rate count
is outstanding, no transfer is in progress, and every packet of a pair has been compared (R405). (DEDUCED, log 27; DEDUCED, log 116) -/
def Cluster.finished (c : Cluster) : Bool :=
  c.core.all (fun e => e.2.seq == .unloaded || e.2.done)
    && c.steer.all (fun e => !e.2.looping && e.2.count == 0)
    && c.slot.all (fun e => e.2.isNone) && c.stalled.isEmpty
    && (match c.pair with | some x => x.held.isEmpty | none => true)

/-- The OR of the flags of the cores of clusters (R62). -/
def State.runFlags (s : State) (sites : List Nat) : BitVec 4 :=
  sites.foldl (fun a i => (s.clu i).core.foldl (fun b e => b ||| e.2.flags) a) 0

/-- The lineage entry of a run is removed from a paired cluster when its run completes with every packet equal (R409). -/
def State.pairClean (s : State) (i : Nat) (e : W64) : State :=
  match (s.clu i).pair with
  | some x => if x.held.isEmpty && x.twin.isEmpty && !(s.clu i).linFrozen then
      s.modClu i (fun c => { c with lineage := c.lineage.filter (· != e) }) else s
  | none => s

/-- LAUNCH_COMPLETE (R62, R152, R185, R272, R325): the launch, or frame-slot run, of a configuration is complete; or one that has ended,
and whose last writes have been performed or lost. -/
def execLaunchComplete (f : Func) (cfg : Fin 256) (s : State) : Res :=
  let k := s.cfg f.val cfg.val
  match k.run with
  | none => .next s.settleLaunches
  | some u =>
    if k.clusters.all (fun i => (s.clu i).finished && !s.fab.starts.contains i) then
      let fl := s.runFlags k.clusters
      let st := if u.makeup then stMakeup else if fl != 0 then stOkFlags else stOk
      let e := s.runEntry f.val u
      .next (((s.each k.clusters (fun t i => t.pairClean i e)).finishRun f.val cfg.val
        { status := st, flags := fl, r0 := s.tokensIn k.clusters, r1 := u.group }))
    else .next s

end Sys2Proof.Machine
end

