-- ==== Sys2Proof/Machine/Dma.lean ====
section
/-! DEFINITION. Transfers: XFER, its checks, the packets of each operation, and their answers (R133 to R138, R203 to R206,
R232, R233, R252, R380 to R382). -/
namespace Sys2Proof.Machine

/-- The transfer request in 32 bytes (R134). -/
def parseReq (l : List W8) : XReq :=
  { op := byteAt l 0, vc := byteAt l 1, glen := byteAt l 2, doneq := byteAt l 3,
    tag := BitVec.ofNat 32 (leNat ((l.drop 4).take 4)), saddr := leNat ((l.drop 8).take 4),
    len := leNat ((l.drop 12).take 4), remote := leNat ((l.drop 16).take 8), stride := leNat ((l.drop 24).take 4),
    rows := leNat ((l.drop 28).take 2), rsv := leNat ((l.drop 30).take 2) }

/-- Rows of a request: 0 means 1 (R134). -/
def XReq.rowCount (q : XReq) : Nat := if q.rows = 0 then 1 else q.rows

/-- GLEN of a request: 0 means 32 (R134). -/
def XReq.glenTag (q : XReq) : Nat := if q.glen = 0 then 32 else q.glen

/-- Target cluster and address of a PUT (R134). -/
def XReq.putX (q : XReq) : Nat := q.remote / 2 ^ 48 % 256
def XReq.putY (q : XReq) : Nat := q.remote / 2 ^ 56
def XReq.putAddr (q : XReq) : Nat := q.remote % 2 ^ 32

/-- DONEQ names a queue whose producer is the DMA engine, or none (R134, R149). -/
def Cluster.doneqOk (c : Cluster) (q : Nat) : Bool :=
  q == 0xFF || (q < 128 && (c.getQueue q).cap != 0 && (c.getQueue q).prod == 0xA1)

/-- The fold tree of a configuration by its number. -/
def State.treeOf (s : State) (f t : Nat) : Option (Nat × FoldTree) :=
  (s.prt f).cfg.findSome? (fun e => (e.2.trees.find? (fun x => x.tree == t)).map (fun x => (e.1, x)))

/-- The node of a tree at a site (R225). -/
def FoldTree.node (t : FoldTree) (i : Nat) : Option FoldNode := t.nodes.find? (fun n => n.site == i)

/-- Fields of a FOLD request (R232). -/
def XReq.foldTree (q : XReq) : Nat := q.remote / 2 ^ 54
def XReq.foldRound (q : XReq) : Bool := bitOf q.remote 53
def XReq.foldOff (q : XReq) : Nat := q.remote % 2 ^ 32

/-- Fields of a RACC request (R380). -/
def XReq.vgroup (q : XReq) : Nat := q.remote / 2 ^ 56
def XReq.srcInt (q : XReq) : Bool := bitOf q.remote 55
def XReq.first (q : XReq) : Nat := q.remote % 2 ^ 32

/-- Cause 0x1 of R138 for LOAD, STORE and PUT. -/
def XReq.moveBad (q : XReq) (c : Cluster) : Bool :=
  !(q.vc == 1 || q.vc == 2) || (q.op != 2 && 32 < q.glen) || !c.doneqOk q.doneq || q.rsv != 0
    || q.saddr % 8 != 0 || q.len % 8 != 0 || q.len < 8 || 65536 < q.len || q.stride % 8 != 0
    || !inSp q.saddr (q.rowCount * q.len)
    || (if q.op = 3 then q.remote / 2 ^ 32 % 2 ^ 16 != 0 || q.putAddr % 8 != 0
          || spBytes < q.putAddr + (q.rowCount - 1) * q.stride + q.len
        else q.remote % 8 != 0 || 2 ^ 42 ≤ q.remote)

/-- The site at which a cluster contributes to a fold tree: a twin's contributions are those of its primary (R404). -/
def State.foldSite (s : State) (i : Nat) : Nat :=
  match (s.clu i).pair with
  | some x => if x.primary then i else x.other
  | none => i

/-- Cause 0x1 for FOLD (R232). -/
def State.foldBad (s : State) (i : Nat) (q : XReq) : Bool :=
  let c := s.clu i
  q.remote / 2 ^ 32 % 2 ^ 21 != 0 || q.stride != 0 || 1 < q.rows || q.rsv != 0 || !c.doneqOk q.doneq
    || q.saddr % 8 != 0 || q.len % 8 != 0 || q.len < 8 || 65536 < q.len || q.foldOff % 256 != 0 || !inSp q.saddr q.len
    || (match c.owner, c.cfg with
      | some f, some k => (match (s.cfg f k).trees.find? (fun t => t.tree == q.foldTree) with
        | some t => (match t.node (s.foldSite i) with
          | some n => !n.locl || t.total < q.foldOff + q.len
          | none => true)
        | none => true)
      | _, _ => true)

/-- Cause 0x1 for RACC (R380). -/
def State.raccBad (s : State) (i : Nat) (q : XReq) : Bool :=
  let c := s.clu i
  let g := s.tgroup q.vgroup
  q.remote / 2 ^ 32 % 2 ^ 23 != 0 || q.stride != 0 || 1 < q.rows || q.rsv != 0 || !c.doneqOk q.doneq
    || q.saddr % 8 != 0 || q.len % 4 != 0 || q.len < 4 || 65536 < q.len || !inSp q.saddr q.len
    || !(match s.runOf i with | some (_, u) => u.train | none => false)
    || g.step.isNone || some (s.group q.vgroup).owner != c.owner || g.nelem.toNat < q.first + q.len / 4

/-- A device row is outside the quota, or a STORE touches a sealed page (R138, R285). -/
def State.rowBad (s : State) (f : Nat) (q : XReq) (r : Nat) : Bool :=
  let a := q.remote + r * q.stride
  !s.owns f a q.len || (q.op == 2 && s.touchesSealed a q.len)

/-- The cause with which a request fails before any byte moves (R138), or none. -/
def State.xferCause (s : State) (i : Nat) (q : XReq) : Option Nat :=
  let c := s.clu i
  if q.op = 4 then (if s.foldBad i q then some 1 else none)
  else if q.op = 5 then (if s.raccBad i q then some 1 else none)
  else if q.op = 0 || 5 < q.op || q.moveBad c then some 1
  else
    match c.owner with
    | none => some 1
    | some f =>
      if q.op = 3 then
        (if q.putX < 160 ∧ q.putY < 160 ∧ (s.clu (siteIdx q.putX q.putY)).owner = some f
            ∧ s.siteState (siteIdx q.putX q.putY) = .enabled then none else some 3)
      else if (List.range q.rowCount).any (s.rowBad f q) then some 2 else none

/-- The pieces of at most 256 bytes, never across a 256-byte boundary of the remote address, of one row (R134): remote
address, local address and length. The first argument bounds their number. -/
def pieces : Nat → Nat → Nat → Nat → List (Nat × Nat × Nat)
  | 0, _, _, _ => []
  | k + 1, remote, loc, n =>
    if n = 0 then [] else
      let m := min n (256 - remote % 256)
      (remote, loc, m) :: pieces k (remote + m) (loc + m) (n - m)

/-- The pieces of a LOAD, STORE or PUT. -/
def XReq.pieces (q : XReq) : List (Nat × Nat × Nat) :=
  let base := if q.op = 3 then q.putAddr else q.remote
  (List.range q.rowCount).flatMap (fun r =>
    Sys2Proof.Machine.pieces (q.len / 256 + 2) (base + r * q.stride) (q.saddr + r * q.len) q.len)

/-- The view parity of a device address for the run of a cluster (R252, R286). -/
def State.parityAt (s : State) (i a : Nat) : Bool :=
  let p := s.page (pageOf a)
  p.vers && (match s.runOf i with
    | some (_, u) => u.view.contains p.vgroup
    | none => (s.group p.vgroup).slot == 1)

/-- The header that all packets of a transfer share, with its serial number and GLEN (R133, R206). (DEDUCED, log 166) -/
def State.xferHeader (s : State) (i slot : Nat) (q : XReq) (f : Nat) (t : PType) : Packet :=
  { dx := 0, dy := 0, sx := siteX i, sy := siteY i, typ := t, vc := q.vc, func := f, epoch := (s.clu i).epoch, tag := slot,
    serial := (s.clu i).xferNext, glen := q.glenTag, pos := .source i none }

/-- The packets of a LOAD, STORE or PUT (R134, R194, R203). -/
def State.movePackets (s : State) (i slot f : Nat) (q : XReq) : List Packet :=
  let c := s.clu i
  (q.pieces.zipIdx).map (fun e =>
    let a := e.1.1
    let l := e.1.2.1
    let n := e.1.2.2
    let seq := BitVec.ofNat 16 e.2
    if q.op = 3 then
      { s.xferHeader i slot q f .wr with dx := q.putX, dy := q.putY, seq := seq, arg := a, payload := c.sp.read l n }
    else
      let k := s.crustAddr (s.stackOf a / 2) i
      let par := if s.parityAt i a then 2 ^ 47 else 0
      if q.op = 1 then
        { s.xferHeader i slot q f .rdReq with dx := k.1, dy := k.2, seq := seq, arg := a + par,
                                              payload := leBytes 4 l ++ leBytes 2 n ++ leBytes 2 0 }
      else
        { s.xferHeader i slot q f .wr with dx := k.1, dy := k.2, seq := seq, arg := a + par, payload := c.sp.read l n })

/-- The header of a FOLD packet (R230). -/
def foldArg (tree : Nat) (round : Bool) (flags : BitVec 4) (seg : Nat) : Nat :=
  2 ^ 38 * tree + 2 ^ 37 * round.toNat + 2 ^ 32 * flags.toNat + 2 ^ 16 * seg

/-- The local contributions of a FOLD transfer, at their node (R230 to R233). -/
def State.foldPackets (s : State) (i slot f : Nat) (q : XReq) : List Packet :=
  let root := match s.treeOf f q.foldTree with | some (_, t) => t.root | none => i
  (List.range ((q.len + 255) / 256)).map (fun k =>
    let seg := q.foldOff / 256 + k
    { s.xferHeader i slot q f .fold with
      dx := siteX root, dy := siteY root, vc := 3, seq := BitVec.ofNat 16 seg, arg := foldArg q.foldTree q.foldRound 0 seg,
      payload := (s.clu i).sp.read (q.saddr + 256 * k) (min 256 (q.len - 256 * k)), pos := .delivered (s.foldSite i) })

/-- A contribution element (R381): the INT32 encoding and its flags. -/
def raccElem (srcInt : Bool) (scale : Int) (raw : Nat) : Nat × ArithFlags :=
  if srcInt then (raw, 0) else Fmt.int32.convert false ((Fmt.fp32.decode raw).scale (-scale))

/-- The lengths of the records of `n` elements from element `first`: at most 60, never across a block boundary (R381). The
first argument bounds their number. -/
def recordCuts : Nat → Nat → Nat → List (Nat × Nat)
  | 0, _, _ => []
  | k + 1, first, n =>
    if n = 0 then [] else
      let m := min (min n 60) (16384 - first % 16384)
      (first, m) :: recordCuts k (first + m) (n - m)

/-- The bytes of a contribution record (R381). -/
def recordOf (first : Nat) (es : List Nat) : List W8 :=
  leBytes 4 first ++ leBytes 1 es.length ++ leBytes 3 0
    ++ leBytes 8 ((es.map (signedOf 32)).sum % (2 ^ 64 : Int)).toNat ++ es.flatMap (leBytes 4)

/-- A Tow link is up (R367). -/
def State.towUp (s : State) (p : Nat) : Bool := p < 16 && (s.tport p).state == .up

/-- TOW_ROUTE of an engine: primary and alternate port, 31 for none (R367, R394). -/
def State.towRoute (s : State) (e : Nat) : Nat × Nat :=
  let w := (Tab.get 0#32 s.tow.route e).toNat
  if bitOf w 31 then (w % 32, w / 32 % 32) else (31, 31)

/-- The port on which a frame for an engine leaves, if it does not wait (R367). -/
def State.towPort (s : State) (e : Nat) : Option Nat :=
  let r := s.towRoute e
  if s.towUp r.1 then some r.1 else if s.towUp r.2 then some r.2 else none

/-- The packets of a RACC transfer and the flags of its conversions (R381, R382). -/
def State.raccPackets (s : State) (i slot f : Nat) (q : XReq) : List Packet × ArithFlags :=
  let g := s.tgroup q.vgroup
  let st := g.step
  let scale := match st with | some t => t.scale.toInt | none => 0
  let step := match st with | some t => t.step.toNat | none => 0
  let es := (List.range (q.len / 4)).map (fun k => raccElem q.srcInt scale (leNat ((s.clu i).sp.read (q.saddr + 4 * k) 4)))
  let cuts := recordCuts (q.len / 4 + 2) q.first (q.len / 4)
  let ps := cuts.zipIdx.map (fun e =>
    let first := e.1.1
    let els := ((es.drop (first - q.first)).take e.1.2).map Prod.fst
    let b := g.blocks.getD (first / 16384) { homeEng := 0, homeStk := 0, pelem := 0, pscale := 0, optst := 0, acc := 0 }
    let block := if b.homeEng = s.tow.engineId then b.homeStk / 2
      else (s.towPort b.homeEng).getD ((s.towRoute b.homeEng).1 % 16)
    let k := s.crustAddr block i
    { s.xferHeader i slot q f .racc with dx := k.1, dy := k.2, vc := 3, seq := BitVec.ofNat 16 e.2,
                                         arg := 2 ^ 40 * q.vgroup + 2 ^ 39 * (step % 2), payload := recordOf first els })
  (ps, orFlags (es.map Prod.snd))

/-- The scratchpad bytes that a request reads. -/
def XReq.source (q : XReq) : Option Range := if q.op = 1 then none else some (q.saddr, q.rowCount * q.len)

/-- A PUT is carried by a TT stream of its source (R240). -/
def State.ttPut (s : State) (i : Nat) (q : XReq) : Option TTStream :=
  match (s.clu i).owner, (s.clu i).cfg with
  | some f, some c =>
    if q.op = 3 && q.vc == 1 then
      (s.cfg f c).streams.find? (fun t => t.put && t.src == i && t.dst == siteIdx q.putX q.putY && t.wbase ≤ q.putAddr
        && q.putAddr + (q.rowCount - 1) * q.stride + q.len ≤ t.wbase + t.wsize)
    else none
  | _, _ => none

/-- A free transfer slot (R135). -/
def Cluster.freeSlot (c : Cluster) : Option Nat := (List.range 8).find? (fun k => (c.getSlot k).isNone)

/-- The TT_DATA form of a packet that a stream carries (R242). -/
def Packet.asTT (p : Packet) (t : TTStream) : Packet :=
  { p with typ := .ttData, vc := 1, arg := 2 ^ 38 * t.stream + p.arg % 2 ^ 32 }

/-- The DMA engine takes a request into a slot (R135, R138, R204, R240): it fails at once, or its packets leave; those of a TT stream
wait for their entries. (DEDUCED, log 29) -/
def State.startXfer (s : State) (i n slot : Nat) (q : XReq) : State :=
  match s.xferCause i q with
  | some cause => s.xferFail i n q.op cause
  | none =>
    if (match q.source with | some r => (s.clu i).dataBad n r.1 r.2 | none => false) then s.xferFail i n q.op 4
    else
      let f := (s.clu i).owner.getD 0
      let s1 := match q.source with | some r => s.correctRead i n r.1 r.2 | none => s
      let r := if q.op = 5 then s1.raccPackets i slot f q
        else (if q.op = 4 then s1.foldPackets i slot f q else s1.movePackets i slot f q, 0)
      let tt := s.ttPut i q
      let x : Xfer := { core := n, req := q, issue := if tt.isSome then 0 else BitVec.ofNat 32 r.1.length, lastAnswer := s.now,
                        serial := (s1.clu i).xferNext, tt := match tt with | some t => r.1.map (fun p => p.asTT t) | none => [] }
      let s2 := s1.modClu i (fun c =>
        { (c.setSlot slot (some x)).modCore n (fun k => { k with flags := k.flags ||| r.2 }) with xferNext := c.xferNext + 1 })
      if tt.isSome then s2
      else s2.each r.1 (fun t p => t.sendFrom i p)

/-- XFER (R96, R99, R134, R135): the request is copied; with 8 transfers in progress the core stalls until it is accepted. -/
def execXfer (r : CoreRef) (gd : GReg) (s : State) : Res :=
  let i := Site.idx r.site
  let n := r.n.val
  let c := s.clu i
  let a := ((s.core r).reg gd.val).toNat
  let good := vecOperand a 32
  let q := parseReq (c.dataRead n a 32)
  .next (s.issue r (wordZ 0x1C gd.val 0) (good && (s.core r).hazard [(a, 32)] [])
    [(good && c.dataBad n a 32, .ecc), (s.lastWord r, .pcRange), (!good, .address)]
    (c.reservedFrom n [(a, 32)] || (match q.source with | some x => c.reservedFrom 16 [x] | none => false))
    (fun t =>
      let t1 := (t.correctRead i n a 32).modCore r Core.advance
      match c.freeSlot, c.stalled with
      | some k, [] => t1.startXfer i n k q
      | _, _ => t1.modClu i (fun c => { c.modCore n (fun k => { k with xferWait := true }) with
          stalled := c.stalled ++ [(n, q)] })))

/-- XFER_ACCEPT (R135): the oldest stalled XFER is accepted when a slot is free. (DEDUCED, log 31) -/
def execXferAccept (x : Site) (s : State) : Res :=
  let i := Site.idx x
  let c := s.clu i
  match c.stalled, c.freeSlot with
  | (n, q) :: rest, some k =>
    if s.clocked i && !(match q.source with | some y => c.reservedFrom 16 [y] | none => false) then
      .next ((s.fire i (fun c => { c.modCore n (fun k => { k with xferWait := false }) with stalled := rest })).startXfer i n k q)
    else .next s
  | _, _ => .next s

/-- Every request of a transfer has been issued and answered (R204). -/
def Xfer.answered (x : Xfer) : Bool := x.tt.isEmpty && x.issue == x.compl

/-- FIELD_CL_DMA_DONE (R139). -/
def offDmaDone (i : Nat) : Nat := clPage i + 0x20

/-- TRANSFER_COMPLETE (R136, R137): the slot is freed once the completion token finds room in DONEQ. -/
def execTransferComplete (x : Site) (slot : SlotIx) (s : State) : Res :=
  let i := Site.idx x
  let c := s.clu i
  match c.getSlot slot.val with
  | none => .next s
  | some t =>
    if !t.answered || c.resetting then .next s
    else if t.req.doneq = 0xFF then .next ((s.fire i (fun c => c.setSlot slot.val none)).bump (offDmaDone i) 1)
    else if (c.getQueue t.req.doneq).room = 0 then .next s
    else .next ((s.fire i (fun c => (c.setSlot slot.val none).enqueue t.req.doneq t.req.tag)).bump (offDmaDone i) 1)

/-- A transfer fails at its cluster: its slot is freed (R138). -/
def State.slotFail (s : State) (i slot cause : Nat) : State :=
  match (s.clu i).getSlot slot with
  | none => s
  | some x => (s.modClu i (fun c => c.setSlot slot none)).xferFail i x.core x.req.op cause

/-- The transfer that a packet belongs to, if its slot still holds it (R203, R206). -/
def Cluster.slotOf (c : Cluster) (p : Packet) : Option Xfer :=
  (c.getSlot p.tag).bind (fun x => if x.serial = p.serial then some x else none)

/-- The transfer of a packet fails at the packet's source. -/
def State.failSource (s : State) (p : Packet) (cause : Nat) : State :=
  if ((s.clu p.src).slotOf p).isSome then s.slotFail p.src p.tag cause else s

/-- Packets of a function are discarded at controllers while its partition resets (R338). -/
def State.discardCrust (s : State) (p : Packet) : State := (s.removePacket p).bump (partSet p.func + 0x20) 1

/-- The view that a request packet carries (R252): the groups read in slot 1. -/
def State.packetView (s : State) (p : Packet) (a : Nat) : List Nat :=
  if bitOf p.arg 47 then [(s.page (pageOf a)).vgroup] else []

/-- The answer to a packet (R194, R203): it goes to the source from where the packet was, and echoes SEQ and TAG. -/
def Packet.reply (p : Packet) (i : Nat) (t : PType) (arg : Nat) (payload : List W8) : Packet :=
  { dx := p.sx, dy := p.sy, sx := p.dx, sy := p.dy, typ := t, vc := p.vc, func := p.func, epoch := p.epoch, tag := p.tag,
    seq := p.seq, serial := p.serial, glen := p.glen, arg := arg, payload := payload, pos := .source i p.crustDir }

/-- The edge router by which a crust block sends to a cluster (R195). -/
def State.crustOut (s : State) (k i : Nat) : Nat := edgeRouter (crustSide k) (s.crustEntry k i)

/-- RD_REQ (R252, R262, R270, R289): the controller reads, and answers with RD_DATA. (DEDUCED, log 30) -/
def execRdReq (id : Nat) (s : State) : Res :=
  match s.arrived id .rdReq with
  | none => .next s
  | some (p, _) =>
    let a := p.arg % 2 ^ 42
    let n := leNat ((p.payload.drop 4).take 2)
    let back := leNat (p.payload.take 4)
    if s.resetting p.func then .next (s.discardCrust p)
    else if !s.owns p.func a n then .next ((s.removePacket p).failSource p 2)
    else
      let view := some (s.packetView p a)
      let bad := s.badRead view a n
      let s1 := (s.removePacket p).demand view a n false (some (fieldOf p.src))
      if bad != [] then .next ((s1.memUEs 0 bad).failSource p 4)
      else .next (s1.inject (p.reply (s.crustOut (s.stackOf a / 2) p.src) .rdData back (s.devRead view a n)))

/-- Set the group-length tags of the kilobytes that `n ≥ 1` bytes from `a` touch (R133). -/
def Cluster.tagGlen (c : Cluster) (a n g : Nat) : Cluster :=
  { c with glen := (tilesOf a n).foldl (fun t k => Tab.put 32 t k g) c.glen }

/-- Apply a change at a cluster and at its twin (R404). -/
def State.both (s : State) (i : Nat) (f : Cluster → Cluster) : State :=
  let s1 := s.modClu i f
  match s.twinOf i with
  | some j => s1.modClu j f
  | none => s1

/-- An answer advances the completion count of its transfer (R204, R206). -/
def Cluster.answer (c : Cluster) (p : Packet) (now : Nat) : Cluster :=
  match c.slotOf p with
  | some x => c.setSlot p.tag (some { x with compl := x.compl + 1, lastAnswer := now })
  | none => c

/-- The data of a packet have been written: progress of the cluster whose transfer it is, and of its twin (R153, R404). -/
def State.wrote (s : State) (p : Packet) : State :=
  if ((s.clu p.src).slotOf p).isSome then s.both p.src (fun c => { c with wdog := 0 }) else s

/-- Some core holds a reservation on the bytes (R131). -/
def Cluster.heldAt (c : Cluster) (a n : Nat) : Bool := c.reservedFrom 16 [(a, n)]

/-- RD_DATA (R130, R133, R204, R206): the data are written to scratchpad and the completion count advances. -/
def execRdData (id : Nat) (s : State) : Res :=
  match s.arrived id .rdData with
  | none => .next s
  | some (p, i) =>
    let c := s.clu i
    let a := p.arg % 2 ^ 21
    if c.resetting || (c.slotOf p).isNone then .next (s.discardAt i p)
    else if c.heldAt a p.payload.length then .next s
    else .next ((s.removePacket p).both i (fun c =>
      { ((c.spWrite a p.payload).tagGlen a p.payload.length p.glen).answer p s.now with wdog := 0 }))

/-- A PUT write reaches its target cluster (R130, R133, R138): the write is performed and acknowledged. -/
def State.putReach (s : State) (i : Nat) (p : Packet) (a : Nat) : State :=
  let c := s.clu i
  if c.resetting || c.owner != some p.func then s.discardAt i p
  else if c.heldAt a p.payload.length then s
  else
    let s1 := ((s.removePacket p).both i (fun c => (c.spWrite a p.payload).tagGlen a p.payload.length p.glen)).wrote p
    s1.sendFrom i (p.reply i .wrAck p.payload.length [])

/-- WR (R262, R270, R284, R285): a write is performed at its destination, which answers with WR_ACK. -/
def execWr (id : Nat) (s : State) : Res :=
  match s.arrived id .wr with
  | none => .next s
  | some (p, i) =>
    if !p.toCrust then .next (s.putReach i p (p.arg % 2 ^ 21))
    else
      let a := p.arg % 2 ^ 42
      let n := p.payload.length
      if s.resetting p.func then .next (s.discardCrust p)
      else if !s.owns p.func a n || s.touchesSealed a n then .next ((s.removePacket p).failSource p 2)
      else
        let s1 := (((s.removePacket p).demand none a n true (some (fieldOf p.src))).devStore 0 a p.payload).wrote p
        .next (s1.inject (p.reply (s.crustOut (s.stackOf a / 2) p.src) .wrAck n []))

/-- WR_ACK (R204, R206): the completion count of its slot advances. -/
def execWrAck (id : Nat) (s : State) : Res :=
  match s.arrived id .wrAck with
  | none => .next s
  | some (p, i) =>
    if (s.clu i).resetting || ((s.clu i).slotOf p).isNone then .next (s.discardAt i p)
    else .next ((s.removePacket p).both i (fun c => c.answer p s.now))

/-- UNREACH (R138, R205): the transfer that the notice names fails with cause 0x5. -/
def execUnreach (id : Nat) (s : State) : Res :=
  match s.arrived id .unreach with
  | none => .next s
  | some (p, i) =>
    if (s.clu i).resetting || ((s.clu i).slotOf p).isNone then .next (s.discardAt i p)
    else .next ((s.removePacket p).slotFail i p.tag 5)

/-- EXPOSED_TRANSFER_TIMEOUT (R206): an exposed transfer without an answer for FAB_LOSS_QUIET fails with cause 0x5. (DEDUCED, log 185) -/
def execExposedTransferTimeout (x : Site) (slot : SlotIx) (s : State) : Res :=
  let i := Site.idx x
  match (s.clu i).getSlot slot.val with
  | none => .next s
  | some t =>
    if t.exposed && t.compl != t.issue && t.lastAnswer + s.lossQuiet ≤ s.now then .next (s.slotFail i slot.val 5)
    else .next s

end Sys2Proof.Machine
end

