-- ==== Sys2Proof/Machine/Broken.lean ====
section
/-! DEFINITION. What the loss of a link or field does to fold trees and timetables (R236, R237, R248). -/
namespace Sys2Proof.Machine

/-- FAB_FOLD_DISCARD and FAB_FOLD_BROKEN (R249). -/
def offFoldDiscard : Nat := fabBase + 0x40
def offFoldBroken : Nat := fabBase + 0x48

/-- FIELD_TT_SLIP and FIELD_TT_LOST of a field (R250). -/
def offTtSlip (fld : Nat) : Nat := fieldWin fld + 0x33008
def offTtLost (fld : Nat) : Nat := fieldWin fld + 0x33010

/-- The direction of a port code (R225, R241). -/
def portDir (k : Nat) : Option Dir :=
  if k = 0 then some .north else if k = 1 then some .east else if k = 2 then some .south else if k = 3 then some .west
  else none

/-- What has failed: links, by router and direction, and fields. -/
structure Failed where
  link : Option (Nat × Dir) := none
  field : Option Nat := none
  deriving DecidableEq, Repr

/-- A router's port is on a failed link, from either side. -/
def Failed.port (x : Failed) (i : Nat) (k : Nat) : Bool :=
  match x.link, portDir k with
  | some (j, d), some e => (i == j && e == d) || (neighbour j d == some i && e == opposite d)
  | _, _ => false

/-- A site is in a failed field. -/
def Failed.site (x : Failed) (i : Nat) : Bool := x.field == some (fieldOf i)

/-- A fold tree uses what has failed (R236). -/
def FoldTree.uses (t : FoldTree) (x : Failed) : Bool :=
  t.nodes.any (fun n => x.site n.site || x.port n.site n.parent || x.port n.site n.child0 || x.port n.site n.child1)

/-- A timetable entry uses what has failed (R248). -/
def TTEntry.uses (e : TTEntry) (x : Failed) : Bool := x.site e.site || x.port e.site e.inp || x.port e.site e.out

/-- The key of a configuration. -/
def cfgKey (f c : Nat) : Nat := 256 * f + c

/-- The tree number in the header of a FOLD packet (R230). -/
def Packet.foldTree (p : Packet) : Nat := p.arg / 2 ^ 38
def Packet.foldRound (p : Packet) : Bool := bitOf p.arg 37
def Packet.foldFlags (p : Packet) : BitVec 4 := BitVec.ofNat 4 (bits p.arg 35 32)
def Packet.foldSeg (p : Packet) : Nat := bits p.arg 31 16

/-- Discard the FOLD packets of a tree (R236, R238). -/
def State.dropFold (s : State) (f tree : Nat) : State :=
  let l := s.fab.flight.filter (fun p => p.typ == .fold && p.func == f && p.foldTree == tree)
  if l.isEmpty then s else (s.each l State.removePacket).bump offFoldDiscard l.length

/-- A partition has clusters in a dark field (R236). -/
def State.ownsDark (s : State) (f : Nat) : Bool := s.cl.any (fun e => e.2.owner == some f && s.isDark (fieldOf e.1))

/-- The status of a launch that loses its tree or timetable (R236). -/
def State.lostStatus (s : State) (f : Nat) : W16 := if s.ownsDark f then stFieldLost else stUnreachable

/-- The configurations of all partitions: function and CFGID. -/
def State.allCfgs (s : State) : List (Nat × Nat) := s.part.flatMap (fun e => e.2.cfg.map (fun c => (e.1, c.1)))

/-- The trees of a configuration that use what has failed break (R236). -/
def State.breakTrees (s : State) (x : Failed) (f c : Nat) : State :=
  let k := s.cfg f c
  let hit := k.trees.filter (fun t => !t.broken && t.uses x)
  if hit.isEmpty then s
  else
    let s1 := s.modCfg f c (fun k => { k with trees := k.trees.map (fun t => if t.uses x then { t with broken := true } else t) })
    let s2 := (s1.each hit (fun u t => u.dropFold f t.tree)).bump offFoldBroken hit.length
    s2.haltRun f c (rep (s2.lostStatus f))

/-- The router that a packet is at, or goes to next. -/
def Pos.site : Pos → Nat
  | .source i _ | .wire i _ _ | .router i _ | .delivered i => i

/-- The TT_DATA packets of a configuration that are on their paths are discarded and counted at their next router (R248). -/
def State.dropTT (s : State) (key : Nat) : State :=
  s.each (s.fab.flight.filter (fun p => p.typ == .ttData && p.key == key)) (fun u p =>
    (u.removePacket p).bump (offTtLost (fieldOf p.pos.site)) 1)

/-- The timetable of a configuration loses a link or field on its path (R248). -/
def State.breakTable (s : State) (x : Failed) (f c : Nat) : State :=
  if s.fab.entries.any (fun e => e.key == cfgKey f c && e.uses x) then
    let s1 := s.dropTT (cfgKey f c)
    s1.haltRun f c (rep (s1.lostStatus f))
  else s

/-- A link or field fails: fold trees and timetables that use it (R236, R248). -/
def State.failPaths (s : State) (x : Failed) : State :=
  s.each s.allCfgs (fun t e => (t.breakTrees x e.1 e.2).breakTable x e.1 e.2)

end Sys2Proof.Machine
end

