-- ==== Sys2Proof/Machine/Fabric.lean ====
section
/-! DEFINITION. Links, routers, route installation, dark and out-of-service fields, field commands and barriers (R192 to R223). -/
namespace Sys2Proof.Machine

/-- The receiving end of a link, as a key. -/
def linkEndKey (l : LinkEnd) : Nat := linkKey (Site.idx l.site) l.port

/-- Field registers of the fabric (R224). -/
def offVc1Late (fld : Nat) : Nat := fieldWin fld + 0x32010
def offRunout (fld : Nat) : Nat := fieldWin fld + 0x32018
def offReplay (fld : Nat) : Nat := fieldWin fld + 0x32020

/-- The times of a list that lie within a window that ends now. -/
def recent (l : List Nat) (window now : Nat) : List Nat := l.filter (fun t => now < t + window)

/-- The receiver of a link has taken one flit more of the packet that is first on it; with the last, the packet is in its buffer, or
at the fold node (R192, R208, R231). -/
def State.takeFlit (s : State) (i : Nat) (d : Dir) : State :=
  match s.fab.flight.find? (fun p => p.onWire (linkKey i d)) with
  | none => s
  | some p =>
    if 1 < p.left then s.modFab (fun f => { f with flight := f.flight.map (fun x => if x.id = p.id then { p with left := p.left - 1 } else x) })
    else
      let q := { p with left := 0, pos := if p.typ = .fold then .delivered i else .router i (some d) }
      (s.movePacket p q).settlePacket q

/-- FLIT_RECEIVE (R192): of the flits that the sender has sent, a good one is taken; a bad one is discarded and its replay requested. -/
def execFlitReceive (l : LinkEnd) (crcGood : Bool) (s : State) : Res :=
  let i := Site.idx l.site
  let k := s.link (linkEndKey l)
  if s.routing i && k.state == .up && 0 < k.unacked then
    if crcGood then
      .next ((s.modLink (linkEndKey l) (fun k => { k with nextFlit := k.nextFlit + 1, replaying := false })).takeFlit i l.port)
    else .next ((s.modLink (linkEndKey l) (fun k =>
      { k with replaying := true, replays := s.now :: recent k.replays 10000 s.now })).bump (offReplay (fieldOf i)) 1)
  else .next s

/-- LINK_ALIVE_PULSE (R192): the receiver has seen a pulse. -/
def execLinkAlivePulse (l : LinkEnd) (s : State) : Res := .next (s.modLink (linkEndKey l) (fun k => { k with quiet := 0 }))

/-- A link is declared dead at a receiver: a map change, and a failure of what uses the link (R192, R201, R236). -/
def State.linkDead (s : State) (l : LinkEnd) : State :=
  ((s.loseLink (linkEndKey l) (fun k => { k with state := .dead })).mapChange).failPaths { link := some (Site.idx l.site, l.port) }

/-- PORT_DEAD (R192): fabric cycles without a pulse; at 256 the receiver marks its port dead. -/
def execPortDead (l : LinkEnd) (cycles : Nat) (s : State) : Res :=
  let k := s.link (linkEndKey l)
  if s.routing (Site.idx l.site) && k.state == .up then
    if 256 ≤ k.quiet + cycles then .next ((s.modLink (linkEndKey l) (fun k => { k with quiet := 256 })).linkDead l)
    else .next (s.modLink (linkEndKey l) (fun k => { k with quiet := k.quiet + cycles }))
  else .next s

/-- The fields that a packet's remaining route enters (R215). -/
def LiveMap.fieldsOn (m : LiveMap) (lane : Lane) (t : Nat) : Nat → Nat → List Nat
  | 0, _ => []
  | k + 1, i =>
    match m.next lane i t with
    | some d => (match neighbour i d with
      | some j => fieldOf j :: m.fieldsOn lane t k j
      | none => [])
    | none => []

/-- The route of a packet crosses a field whose bit router i holds and whose loss the tables do not know yet (R215). -/
def State.crossesLost (s : State) (p : Packet) (i : Nat) : Bool :=
  let lost := s.heldBits i &&& ~~~(s.fab.installed.dark ||| s.fab.installed.oos)
  lost != 0 && (s.fab.installed.fieldsOn p.lane p.dest 25600 i).any (fun f => lost.getLsbD f)

/-- The output port towards a direction code or the endpoint. -/
def State.grantOut (s : State) (p : Packet) (i : Nat) : Option OutPort :=
  if p.typ = .fold then
    ((s.treeOf p.func p.foldTree).bind (fun t => t.2.node i)).bind (fun n => (portDir n.parent).map OutPort.dir)
  else s.output p i

/-- The port by which a packet came into the router that holds it. -/
def Packet.inPort (p : Packet) : Option Dir :=
  match p.pos with
  | .router _ d => d
  | _ => none

/-- Where a packet goes when router i grants it an output. -/
def hopTo (p : Packet) (i : Nat) (o : OutPort) : Option Pos :=
  match o with
  | .locl => some (.delivered i)
  | .crust => some (.delivered i)
  | .dir d => (neighbour i d).map (fun j => Pos.wire j (opposite d) p.inPort)

/-- The link of an output is up (R216). -/
def State.outUp (s : State) (p : Packet) (i : Nat) (o : OutPort) : Bool :=
  match o with
  | .dir d => s.linkUp i d && (match neighbour i d with
    | some j => s.routing j
    | none => false)
  | .crust => (match p.crustDir with
    | some d => s.portUp i d
    | none => true)
  | .locl => true

/-- A packet at router i is ready for an output: it is at the head of its buffer, the tables name that output, the link is up,
the next router has credits for the whole packet and the replay buffer has room for it (R192, R208, R209, R215, R216). -/
def State.readyFor (s : State) (i : Nat) (o : OutPort) (p : Packet) : Bool :=
  (match p.pos with
    | .router j _ => i == j
    | _ => false)
    && s.grantOut p i == some o && s.atHead p && !s.crossesLost p i && s.outUp p i o
    && (match hopTo p i o with
      | some (.wire j d e) => s.roomFor p (.wire j d e) && s.replayRoom (linkKey j d) p
      | some _ => true
      | none => false)

/-- The rank of a packet at an output (R209), lowest first. (DEDUCED, log 48) -/
def Packet.rank (p : Packet) : Nat :=
  let a := p.typ.answer
  match p.channel with
  | 1 => if a then 0 else 1
  | 0 => if a then 2 else 3
  | 4 => if a then 4 else 5
  | 3 => if a then 6 else 7
  | _ => if a then 8 else 9

/-- The VC group whose starvation is watched: VC0 (both lanes), VC3 and VC2 (R209). -/
def Packet.group (p : Packet) : Nat := if p.channel = 4 then 0 else p.channel

/-- The number of an input port for rotation (R209). -/
def Packet.inputNo (p : Packet) : Nat :=
  match p.inPort with
  | some .north => 0
  | some .east => 1
  | some .south => 2
  | some .west => 3
  | none => 4

/-- The number of an output of a router. -/
def outNo (i : Nat) (o : OutPort) : Nat :=
  6 * i + (match o with
    | .dir .north => 0
    | .dir .east => 1
    | .dir .south => 2
    | .dir .west => 3
    | .locl => 4
    | .crust => 5)

/-- The packet that comes first in rotating order after the input last granted (R209). -/
def rotate (last : Nat) : List Packet → Option Packet
  | [] => none
  | p :: l =>
    match rotate last l with
    | none => some p
    | some q => if (p.inputNo + 5 - last) % 5 ≤ (q.inputNo + 5 - last) % 5 then some p else some q

/-- The packets of lowest rank. -/
def bestRank (l : List Packet) : List Packet :=
  l.filter (fun p => l.all (fun q => p.rank ≤ q.rank))

/-- The packet that an output grants among the ready ones (R209). -/
def State.pick (s : State) (out : Nat) (l : List Packet) : Option Packet :=
  let starved := [0, 3, 2].find? (fun g => l.any (fun p => p.group == g) && 64 ≤ Tab.get 0 s.fab.starve (4 * out + g))
  let c := bestRank (match starved with
    | some g => l.filter (fun p => p.group == g)
    | none => l)
  match c with
  | [] => none
  | p :: _ => rotate (Tab.get 0 s.fab.lastGrant (10 * out + p.rank)) c

/-- The grant counts of an output after a grant (R209): a watched VC with a ready packet and no grant waits the packet's
flits, one fabric cycle each. -/
def State.grantCounts (s : State) (out : Nat) (l : List Packet) (p : Packet) : State :=
  s.modFab (fun f =>
    let st := [0, 3, 2].foldl (fun t g =>
      let k := 4 * out + g
      if p.group = g ∨ !l.any (fun q => q.group == g) then Tab.put 0 t k 0
      else Tab.put 0 t k (Tab.get 0 t k + p.flits)) f.starve
    { f with starve := st, lastGrant := Tab.put 0 f.lastGrant (10 * out + p.rank) ((p.inputNo + 1) % 5) })

/-- A VC1 packet leaves its place at a router: one that has waited more than W1 there counts (R211). -/
def State.countLate (s : State) (i : Nat) (p : Packet) (waited : Nat) : State :=
  if p.vc = 1 ∧ p.lane = .normal ∧ 48 < waited then s.bump (offVc1Late (fieldOf i)) 1 else s

/-- OUTPUT_GRANT (R192, R196, R205, R208, R209, R215): an output of a router grants its next ready packet: its flits go out on the link,
or it is at the endpoint. (DEDUCED, log 47) -/
def execOutputGrant (x : Site) (o : OutPort) (s : State) : Res :=
  let i := Site.idx x
  if !s.routing i then .next s
  else
    let s0 := s.letIn i
    let l := s0.fab.flight.filter (s0.readyFor i o)
    let out := outNo i o
    match s0.pick out l with
    | none => .next s0
    | some p =>
      let s1 := (s0.grantCounts out l p).countLate i p p.waited
      match hopTo p i o with
      | some (.wire j d e) => .next (s1.sendWire p j d e)
      | some pos => .next (s1.movePacket p { p with pos := pos, waited := 0 })
      | none => .next s0

/-- Change a packet without changing its place in its buffer. -/
def State.setPacket (s : State) (p q : Packet) : State :=
  s.modFab (fun f => { f with flight := f.flight.map (fun x => if x.id = p.id then q else x) })

/-- RUNOUT_MOVE (R197, R198, R201): a packet at the head of its buffer waits; after FAB_RUNOUT_WAIT fabric cycles, or at once
where its table entry names no output, it moves to lane D or lane U. (DEDUCED, log 51) -/
def execRunoutMove (id : Nat) (cycles : Nat) (s : State) : Res :=
  match s.packet id with
  | none => .next s
  | some p =>
    match p.pos with
    | .source _ _ | .wire _ _ _ | .delivered _ => .next s
    | .router i _ =>
      if p.typ = .fold ∨ p.typ = .ttData ∨ p.lane = .laneU ∨ !s.atHead p ∨ !s.routing i then .next s
      else
        let w := p.waited + cycles
        let limit := if p.vc = 1 then max s.runoutWait 64 else s.runoutWait
        let clean := s.fab.installed.clean i p.dest
        let noEntry := p.lane == .normal && (s.output p i).isNone
        let s1 := s.setPacket p { p with waited := w }
        let d := { p with waited := 0, lane := .laneD }
        let u := { p with waited := 0, lane := .laneU }
        let openU := !s.fab.recomputing && s.roomFor u p.pos
        if p.lane = .laneD then
          if clean || !openU then .next s1
          else .next (s.movePacket p u)
        else if noEntry || limit ≤ w then
          if clean && !noEntry then
            if s.roomFor d p.pos then .next (((s.movePacket p d).bump (offRunout (fieldOf i)) 1).countLate i p w) else .next s1
          else if openU then .next (((s.movePacket p u).bump (offRunout (fieldOf i)) 1).countLate i p w)
          else .next s1
        else .next s1

/-- The output of a lane U packet leads on: its link is up, and the field that it leads into is not lost. -/
def State.leadsOn (s : State) (p : Packet) (i : Nat) : Bool :=
  match s.output p i with
  | some o => s.outUp p i o && !s.crossesLost p i
  | none => false

/-- The packets of lane U that can still move, found in k rounds: those on a link, and those whose output leads on into a buffer with
room, or one whose packets can move. -/
def State.movableU (s : State) : Nat → List Packet
  | 0 => s.fab.flight.filter (fun p => p.lane == .laneU && (match p.pos with
      | .wire _ _ _ => true
      | _ => false))
  | k + 1 =>
    let l := s.movableU k
    s.fab.flight.filter (fun p => p.lane == .laneU && (l.any (fun q => q.id == p.id) ||
      (match p.pos with
      | .router i _ => s.leadsOn p i && (match (s.output p i).bind (hopTo p i) with
        | some w => w.buffer.isNone || s.roomFor p w || (s.fab.flight.filter (fun q => q.pos.buffer == w.buffer && q.channel == 4
            && q.typ.answer == p.typ.answer)).all (fun q => l.any (fun r => r.id == q.id))
        | none => false)
      | _ => false)))

/-- Lane U is empty of packets that the old tree can still move (R201). One whose hop of the old tree has died leaves that tree for
the new one. (DESIGN CHOICE, log 165) -/
def State.laneUDone (s : State) : Bool :=
  (s.movableU (s.fab.flight.filter (fun p => p.lane == .laneU)).length).isEmpty

/-- TABLE_INSTALL (R201, R216, R217, R400): once lane U is empty, every live router takes the tables of the live map, lane U reopens,
the checkers are assigned afresh,
and packets that the new tables cannot deliver are replaced or discarded. (DEDUCED, log 52) -/
def execTableInstall (s : State) : Res :=
  if s.fab.recomputing && s.laneUDone then
    let cmd := s.fab.fieldCmd
    let m := s.liveMap
    let s1 := (s.modFab (fun f =>
      { f with installed := m, recomputing := false, generation := f.generation + 1,
               fieldCmd := if cmd.field.toNat / 2 ^ 30 = 3 then cmd else { cmd with busy := false } })).bump (fabBase + 0x38) 1
    .next (s1.each s1.fab.flight State.settlePacket).assignCheckers
  else .next s

/-- DARK_BIT_ARRIVE (R205, R215): a router receives the bitmaps and acts on the packets that it holds. (DEDUCED, log 53) -/
def execDarkBitArrive (x : Site) (s : State) : Res :=
  let i := Site.idx x
  if s.routing i then
    let s1 := s.modFab (fun f => { f with held := Tab.put (0, 0) f.held i (f.dark, f.oos) })
    .next (s1.each (s1.fab.flight.filter (fun p => match p.pos with
      | .router j _ => i == j
      | _ => false)) State.settlePacket)
  else .next s

/-- A count of packets in flight that was not 0 when a field went dark, and has not been 0 since, has not changed for FAB_LOSS_QUIET
(R158, R207). -/
def State.quietSince (s : State) (k : Nat) : Bool :=
  match s.fab.darkSince with
  | some t => s.fab.suspect.contains k && decide (max t (Tab.get 0 s.fab.inflightSince k) + s.lossQuiet ≤ s.now)
  | none => false

/-- The counts that a field going dark makes doubtful: those that are not 0, by function, and by function and epoch (R158, R207). -/
def Fabric.doubtful (b : Fabric) : List Nat :=
  (b.inflight.filter (fun e => e.2 != 0)).map Prod.fst ++ (b.tokenFlight.filter (fun e => e.2 != 0)).map (fun e => 64 + e.1)

/-- INFLIGHT_QUIET_RESET (R158, R207): the quiet counts of a function are set to 0. (DEDUCED, log 54) -/
def execInflightQuietReset (f : Func) (s : State) : Res :=
  let quiet := (List.range 4).filter (fun e => s.quietSince (64 + 4 * f.val + e))
  .next (s.modFab (fun b =>
    { b with inflight := if s.quietSince f.val then Tab.put 0 b.inflight f.val 0 else b.inflight,
             tokenFlight := quiet.foldl (fun t e => Tab.put 0 t (4 * f.val + e) 0) b.tokenFlight,
             suspect := b.suspect.filter (fun k => !(s.quietSince k && (k == f.val || quiet.any (fun e => k == 64 + 4 * f.val + e)))) }))

/-- The word that FAB_FIELD_CMD holds (R223). -/
def fieldCmdWord (cmd : Nat) (fld : FieldIx) : W32 := BitVec.ofNat 32 (2 ^ 30 * cmd + 2 ^ 24 * fld.val)

/-- A physical function writes FAB_FIELD_CMD while no command is in progress (R217, R223, R536): with the condition met it takes
its effect and stays BUSY, else STATUS reports ILLEGAL_DESCRIPTOR. -/
def State.fieldCommand (s : State) (f cmd : Nat) (fld : FieldIx) (ok : Bool) (eff : State → State) : State :=
  if !s.reachesPF f || s.fab.fieldCmd.busy then s
  else if ok then
    eff (s.modFab (fun b => { b with fieldCmd := { field := fieldCmdWord cmd fld, busy := true, status := stOk } }))
  else s.modFab (fun b => { b with fieldCmd := { field := fieldCmdWord cmd fld, busy := false, status := stIllegal } })

/-- Set or clear a field's bit. -/
def setBit64 (w : W64) (i : Nat) (on : Bool) : W64 := if on then w ||| (1#64 <<< i) else w &&& ~~~(1#64 <<< i)

/-- MARK_OUT_OF_SERVICE (R201, R215, R217, R236). -/
def execMarkOutOfService (f : Func) (fld : FieldIx) (s : State) : Res :=
  .next (s.fieldCommand f.val 1 fld (!s.cl.any (fun e => e.2.owner.isSome && fieldOf e.1 == fld.val)) (fun t =>
    (((t.modFab (fun b => { b with oos := setBit64 b.oos fld.val true })).modField fld.val
      (fun x => { x with wasReset := false })).mapChange).failPaths { field := some fld.val }))

/-- RETURN_TO_SERVICE (R201, R217). -/
def execReturnToService (f : Func) (fld : FieldIx) (s : State) : Res :=
  .next (s.fieldCommand f.val 2 fld (s.isOos fld.val && !s.isDark fld.val && (s.field fld.val).wasReset) (fun t =>
    (t.modFab (fun b => { b with oos := setBit64 b.oos fld.val false })).mapChange))

/-- The link ends at the routers of a field, those to the crust among them, and those of their neighbours that face it. -/
def fieldLinks (fld : Nat) : List Nat :=
  let sites := (List.range 400).map (fun n => siteIdx (20 * (fld % 8) + n % 20) (20 * (fld / 8) + n / 20))
  sites.flatMap (fun i => dirs.flatMap (fun d =>
    match neighbour i d with
    | some j => linkKey i d :: (if fieldOf j = fld then [] else [linkKey j (opposite d)])
    | none => [linkKey i d]))

/-- The direction of a link end, and whether the routers at both ends are powered. -/
def keyDir (k : Nat) : Dir := if k % 4 = 0 then .north else if k % 4 = 1 then .east else if k % 4 = 2 then .south else .west
def State.bothLive (s : State) (k : Nat) : Bool :=
  !s.isDark (fieldOf (k / 4)) && (match neighbour (k / 4) (keyDir k) with | some j => !s.isDark (fieldOf j) | none => true)

/-- The links of a field retrain (R28, R429, R441): each end starts training, a disabled one only where `all` says so, and one whose
neighbour has no power stays dead. -/
def State.retrainField (s : State) (fld : Nat) (all : Bool) : State :=
  s.each (fieldLinks fld) (fun t k =>
    if (t.link k).state = .off ∧ !all then t
    else t.loseLink k (fun l => { state := if t.bothLive k then .training else .dead, strikes := if all then [] else l.strikes }))

/-- The crust block that faces an edge router on a side (R9). -/
def crustBlockAt (d : Dir) (i : Nat) : Nat := match d with
  | .north => siteX i / 40
  | .east => 4 + siteY i / 40
  | .south => 11 - siteX i / 40
  | .west => 15 - siteY i / 40

/-- A packet is in a field: at its routers and clusters, or on its way across its seams (R215, R216). -/
def Packet.inField (p : Packet) (fld : Nat) : Bool :=
  match p.pos with
  | .source i none => fieldOf i == fld
  | .source _ (some _) => false
  | .wire i d _ => fieldOf i == fld || (neighbour i d).map fieldOf == some fld
  | .router i _ => fieldOf i == fld
  | .delivered i => !p.toCrust && fieldOf i == fld

/-- A packet that waits in the crust for an entry into a field takes the entry that R195 gives now. -/
def State.reenter (s : State) (fld : Nat) (p : Packet) : Packet :=
  match p.pos with
  | .source i (some d) => if fieldOf i = fld then
      { p with pos := .source (edgeRouter d (s.crustEntry (crustBlockAt d i) p.dest)) (some d) } else p
  | _ => p

/-- What the routers of a field hold is lost (R28, R215, R216): packets there and on its seams, whose counts do not change, credits for
it, the arbitration state and the bitmaps. -/
def State.loseField (s : State) (fld : Nat) : State :=
  s.modFab (fun b =>
    { b with flight := (b.flight.filter (fun p => !p.inField fld)).map (s.reenter fld),
             credits := b.credits.filter (fun k => fieldOf k.site != fld),
             foldCredits := b.foldCredits.filter (fun k => fieldOf k.1 != fld),
             held := Tab.drop (fun i => fieldOf i == fld) b.held,
             lastGrant := Tab.drop (fun k => fieldOf (k / 60) == fld) b.lastGrant,
             starve := Tab.drop (fun k => fieldOf (k / 24) == fld) b.starve })

/-- No link of a field trains. -/
def State.fieldTrained (s : State) (fld : Nat) : Bool := (fieldLinks fld).all (fun k => (s.link k).state != .training)

/-- A field fabric reset is complete once the field's links have retrained (R217). -/
def State.resetDone (s : State) (fld : Nat) : State :=
  let cmd := s.fab.fieldCmd
  if s.fieldTrained fld && cmd.busy && cmd.field.toNat / 2 ^ 30 == 3 && bits cmd.field.toNat 29 24 == fld then
    (s.modFab (fun b => { b with fieldCmd := { cmd with busy := false } })).modField fld (fun x => { x with wasReset := true })
  else s

/-- FIELD_FABRIC_RESET (R28, R217): the routers of a field around which detours are active are reset, and its links retrain; with no
link that can train, as in a dark field, it is complete at once. -/
def execFieldFabricReset (f : Func) (fld : FieldIx) (s : State) : Res :=
  .next (s.fieldCommand f.val 3 fld
    ((s.isDark fld.val || s.isOos fld.val)
      && (s.fab.installed.dark ||| s.fab.installed.oos).getLsbD fld.val && !s.fab.recomputing)
    (fun t => (((t.loseField fld.val).retrainField fld.val true).mapChange).resetDone fld.val))

/-- BAR (R220, R221): the core arrives at the barrier and waits for its release.
(DEDUCED, log 55; DEDUCED, log 56; DESIGN CHOICE, log 174) -/
def execBar (r : CoreRef) (index : BitVec 10) (s : State) : Res :=
  let i := Site.idx r.site
  let c := s.clu i
  let mine (b : Barrier) : Bool := b.index == index.toNat && b.members.contains (i, r.n.val) &&
    (match c.owner, c.cfg with | some f, some k => b.key == cfgKey f k | _, _ => false)
  .next (s.issue r (wordZ 0x1A 0 index.toNat) false [(s.lastWord r, .pcRange)] (!s.fab.barriers.any mine)
    (fun t => (t.modFab (fun b => { b with barriers := b.barriers.map (fun x =>
        if mine x then { x with arrived := x.arrived ++ [(i, r.n.val)] } else x) })).modCore r
      (fun k => { k.advance with barWait := some index })))

/-- A member of a barrier is released. -/
def State.releaseCore (s : State) (m : Nat × Nat) : State :=
  s.modClu m.1 (fun c => c.modCore m.2 (fun k => { k with barWait := none }))

/-- The path of a site in the wafer tree crosses a part that a map change has changed (R221). (DEDUCED, log 179) -/
def State.treeChanged (s : State) (i : Nat) : Bool := s.fab.installed.chain 25600 i != s.liveMap.chain 25600 i

/-- BARRIER_RELEASE (R221): every member has arrived since the last release; while lane U is closed, a wafer barrier waits if its tree
crosses a changed part. -/
def execBarrierRelease (f : Func) (cfg : Fin 256) (index : BitVec 10) (s : State) : Res :=
  let mine (b : Barrier) : Bool := b.key == cfgKey f.val cfg.val && b.index == index.toNat
  match s.fab.barriers.find? mine with
  | none => .next s
  | some b =>
    if b.members.all (fun m => b.arrived.contains m)
        && !(b.wafer && s.fab.recomputing && b.members.any (fun m => s.treeChanged m.1)) then
      .next ((s.modFab (fun x => { x with barriers := x.barriers.map (fun y => if mine y then { y with arrived := [] } else y) })).each
        b.members State.releaseCore)
    else .next s

end Sys2Proof.Machine
end

