-- ==== Sys2Proof/Machine/Lanes.lean ====
section
/-! DEFINITION. Lanes, groups and spares of on-wafer links, and the edge map (R14, R190, R191, R224, R419 to R422, R427). -/
namespace Sys2Proof.Machine

/-! ### Links by their numbers in a field -/

/-- The number of a direction among the edges (R224). -/
def dirNum : Dir → Nat
  | .north => 0
  | .east => 1
  | .south => 2
  | .west => 3

/-- A direction from its number. -/
def dirOf (e : Nat) : Dir := if e % 4 = 0 then .north else if e % 4 = 1 then .east else if e % 4 = 2 then .south else .west

/-- The row or column of a router within its field that a logical edge link serves (R190). -/
def edgePlace (i : Nat) (d : Dir) : Nat := match d with
  | .north | .south => siteX i % 20
  | _ => siteY i % 20

/-- The router at a place of a field's edge. -/
def edgeSite (fld : Nat) (d : Dir) (n : Nat) : Nat := match d with
  | .north => siteIdx (20 * (fld % 8) + n) (20 * (fld / 8))
  | .south => siteIdx (20 * (fld % 8) + n) (20 * (fld / 8) + 19)
  | .west => siteIdx (20 * (fld % 8)) (20 * (fld / 8) + n)
  | .east => siteIdx (20 * (fld % 8) + 19) (20 * (fld / 8) + n)

/-- The link at a router's port lies inside the router's field. -/
def inFieldLink (i : Nat) (d : Dir) : Bool :=
  match neighbour i d with
  | some j => fieldOf i == fieldOf j
  | none => false

/-- LINK of a lane exception for a link inside a field (R421). -/
def linkNo (i : Nat) (d : Dir) : Nat :=
  let c := siteX i % 20
  let r := siteY i % 20
  match d with
  | .east => 19 * r + c
  | .west => 19 * r + (c - 1)
  | .south => 380 + 19 * c + r
  | .north => 380 + 19 * c + (r - 1)

/-- The router and direction of a link inside a field (R421). -/
def linkOf (fld n : Nat) : Nat × Dir :=
  let x := 20 * (fld % 8)
  let y := 20 * (fld / 8)
  if n < 380 then (siteIdx (x + n % 19) (y + n / 19), .east)
  else (siteIdx (x + (n - 380) / 19) (y + (n - 380) % 19), .south)

/-- The field beyond an edge of a field, if there is one. -/
def fieldBeyond (fld : Nat) (d : Dir) : Option Nat := match d with
  | .north => if fld / 8 = 0 then none else some (fld - 8)
  | .south => if fld / 8 = 7 then none else some (fld + 8)
  | .west => if fld % 8 = 0 then none else some (fld - 1)
  | .east => if fld % 8 = 7 then none else some (fld + 1)

/-! ### The edge map -/

/-- The index of a physical edge link: field, edge and link (R224). -/
def edgeIx (fld : Nat) (d : Dir) (p : Nat) : Nat := 88 * fld + 22 * dirNum d + p

/-- An edge link as the edge map gives it where nothing has failed: links 0 to 19 carry their own logical links, 20 and 21 are spares
(R14, R190). (DEDUCED, log 169) -/
def edgeHome (k : Nat) : EdgeLink := { logical := if k % 22 < 20 then some (k % 22) else none }

/-- A physical edge link of a map, and a change of it. -/
def edgeGet (t : Tab EdgeLink) (k : Nat) : EdgeLink := Tab.get (edgeHome k) t k
def edgePut (t : Tab EdgeLink) (k : Nat) (x : EdgeLink) : Tab EdgeLink := Tab.put (edgeHome k) t k x

/-- The physical link that carries a logical link of an edge (R190). -/
def carrier (t : Tab EdgeLink) (fld : Nat) (d : Dir) (n : Nat) : Option Nat :=
  (List.range 22).find? (fun p => (edgeGet t (edgeIx fld d p)).logical == some n)

/-- A physical edge link fails: the edge map then carries its logical link on an unused physical link, if one works (R427). -/
def killEdge (t : Tab EdgeLink) (fld : Nat) (d : Dir) (p : Nat) : Tab EdgeLink :=
  let n := (edgeGet t (edgeIx fld d p)).logical
  let t1 := edgePut t (edgeIx fld d p) { dead := true }
  match n, (List.range 22).find? (fun q => let x := edgeGet t1 (edgeIx fld d q); !x.dead && x.logical.isNone) with
  | some v, some q => edgePut t1 (edgeIx fld d q) { logical := some v }
  | _, _ => t1

/-- The same under both fields of a seam: they share its wires. -/
def killSeam (t : Tab EdgeLink) (fld : Nat) (d : Dir) (p : Nat) : Tab EdgeLink :=
  let t1 := killEdge t fld d p
  match fieldBeyond fld d with
  | some g => killEdge t1 g (opposite d) p
  | none => t1

/-! ### Lanes -/

/-- The working lanes that a group needs, and its spares, in each direction (R14, R189, R191). -/
def groupUses (net group : Nat) : Nat := if net = 0 then (if group = 8 then 24 else 64) else if net = 1 then (if group = 1 then 12 else 64) else 4
def groupSpares (net group : Nat) : Nat := if net = 0 then 2 else if net = 1 then (if group = 1 then 1 else 2) else 1

/-- Two exceptions are of one group of one link and direction. -/
def sameGroup (x y : LaneEx) : Bool :=
  x.net == y.net && x.fld == y.fld && x.link == y.link && x.dir == y.dir && x.group == y.group

/-- The physical lane that carries logical lane n of the group of an exception: the working lanes in ascending order (R422). -/
def logicalLane (l : List LaneEx) (g : LaneEx) (n : Nat) : Option Nat :=
  ((List.range (groupUses g.net g.group + groupSpares g.net g.group)).filter (fun k => !l.contains { g with lane := k }))[n]?

/-- A link has a group with more failed lanes than spares (R190, R422). -/
def linkWorn (l : List LaneEx) (fld link : Nat) : Bool :=
  l.any (fun x => x.fld == fld && x.link == link && groupSpares x.net x.group < (l.filter (sameGroup x)).length)

/-- The exceptions that a failed lane is recorded as: one across a seam also under the other field, as seen from there (R422). -/
def laneRecords (x : LaneEx) : List LaneEx :=
  if x.link < 760 then [x]
  else
    let d := dirOf ((x.link - 760) / 22)
    match fieldBeyond x.fld d with
    | some g => [x, { x with fld := g, link := 760 + 22 * dirNum (opposite d) + (x.link - 760) % 22, dir := 1 - x.dir }]
    | none => [x]

/-- Record failed lanes (R427). -/
def addLanes (l new : List LaneEx) : List LaneEx :=
  new.foldl (fun a x => (laneRecords x).foldl (fun b y => if b.contains y then b else b ++ [y]) a) l

/-- The word of a lane exception, and the exception of a word (R421). -/
def laneWord (x : LaneEx) : Nat := 2 ^ 30 * x.net + 2 ^ 24 * x.fld + 2 ^ 14 * x.link + 2 ^ 13 * x.dir + 2 ^ 9 * x.group + 4 * x.lane
def laneOfWord (w : W32) : LaneEx :=
  let n := w.toNat
  { net := bits n 31 30, fld := bits n 29 24, link := bits n 23 14, dir := bits n 13 13, group := bits n 12 9, lane := bits n 8 2 }

/-- Spare lanes in use on a physical edge link: those of its bulk groups in the direction that uses more (R224). (DEDUCED, log 169) -/
def sparesUsed (l : List LaneEx) (fld : Nat) (d : Dir) (p : Nat) : Nat :=
  let here := l.filter (fun x => x.net == 0 && x.fld == fld && x.link == 760 + 22 * dirNum d + p)
  min 18 (max (here.filter (fun x => x.dir == 0)).length (here.filter (fun x => x.dir == 1)).length)

/-! ### Links that fail -/

/-- Both ends of a link are as a change of them says. -/
def portEnds (i : Nat) (d : Dir) : List Nat :=
  linkKey i d :: (match neighbour i d with | some j => [linkKey j (opposite d)] | none => [])

/-- LINK of the physical link at a router's port, if a physical link carries it (R421). -/
def State.physLink (s : State) (i : Nat) (d : Dir) : Option Nat :=
  if inFieldLink i d then some (linkNo i d)
  else (carrier s.fab.edge (fieldOf i) d (edgePlace i d)).map (fun p => 760 + 22 * dirNum d + p)

/-- A physical link is disabled: on a field edge, the edge map looks for another for its logical link (R190, R427). -/
def State.disableLink (s : State) (fld link : Nat) : State :=
  if link < 760 then s
  else s.modFab (fun b => { b with edge := killSeam b.edge fld (dirOf ((link - 760) / 22)) ((link - 760) % 22) })

/-- The ports of a field at which the link is off: a link inside it that is worn out or in a list of failed ones, and an edge link whose
logical link no physical link carries (R190, R422, R427). -/
def State.portsOff (s : State) (failed : List (Nat × Nat)) (fld : Nat) : List (Nat × Dir) :=
  ((List.range 760).filter (fun n => linkWorn s.fab.lanes fld n || failed.contains (fld, n))).map (linkOf fld)
    ++ (List.range 80).filterMap (fun k =>
        let d := dirOf (k / 20)
        if (carrier s.fab.edge fld d (k % 20)).isNone then some (edgeSite fld d (k % 20), d) else none)

/-- Link tests and sparing of a bring-up (R420, R422, R427): failed lanes are recorded, links whose groups have run out of spares or that
still fail are disabled, edge maps follow, and what is left without a link is off. The starting map of a cold bring-up is the factory
map's; a warm one goes on from the service map's. (DEDUCED, log 169) -/
def State.sparing (s : State) (base : List LaneEx) (edge : Tab EdgeLink) (lanes : List LaneEx) (failed : List (Nat × Nat)) : State :=
  let l := addLanes base lanes
  let s1 := s.modFab (fun b => { b with lanes := l, edge := edge })
  let worn := (l.filter (fun x => linkWorn l x.fld x.link)).map (fun x => (x.fld, x.link))
  let dead := (worn ++ failed).filter (fun e => 760 ≤ e.2
    && !(edgeGet s1.fab.edge (edgeIx e.1 (dirOf ((e.2 - 760) / 22)) ((e.2 - 760) % 22))).dead)
  let s2 := s1.each dead.eraseDups (fun t e =>
    if (edgeGet t.fab.edge (edgeIx e.1 (dirOf ((e.2 - 760) / 22)) ((e.2 - 760) % 22))).dead then t else t.disableLink e.1 e.2)
  s2.each ((List.range 64).flatMap (s2.portsOff failed)) (fun t x =>
    t.each (portEnds x.1 x.2) (fun u k => u.loseLink k (fun y => { y with state := .off })))

/-- The edge map that the factory map's dead links leave (R420). -/
def factoryEdge : Tab EdgeLink :=
  ((List.range 5632).filter Config.factoryDead).foldl (fun t k =>
    if (edgeGet t k).dead then t else killEdge t (k / 88) (dirOf (k / 22 % 4)) (k % 22)) []

/-- The bytes of EDGE of a field record (R421). -/
def edgeBytes (t : Tab EdgeLink) (fld : Nat) : List W8 :=
  (List.range 88).map (fun k =>
    let x := edgeGet t (88 * fld + k)
    BitVec.ofNat 8 (128 * x.dead.toNat + x.logical.getD 31))

/-- FIELD_FAB_EDGE_LINK (R224). -/
def State.edgeWord (s : State) (fld : Nat) (d : Dir) (p : Nat) : Nat :=
  let x := edgeGet s.fab.edge (edgeIx fld d p)
  let st := if x.dead then 3
    else match x.logical with
      | none => 0
      | some n => (match (s.link (linkKey (edgeSite fld d n) d)).state with
        | .up => 2
        | .training => 1
        | _ => 3)
  2 ^ 30 * st + 2 ^ 19 * x.logical.getD 31 + 2 ^ 8 * sparesUsed s.fab.lanes fld d p

end Sys2Proof.Machine
end

