-- ==== Sys2Proof/Machine/Pages.lean ====
section
/-! DEFINITION. Pages, version groups, page moves, scrubbing and lifts (R253 to R260, R267, R268, R274 to R289). -/
namespace Sys2Proof.Machine

/-- The image of a page-table entry in MEM_PAGE_ENTRY (R292); an unmapped page reads as zero. -/
def Page.word (p : Page) : W64 :=
  if p.v then
    BitVec.ofNat 64 (2 ^ 63 + 2 ^ 62 * p.coherent.toNat + 2 ^ 61 * p.pin.toNat + 2 ^ 60 * p.vers.toNat + 2 ^ 54 * p.owner
      + 2 ^ 46 * p.vgroup + 2 ^ 41 * p.home + 2 ^ 38 * p.spread + 2 ^ 33 * p.setbase + 2 ^ 32 * p.moving.isSome.toNat)
  else 0

/-- A set of stacks that R255 gives for a placed page: spread code and first stack. -/
def placedSet (spread setbase : Nat) : Bool := spread < 4 && setbase % spreadOf spread == 0

/-- The page that the fields of MEM_PAGE_ENTRY describe, if they are consistent (R257, R292). -/
def entryPage (e : W64) : Option Page :=
  let n := e.toNat
  let coherent := bitOf n 62
  let vers := bitOf n 60
  let home := bits n 45 41
  let spread := bits n 40 38
  let setbase := bits n 37 33
  if coherent then
    if spread = 4 ∧ !bitOf n 61 then
      some { v := true, coherent := true, vers := vers, owner := bits n 59 54, vgroup := if vers then bits n 53 46 else 0,
             home := home, spread := 4, setbase := home }
    else none
  else if !vers ∧ placedSet spread setbase then
    some { v := true, pin := bitOf n 61, owner := bits n 59 54, spread := spread, setbase := setbase }
  else none

/-- Page units that a page uses (R254). -/
def Page.units (p : Page) : Nat := if p.vers then 2 else 1

/-- The 64 KiB units that a set of stacks of a spread uses on stack n (R255, R256). -/
def setUnits (spread setbase units n : Nat) : Nat :=
  if setbase ≤ n ∧ n < setbase + spreadOf spread then 32 * units / spreadOf spread else 0

/-- The 64 KiB units that a page uses on stack n; a page being moved holds its old and its new storage (R277). -/
def Page.onStack (p : Page) (n : Nat) : Nat :=
  if p.v then
    setUnits p.spread p.setbase p.units n + (match p.moving with
      | some (sp, b) => setUnits sp b p.units n
      | none => 0)
  else 0

/-- Free 64 KiB units of stack n: 1,048,064 pages' worth over 32 stacks, less what proofing excluded (R254, R292). -/
def State.freeOn (s : State) (n : Nat) : Nat :=
  1048064 - (s.ctl n).excluded.length - (s.mem.page.map (fun e => e.2.onStack n)).sum

/-- Storage exists on a set for a number of page units (R289). (DEDUCED, log 67) -/
def State.hasSpace (s : State) (spread setbase units : Nat) : Bool :=
  (List.range 32).all (fun n => setUnits spread setbase units n ≤ s.freeOn n)

/-- USED of a function's quota (R292). -/
def State.usedUnits (s : State) (f : Nat) : Nat :=
  (s.mem.page.map (fun e => if e.2.v && e.2.owner == f then e.2.units else 0)).sum

/-- LIMIT and MEM_MIG_BUDGET of a function (R292). -/
def State.quotaLimit (s : State) (f : Nat) : Nat := (s.reg (memBase + 0x100 + 16 * f)).toNat % 2097152
def State.migBudget (s : State) (f : Nat) : Nat := (s.reg (memBase + 0x108 + 16 * f)).toNat % 65536

/-- STATUS values of MEM_PAGE_CMD (R292). -/
def stNoSpace : W16 := 0x8001
def stOverQuota : W16 := 0x8002
def stInUse : W16 := 0x8003

/-- The cached lines and lift streams of a page end at every controller (R268, R291). -/
def State.dropPage (s : State) (p : Nat) : State :=
  s.modMem (fun m => { m with ctl := m.ctl.map (fun e => (e.1,
    { e.2 with set := e.2.set.filterMap (fun x =>
                 match x.2.filter (fun l => l.line / 65536 != p) with
                 | [] => none
                 | l => some (x.1, l)),
               stream := e.2.stream.filter (fun x => match x.2 with
                 | some y => y.last / 65536 != p
                 | none => false) })) })

/-- A key is that of a line in the first k chunks of a page (R277). -/
def inChunks (p k : Nat) (key : Nat) : Bool := key % 68719476736 / 32768 == p && key % 32768 < 64 * k

/-- Cached lines of the first k chunks of a page end at every controller: another controller serves them (R266). -/
def State.dropChunks (s : State) (p k : Nat) : State :=
  s.modMem (fun m =>
    { m with ctl := m.ctl.map (fun e => (e.1, { e.2 with set := e.2.set.filterMap (fun x =>
               match x.2.filter (fun l => !inChunks p k l.key) with
               | [] => none
               | l => some (x.1, l)) })) })

/-- The lift streams of a page end (R268). -/
def State.endStreams (s : State) (p : Nat) : State :=
  s.modMem (fun m => { m with ctl := m.ctl.map (fun e => (e.1,
    { e.2 with stream := e.2.stream.filter (fun x => match x.2 with
        | some y => y.last / 65536 != p
        | none => false) })) })

/-- The keys of lines that are not of a page. -/
def offPage (p : Nat) (l : List Nat) : List Nat := l.filter (fun k => !(k < 137438953472 && k % 68719476736 / 32768 == p))

/-- Write zero to every byte of a page, both slots (R287, R289, R291): its lines become sound. -/
def State.zeroPage (s : State) (p : Nat) : State :=
  (s.modMem (fun m =>
    { m with bytes := m.bytes.zero (p * pageBytes) pageBytes, slot1 := m.slot1.zero (p * pageBytes) pageBytes,
             bad := offPage p m.bad, soft := offPage p m.soft, cacheBad := offPage p m.cacheBad })).dropPage p

/-- A page command ends with a status (R289, R536); success reloads MEM_PAGE_ENTRY from the selected entry. (DEDUCED, log 68) -/
def State.pageDone (s : State) (word : W32) (st : W16) : State :=
  s.modMem (fun m =>
    { m with cmd := { field := word, busy := false, status := st },
             entry := if st = stOk then (Tab.get {} m.page m.sel : Page).word else m.entry })

/-- The command word of MEM_PAGE_CMD (R292). -/
def pageWord (op group : Nat) : W32 := BitVec.ofNat 32 (2 ^ 28 * op + 2 ^ 20 * group)

/-- GROUP as MEM_PAGE_CMD holds it (R4, R292). -/
def State.heldGroup (s : State) : Nat := bits s.mem.cmd.field.toNat 27 20

/-- A physical function writes MEM_PAGE_CMD: the check's status, and the effect when it is OK. -/
def State.pageCommand (s : State) (f op group : Nat) (check : W16) (eff : State → State) : State :=
  if !s.reachesPF f || s.mem.cmd.busy then s
  else if check = stOk then (eff s).pageDone (pageWord op group) stOk
  else s.pageDone (pageWord op group) check

/-- The check of ALLOC (R289). -/
def State.allocCheck (s : State) : W16 :=
  if (s.page s.mem.sel).v then stInUse
  else
    match entryPage s.mem.entry with
    | none => stIllegal
    | some p =>
      let g := s.group p.vgroup
      if p.vers ∧ g.state ≠ .unused ∧ g.owner ≠ p.owner then stIllegal
      else if p.vers ∧ g.state = .sealed then stInUse
      else if s.quotaLimit p.owner < s.usedUnits p.owner + p.units then stOverQuota
      else if !s.hasSpace p.spread p.setbase p.units then stNoSpace
      else stOk

/-- A versioned page joins its group (R283). -/
def Group.join (g : Group) (owner : Nat) : Group :=
  if g.state = .unused then { state := .openG, owner := owner, pages := 1, vg := 0 } else { g with pages := g.pages + 1 }

/-- ALLOC_PAGE (R257, R283, R289). -/
def execAllocPage (f : Func) (s : State) : Res :=
  .next (s.pageCommand f.val 1 s.heldGroup s.allocCheck (fun t =>
    match entryPage t.mem.entry with
    | none => t
    | some p =>
      let t1 := (t.zeroPage t.mem.sel).modPage t.mem.sel (fun _ => p)
      if p.vers then t1.modGroup p.vgroup (fun g => g.join p.owner) else t1))

/-- A page leaves its group; with the last one the group is unused (R283). -/
def Group.leave (g : Group) : Group := if g.pages ≤ 1 then {} else { g with pages := g.pages - 1 }

/-- The check of FREE (R289). -/
def State.freeCheck (s : State) : W16 :=
  if !(s.page s.mem.sel).v then stIllegal else if s.sealedPage s.mem.sel then stInUse else stOk

/-- FREE_PAGE (R278, R283, R289): a move of the page is abandoned. -/
def execFreePage (f : Func) (s : State) : Res :=
  .next (s.pageCommand f.val 2 s.heldGroup s.freeCheck (fun t =>
    let p := t.page t.mem.sel
    let t1 := (t.zeroPage t.mem.sel).modPage t.mem.sel (fun _ => {})
    let t2 := t1.modMem (fun m => { m with mig := Tab.put {} m.mig m.sel {} })
    if p.vers then t2.modGroup p.vgroup Group.leave else t2))

/-- The check of SET (R289). -/
def State.setCheck (s : State) : W16 :=
  let p := s.page s.mem.sel
  let e := s.mem.entry.toNat
  if !p.v || p.coherent then stIllegal
  else if bitOf e 61 then
    if !placedSet (bits e 40 38) (bits e 37 33) then stIllegal
    else if p.moving.isNone && (p.spread != bits e 40 38 || p.setbase != bits e 37 33)
        && !s.hasSpace (bits e 40 38) (bits e 37 33) 1 then stNoSpace
    else stOk
  else stOk

/-- A move of a page starts (R277): the lift streams of its region end (R268). -/
def State.startMove (s : State) (p spread setbase : Nat) : State :=
  (s.modPage p (fun x => { x with moving := some (spread, setbase), chunk := 0 })).endStreams p

/-- A page's last move was abandoned, and an uncorrectable line that stopped it has not been written whole (R278). -/
def State.moveBarred (s : State) (p : Page) : Bool := p.stuck.any (fun l => s.mem.bad.contains l)

/-- SET_PAGE (R277, R278, R289): with PIN the page moves to the requested set, and the command completes with the move; a page that may
not move again yet is pinned where it is. (DESIGN CHOICE, log 170) -/
def execSetPage (f : Func) (s : State) : Res :=
  let e := s.mem.entry.toNat
  let n := s.mem.sel
  let p := s.page n
  let pin := bitOf e 61
  let same : Bool := p.spread == bits e 40 38 && p.setbase == bits e 37 33
  if !s.reachesPF f.val || s.mem.cmd.busy then .next s
  else if s.setCheck ≠ stOk then .next (s.pageDone (pageWord 3 s.heldGroup) s.setCheck)
  else
    let s1 := s.modPage n (fun x => { x with pin := pin })
    if pin && (p.moving.isSome || (!same && !s.moveBarred p)) then
      let s2 := if p.moving.isSome then s1 else s1.startMove n (bits e 40 38) (bits e 37 33)
      .next (s2.modMem (fun m => { m with cmd := { field := pageWord 3 s.heldGroup, busy := true, status := stOk }, setting := some n }))
    else .next (s1.pageDone (pageWord 3 s.heldGroup) stOk)

/-- SEAL_GROUP (R288, R289). -/
def execSealGroup (f : Func) (group : VGroup) (s : State) : Res :=
  let g := s.group group.val
  .next (s.pageCommand f.val 4 group.val (if g.state = .unused then stIllegal else stOk)
    (fun t => t.modGroup group.val (fun g => { g with state := .sealed })))

/-- OPEN_GROUP (R288, R289): refused while a step of the group is open. -/
def execOpenGroup (f : Func) (group : VGroup) (s : State) : Res :=
  let g := s.group group.val
  .next (s.pageCommand f.val 5 group.val
    (if g.state = .unused then stIllegal else if (s.tgroup group.val).step.isSome then stInUse else stOk)
    (fun t => t.modGroup group.val (fun g => { g with state := .openG })))

/-- MEM_PAGE_SEL_WRITE (R289): the selected entry is loaded into MEM_PAGE_ENTRY. -/
def execMemPageSelWrite (f : Func) (value : W32) (s : State) : Res :=
  if s.reachesPF f.val then
    .next (s.modMem (fun m =>
      let n := value.toNat % 2097152
      { m with sel := n, entry := (Tab.get {} m.page n : Page).word }))
  else .next s

/-- The end of a page's move: the SET that waits for it completes (R278, R289). -/
def State.moveEnded (s : State) (p : Nat) : State :=
  if s.mem.setting = some p then
    (s.pageDone (pageWord 3 s.heldGroup) stOk).modMem (fun m => { m with setting := none })
  else s

/-- A move is abandoned (R278): the page stays where it was, and what the new controllers cached of it is dropped (R266). -/
def State.abandonMove (s : State) (p : Nat) (bad : List Nat) : State :=
  ((s.dropChunks p (s.page p).chunk).modPage p (fun x => { x with moving := none, chunk := 0, stuck := x.stuck ++ bad })).moveEnded p

/-- A copy reads lines: the errors that a read corrects are counted at their controller (R259). -/
def State.correctLines (s : State) (a n : Nat) : State :=
  s.each (((linesOf a n).map (badKey 0)).filter s.mem.soft.contains) (fun t k =>
    (t.modMem (fun m => m.correct k)).bump (offCtl (s.stackOf (64 * (k % 68719476736))) 8) 1)

/-- MIGRATION_MOVE (R259, R266, R277, R278): one chunk of a moving page is copied, and no cache keeps a line of it; with the last, the
old storage is freed. -/
def execMigrationMove (page : Fin 2097152) (s : State) : Res :=
  let n := page.val
  let p := s.page n
  match p.moving with
  | none => .next s
  | some (sp, b) =>
    let a := n * pageBytes + 4096 * p.chunk
    let bad := s.badRead none a 4096
    let s0 := (s.correctLines a 4096).dropChunks n (p.chunk + 1)
    if bad ≠ [] then .next (((s.correctLines a 4096).memUEs 6 bad).abandonMove n bad)
    else if p.chunk + 1 < 512 then .next (s0.modPage n (fun x => { x with chunk := x.chunk + 1 }))
    else .next ((((s0.modPage n (fun x => { x with moving := none, chunk := 0, spread := sp, setbase := b, stuck := [] })).dropPage
      n).bump (memBase + 0x38) 1).moveEnded n)

/-- NARROW and WIDEN of MEM_PLACE_CTL as they act (R292). -/
def State.narrow (s : State) : Nat := max 51 (min 100 (bits (s.reg (memBase + 8)).toNat 15 8))
def State.widen (s : State) : Nat :=
  let w := bits (s.reg (memBase + 8)).toNat 7 0
  if s.narrow ≤ w then s.narrow - 1 else w

/-- The pairs whose stacks a set contains (R255, R275). -/
def pairsOfSet (spread setbase : Nat) : List Nat := if spread = 1 then [setbase / 4, setbase / 4 + 1] else [setbase / 4]

/-- Where a page's counts send it at the end of a window (R275): spread and first stack. -/
def State.migTarget (s : State) (p : Page) (c : MigCount) : Option (Nat × Nat) :=
  if p.spread = 0 then
    ((List.range 8).find? (fun j => s.narrow * c.total ≤ 100 * Tab.get 0 c.pair j && c.prevTotal != 0
      && s.narrow * c.prevTotal ≤ 100 * Tab.get 0 c.prevPair j)).map (fun j => (2, 4 * j))
  else if 100 * ((pairsOfSet p.spread p.setbase).map (Tab.get 0 c.pair)).sum < s.widen * c.total then some (0, 0)
  else none

/-- The pages that may move at the end of a window (R274, R275, R278). -/
def State.migCandidates (s : State) : List (Nat × Nat × Nat × Nat) :=
  s.mem.mig.filterMap (fun e =>
    let p := s.page e.1
    if 4096 ≤ e.2.total && p.v && !p.coherent && !p.pin && p.moving.isNone && !s.moveBarred p then
      (s.migTarget p e.2).map (fun t => (e.1, e.2.total, t.1, t.2))
    else none)

/-- Put a candidate in its place: descending access count, then lower page number (R276). -/
def migInsert (x : Nat × Nat × Nat × Nat) : List (Nat × Nat × Nat × Nat) → List (Nat × Nat × Nat × Nat)
  | [] => [x]
  | y :: l => if y.2.1 < x.2.1 ∨ (y.2.1 = x.2.1 ∧ x.1 < y.1) then x :: y :: l else y :: migInsert x l

/-- Start a candidate's move within the budgets (R276): the state, the moves so far, and the MiB charged to each owner. -/
def migStart (acc : State × Nat × Tab Nat) (x : Nat × Nat × Nat × Nat) : State × Nat × Tab Nat :=
  let s := acc.1
  let f := (s.page x.1).owner
  let spent := Tab.get 0 acc.2.2 f
  if acc.2.1 < 256 ∧ spent + 2 ≤ s.migBudget f ∧ s.hasSpace x.2.2.1 x.2.2.2 1 then
    (s.startMove x.1 x.2.2.1 x.2.2.2, acc.2.1 + 1, Tab.put 0 acc.2.2 f (spent + 2))
  else acc

/-- WINDOW of MEM_PLACE_CTL in microseconds: below 4 it acts as 4 (R292, R537). -/
def State.window (s : State) : Nat := 1000 * max 4 (bits (s.reg (memBase + 8)).toNat 23 16)

/-- MIGRATION_WINDOW_END (R274 to R276, R292, R435): once the window has lasted WINDOW, moves start, but for the first window since ready,
and its counts become those of the one before. -/
def execMigrationWindowEnd (s : State) : Res :=
  if !s.ready || decide (s.now < s.mem.winStart + s.window) then .next s
  else
    let l := s.migCandidates.foldl (fun a x => migInsert x a) []
    let s1 := if bitOf (s.reg (memBase + 8)).toNat 31 && s.mem.winSeen then (l.foldl migStart (s, 0, [])).1 else s
    .next (s1.modMem (fun m => { m with winStart := s.now, winSeen := true, mig := m.mig.filterMap (fun e =>
      if e.2.total = 0 then none else some (e.1, { prevTotal := e.2.total, prevPair := e.2.pair })) }))

/-- A scrub of a controller begins (R258, R260, R292): it reads the error reports of the on-die ECC. (DESIGN CHOICE, log 72) -/
def State.scrubs (s : State) (n : Nat) : State :=
  let s1 := s.modCtl n (fun c => { c with reports := 0, scrubbing := true })
  if (s.ctl n).reports = 0 then s1 else s1.bump (offCtl n 8) (s.ctl n).reports

/-- SCRUB (R258 to R262): a controller reads a line of its stack: of a mapped page, of free storage, which the numbers of unmapped pages
name, or of reserved storage, above the pages' slots. A line that is uncorrectable already is found so again, and one that can be
corrected is written back. (DEDUCED, log 65; DESIGN CHOICE, log 72) -/
def execScrub (st : StackIx) (line : Nat) (found : LineFound) (s : State) : Res :=
  let n := st.val
  let l := line % 68719476736
  let stored := 137438953472 ≤ line
  let free := !stored && !(s.page (l / 32768)).v
  if !stored && !free && s.stackOf (64 * l) != n then .next s
  else
    let t := s.scrubs n
    if found = .uncorrectable ∨ s.mem.bad.contains line then
      let s1 := t.modMem (fun m => { m with bad := if free || m.bad.contains line then m.bad else m.bad ++ [line] })
      if stored then .next (s1.bump (memBase + 0x30) 1) else .next (s1.memUE 4 l)
    else if found = .corrected ∨ s.mem.soft.contains line then .next ((t.modMem (fun m => m.correct line)).bump (offCtl n 8) 1)
    else .next t

/-- The device address of a line named as `localLine` names it, on stack n (R256); none beyond the page's region. -/
def State.lineAddr (s : State) (n name : Nat) : Option (Nat × Nat) :=
  let p := name / 65536
  let e := s.page p
  let sp := if e.coherent then 1 else spreadOf e.spread
  let b := if e.coherent then e.home else e.setbase
  let r := name % 32768
  if e.v && e.moving.isNone && r < 32768 / sp then
    let c := r / 64 * sp + (n + sp - b + sp - p % sp) % sp
    some (name / 32768 % 2, p * pageBytes + c * 4096 + r % 64 * 64)
  else none

/-- The next line that a stream prefetches, within its distance and region (R267, R268). -/
def Stream.next (x : Stream) : Option Nat :=
  let a := if x.down then x.ahead - 1 else x.ahead + 1
  let far := if x.down then x.last - a else a - x.last
  if far ≤ x.dist && sameRegion a x.last && a != x.ahead then some a else none

/-- LIFT_PREFETCH (R267, R268): a stream's next line comes into the cache. -/
def execLiftPrefetch (st : StackIx) (slot : Fin 64) (s : State) : Res :=
  let n := st.val
  let c := s.ctl n
  match c.getStream slot.val with
  | none => .next s
  | some x =>
    match x.next with
    | none => .next s
    | some a =>
      match s.lineAddr n a with
      | none => .next s
      | some (k, addr) =>
        let c1 := { c with stream := Tab.put none c.stream slot.val (some { x with ahead := a }), scrubbing := false }
        let key := badKey k (lineOf addr)
        if s.mem.bad.contains key then .next ((s.modCtl n (fun _ => c1)).memUE 5 (lineOf addr))
        else if c1.cached a then .next (s.modCtl n (fun _ => c1))
        else
          let r := c1.fill { line := a, key := key, dirty := false, lift := some (slot.val, x.serial) }
          let s1 := (s.modMem (fun m => (m.correct key).evict r.2)).modCtl n (fun _ => r.1.evict r.2)
          let s2 := if s.mem.soft.contains key then s1.bump (offCtl n 8) 1 else s1
          .next (if (r.2.bind CLine.lift).isSome then s2.bump (offCtl n 0x28) 1 else s2)

end Sys2Proof.Machine
end

