-- ==== Sys2Proof/Machine/Host.lean ====
section
/-! DEFINITION. The host interface: BAR accesses, ring ranges, ring contexts and doorbells (R290, R294 to R309, R328 to R331). -/
namespace Sys2Proof.Machine

/-- The size of a BAR of a function (R297); of BAR4, the largest that a host may choose. (DESIGN CHOICE, log 70) -/
def State.barSize (_ : State) (f bar : Nat) : Nat :=
  if bar = 0 then 67108864
  else if bar = 2 then (if isPF f then 8388608 else 1048576)
  else if bar = 4 then (if isPF f then 4398046511104 else 2199023255552)
  else 0

/-- An error is reported for a function (R294): its bit, and the header of its TLP if it is the first. (PRESUMED, log 157) -/
def State.aerError (s : State) (f bit : Nat) : State :=
  let a : Aer := Tab.get {} s.hst.aer f
  let b := { a with errors := a.errors ||| (1#32 <<< bit) }
  let t (c : Aer) : State := { s with hst := { s.hst with aer := Tab.put {} s.hst.aer f c } }
  match a.first with
  | some _ => t b
  | none => { t { b with first := some bit, header := Config.freeValue s.free ++ Config.freeValue (s.free + 1) } with free := s.free + 2 }

/-- An access obeys R295. -/
def barAccessOk (bar off size : Nat) : Bool :=
  bar == 4 || ((size == 8 || (bar == 0 && size == 4)) && off % size == 0)

/-- BAR_BAD_ACCESS (R295): a read is answered with Unsupported Request; a write is discarded and counted. -/
def execBarBadAccess (f : Func) (bar : Fin 6) (isWrite : Bool) (off size : Nat) (s : State) : Res :=
  if !s.reaches f.val then .next s
  else if s.barSize f.val bar.val < off + size then .fault .beyondBar
  else if barAccessOk bar.val off size then .next s
  else if isWrite then .next (s.bump offBadAccess 1)
  else .next ((s.aerError f.val 20).emit (.unsupported f.val))

/-- A function's BAR4 reaches a page now (R290, R291). -/
def State.bar4Page (s : State) (f p : Nat) : Bool :=
  p < 2097152 && (s.page p).v && (isPF f || (s.page p).owner == f) && !s.resetting (s.page p).owner

/-- The device address of the first byte of a BAR4 access (R298). -/
def State.bar4Addr (s : State) (f off : Nat) : Nat := (s.fent f).bar4Base + off

/-- A byte that a BAR4 read returns (R290, R298). -/
def State.bar4Byte (s : State) (f a : Nat) : W8 := if s.bar4Page f (pageOf a) then s.devByte none a else 0

/-- BAR4_READ (R262, R286, R290, R298): bytes of other addresses read as zero; an uncorrectable line gives a Completer Abort. -/
def execBar4Read (f : Func) (off len : Nat) (s : State) : Res :=
  if !s.reaches f.val || len == 0 then .next s
  else if s.barSize f.val 4 < off + len then .fault .beyondBar
  else
    let a := s.bar4Addr f.val off
    let bad := (s.badRead none a len).filter (fun l => s.bar4Page f.val (l / 32768))
    let s1 := if (pagesOf a len).all (s.bar4Page f.val) then s.demand none a len false none else s
    if bad ≠ [] then .next (((s1.memUEs 1 bad).aerError f.val 15).emit (.completerAbort f.val))
    else .next (s1.emit (.data f.val ((fromTo a len).map (s.bar4Byte f.val))))

/-- MEM_BAR_DISCARD (R292). -/
def offBarDiscard : Nat := memBase + 0x40

/-- A part of a BAR4 write within one page is performed (R284, R285, R290). (DEDUCED, log 69) -/
def State.bar4Writes (s : State) (f : Nat) (e : Nat × List W8) : Bool :=
  s.bar4Page f (pageOf e.1) && !s.sealedPage (pageOf e.1)

/-- BAR4_WRITE (R284, R285, R290, R298): what cannot be written is discarded, and the write is counted. -/
def execBar4Write (f : Func) (off : Nat) (bytes : List W8) (s : State) : Res :=
  if !s.reaches f.val || bytes == [] then .next s
  else if s.barSize f.val 4 < off + bytes.length then .fault .beyondBar
  else
    let parts := splitPages (s.bar4Addr f.val off) bytes
    let s1 := s.each (parts.filter (s.bar4Writes f.val)) (fun t e => (t.demand none e.1 e.2.length true none).devStore 1 e.1 e.2)
    if parts.all (s.bar4Writes f.val) then .next s1 else .next (s1.bump offBarDiscard 1)

/-- HIF_LOCK (R301, R302): a physical function locks the RWL fields of its port's entries. -/
def execHifLock (f : Func) (s : State) : Res :=
  if s.reachesPF f.val then .next (s.modPort (portOf f.val) (fun p => { p with lock := true })) else .next s

/-- A writer may write a function's RWL fields (R302). -/
def State.writesEntry (s : State) (f target : Nat) : Bool :=
  s.reachesPF f && portOf f == portOf target && !(s.port (portOf target)).lock

/-- A ring range has a ring in common with that of another function. (DEDUCED, log 73) -/
def State.rangeMeets (s : State) (target base count : Nat) : Bool :=
  (List.range 64).any (fun g => g != target && 0 < count && 0 < (s.fent g).count && base < (s.fent g).base + (s.fent g).count
    && (s.fent g).base < base + count)

/-- HIF_FUNC_RINGS_WRITE (R301 to R303): a range is accepted, or refused with BAD set. -/
def execHifFuncRingsWrite (f target : Func) (value : W64) (s : State) : Res :=
  let base := bits value.toNat 19 0
  let count := bits value.toNat 52 32
  if !s.writesEntry f.val target.val then .next s
  else if s.rangeMeets target.val base count || (!isPF target.val && 131072 < count) || 1048576 < base + count then
    .next (s.modFent target.val (fun e => { e with bad := true }))
  else .next (s.modFent target.val (fun e => { e with bad := false, base := base, count := count }))

/-- KIND of a ring context (R304). -/
def RingKind.code : RingKind → Nat
  | .disabled => 0 | .work => 1 | .pool => 2 | .event => 3

/-- The 64 bytes of a ring context (R304). -/
def Ring.bytes (g : Ring) : List W8 :=
  leBytes 8 g.base.toNat ++ leBytes 8 g.cbase.toNat ++ leBytes 4 g.head.toNat ++ leBytes 4 g.tail.toNat
    ++ leBytes 4 g.cprod.toNat ++ leBytes 1 g.logsz ++ leBytes 1 g.kind.code
    ++ leBytes 1 (g.dloc.toNat + 2 * g.cloc.toNat + 4 * g.irqEn.toNat + 8 * g.armed.toNat + 16 * g.prio + 64 * g.error.toNat)
    ++ leBytes 1 g.ecause.toNat ++ leBytes 2 g.vector ++ leBytes 2 g.icoal ++ leBytes 4 g.pasid.toNat
    ++ leBytes 4 g.lagHi.toNat ++ leBytes 4 g.lagLo.toNat ++ leBytes 4 g.evring.toNat ++ leBytes 4 g.inprog
    ++ leBytes 8 g.pooltab.toNat

/-- `n` bytes of RING_DATA as a number. -/
def dataField (d : List W8) (off n : Nat) : Nat := leNat ((d.drop off).take n)

/-- The kind that RING_DATA gives, if it is one. -/
def dataKind (d : List W8) : Option RingKind :=
  match dataField d 29 1 with
  | 0 => some .disabled
  | 1 => some .work
  | 2 => some .pool
  | 3 => some .event
  | _ => none

/-- The fields of a context that the host writes, as RING_DATA gives them, with the engine's fields of `old` (R5, R304). -/
def hostFields (d : List W8) (k : RingKind) (old : Ring) : Ring :=
  let ctl := dataField d 30 1
  { old with base := BitVec.ofNat 64 (dataField d 0 8), cbase := BitVec.ofNat 64 (dataField d 8 8),
             tail := BitVec.ofNat 32 (dataField d 20 4), logsz := dataField d 28 1,
             kind := k, dloc := bitOf ctl 0, cloc := bitOf ctl 1, irqEn := bitOf ctl 2, prio := bits ctl 5 4,
             vector := dataField d 32 2, icoal := dataField d 34 2, pasid := BitVec.ofNat 32 (dataField d 36 4) &&& 0x800FFFFF,
             lagHi := BitVec.ofNat 32 (dataField d 40 4), lagLo := BitVec.ofNat 32 (dataField d 44 4),
             evring := BitVec.ofNat 32 (dataField d 48 4) &&& 0x800FFFFF, pooltab := BitVec.ofNat 64 (dataField d 56 8) }

/-- A context that a write would enable is refused (R304, R305). (DEDUCED, log 74) -/
def State.enableBad (s : State) (f : Nat) (d : List W8) (k : RingKind) : Bool :=
  let g := hostFields d k {}
  let area := if k = .event then 0 else 64 * 2 ^ g.logsz
  dataField d 16 12 != 0
    || g.logsz < 4 || 16 < g.logsz || dataField d 30 1 / 64 != 0 || dataField d 31 1 != 0 || dataField d 52 4 != 0
    || (if k = .event then g.base != 0 else g.base.toNat % 4096 != 0) || g.cbase.toNat % 4096 != 0
    || bits (dataField d 36 4) 30 20 != 0 || bits (dataField d 48 4) 30 20 != 0
    || (g.lagHi != 0 && g.lagHi.toNat ≤ g.lagLo.toNat) || (k != .pool && g.pooltab != 0) || 2 ^ 42 ≤ g.pooltab.toNat
    || (if isPF f then 2048 ≤ g.vector else 64 ≤ g.vector)
    || (g.dloc && !s.owns f g.base.toNat area) || (g.cloc && !s.owns f g.cbase.toNat (32 * 2 ^ g.logsz))

/-- A write to a live ring changes no more than VECTOR, ICOAL, IRQ_EN, LAG_HI and LAG_LO (R305). -/
def liveChange (d : List W8) (k : RingKind) (old : Ring) : Bool :=
  let g := hostFields d k old
  { g with vector := old.vector, icoal := old.icoal, irqEn := old.irqEn, lagHi := old.lagHi, lagLo := old.lagLo } == old

/-- The ring that a function's RING_SEL names, if the function may address it: a virtual function its own rings, a physical
function the rings of every function of its port (R305). -/
def State.selRing (s : State) (f : Nat) : Option (Nat × Nat) :=
  let r := s.absRing f ((s.rwin f).sel.toNat % 1048576)
  match s.ringOwner r with
  | some o => if o = f || (isPF f && portOf o = portOf f) then some (r, o) else none
  | none => none

/-- RING_CMD ends with a status. -/
def State.ringCmdDone (s : State) (f cmd : Nat) (st : W16) : State :=
  s.modRwin f (fun w => { w with cmd := { field := BitVec.ofNat 32 (2 ^ 30 * cmd), busy := false, status := st } })

/-- A context is used (R306): one that has to be read from an uncorrectable line puts its ring in error (R307). -/
def State.readCtx (s : State) (r : Nat) : State :=
  if s.ctxBad r then (if (s.ring r).error && (s.ring r).ecause == 1 then s else s.ctxError r) else s.useCtx r

/-- A context is written whole: its line is replaced, and it is in the cache (R261, R305, R306). -/
def State.putCtx (s : State) (r : Nat) (g : Ring → Ring) : State := ((s.modRing r g).useCtx r).writeBack [r]

/-- RING_READ (R305, R306): a cached context is written back first. -/
def execRingRead (f : Func) (s : State) : Res :=
  if !s.reaches f.val || (s.rwin f.val).cmd.busy then .next s
  else
    match s.selRing f.val with
    | none => .next (s.ringCmdDone f.val 1 stIllegal)
    | some (r, _) =>
      let s0 := s.readCtx r
      let s1 := if s0.ctxCached r then s0.writeBack [r] else s0
      .next ((s1.modRwin f.val (fun w => { w with data := (s1.ring r).bytes })).ringCmdDone f.val 1 stOk)

/-- STATUS RING_ACTIVE (R305). -/
def stRingActive : W16 := 0x8004

/-- The lag of a ring (R330). -/
def Ring.lag (g : Ring) : W32 := g.tail - g.head

/-- The event ring of a ring (R304, R329). -/
def State.evringOf (s : State) (f r : Nat) : Nat :=
  let e := (s.ring r).evring.toNat
  if bitOf e 31 then s.defRing f else s.absRing f (e % 1048576)

/-- Raise LAG_HIGH or LAG_LOW when a ring's lag reaches its watermark or its release level (R329, R330). -/
def State.lagCheck (s : State) (f r : Nat) : State :=
  let g := s.ring r
  if g.kind == .event || g.lagHi == 0 then s
  else if !g.lagging && g.lagHi.toNat ≤ g.lag.toNat then
    (s.modRing r (fun g => { g with lagging := true })).post f (s.evringOf f r)
      { typ := 0x0001, ring := s.ringNum f r, time := s.now, data := g.lag.toNat }
  else if g.lagging && g.lag.toNat ≤ g.lagLo.toNat then
    (s.modRing r (fun g => { g with lagging := false })).post f (s.evringOf f r)
      { typ := 0x0002, ring := s.ringNum f r, time := s.now, data := g.lag.toNat }
  else s

/-- RING_WRITE (R305): a context is installed, changed or disabled after its checks. (DEDUCED, log 75) -/
def execRingWrite (f : Func) (s : State) : Res :=
  let d := (s.rwin f.val).data
  if !s.reaches f.val || (s.rwin f.val).cmd.busy then .next s
  else
    match s.selRing f.val, dataKind d with
    | some (r, o), some k =>
      let g := s.ring r
      if g.kind = .disabled then
        if k = .disabled then .next ((s.putCtx r (hostFields d k)).ringCmdDone f.val 2 stOk)
        else if s.enableBad o d k then .next (s.ringCmdDone f.val 2 stIllegal)
        else .next ((s.putCtx r (fun _ => { hostFields d k {} with armed := bitOf (dataField d 30 1) 3 })).ringCmdDone f.val 2 stOk)
      else if k = .disabled then
        if liveChange d g.kind g ∧ g.inprog = 0 ∧ (g.head = g.tail ∨ g.error) then
          .next ((s.putCtx r (fun g => { hostFields d k g with lagging := false, ovfDue := false })).ringCmdDone f.val 2 stOk)
        else .next (s.ringCmdDone f.val 2 stRingActive)
      else if liveChange d k g then .next (((s.putCtx r (hostFields d k)).lagCheck o r).ringCmdDone f.val 2 stOk)
      else .next (s.ringCmdDone f.val 2 stRingActive)
    | some (r, _), none =>
      .next (s.ringCmdDone f.val 2 (if (s.ring r).kind = .disabled then stIllegal else stRingActive))
    | none, _ => .next (s.ringCmdDone f.val 2 stIllegal)

/-- A ring number in a function's numbering lies in its range (R303). (DEDUCED, log 76) -/
def State.inRange (s : State) (f i : Nat) : Bool :=
  let r := s.absRing f i
  (s.fent f).base ≤ r && r < (s.fent f).base + (s.fent f).count

/-- A doorbell write breaks a check of R309. -/
def State.doorbellBad (s : State) (f i : Nat) (value : W64) : Bool :=
  let r := s.absRing f i
  let g := s.ring r
  let t := value.setWidth 32
  bits value.toNat 63 33 != 0 || !s.inRange f i || g.kind == .disabled || g.error || s.resetting f
    || (if g.kind = .event then (g.cprod - t).toInt < 0 || ((2 ^ g.logsz : Nat) : Int) < (g.cprod - t).toInt
        else (t - g.head).toInt < 0 || ((2 ^ g.logsz : Nat) : Int) < (t - g.head).toInt
          || serialBefore 32 t.toNat g.tail.toNat)

/-- DOORBELL (R308, R309, R328 to R330). -/
def execDoorbell (f : Func) (ring : Fin 1048576) (value : W64) (s : State) : Res :=
  if !s.reaches f.val then .next s
  else if s.barSize f.val 2 < 8 * ring.val + 8 then .fault .beyondBar
  else
    let r := s.absRing f.val ring.val
    let s1 := if s.inRange f.val ring.val then s.readCtx r else s
    let t := value.setWidth 32
    if s1.doorbellBad f.val ring.val value then
      .next ((s1.bump offDbBad 1).raise (some (f.val, ring.val)) false 0x0004 t.toNat)
    else
      .next (((s1.modRing r (fun g => { g with tail := t, armed := g.armed || bitOf value.toNat 32 })).evRoomBack f.val r).lagCheck
        f.val r)

end Sys2Proof.Machine
end

