-- ==== Sys2Proof/Machine/Take.lean ====
section
/-! DEFINITION. The taking of descriptors: which ring is served, which LAUNCH waits at its ring's head, and what every opcode checks
(R6, R262, R279, R304, R307, R311, R313 to R316, R331). -/
namespace Sys2Proof.Machine

/-- The body fields of an opcode: offset and size (R316). (DEDUCED, log 82) -/
def bodyFields (op : Nat) : List (Nat × Nat) :=
  match op with
  | 0x02 => [(8, 1)]
  | 0x03 => [(8, 8), (16, 8), (24, 8), (32, 1)]
  | 0x04 => [(8, 8), (16, 4), (20, 2), (22, 2), (24, 1)]
  | 0x05 => [(8, 2), (16, 16), (32, 8)]
  | 0x06 => [(8, 2), (10, 2), (12, 1), (16, 4), (20, 4), (24, 16)]
  | 0x07 => [(8, 1), (10, 2), (12, 4), (16, 2), (18, 2)]
  | 0x08 => [(8, 1), (9, 1), (10, 1), (12, 4), (16, 8)]
  | 0x09 => [(8, 8), (16, 8), (24, 16), (40, 16), (56, 1)]
  | 0x0A => [(8, 1)]
  | 0x0B => [(8, 8), (16, 4), (20, 2)]
  | 0x0C => [(8, 1), (9, 1), (12, 4), (16, 8), (24, 8), (32, 8)]
  | 0x0D => [(8, 1)]
  | _ => []

/-- An opcode that R314 lists. -/
def opcodeListed (op : Nat) : Bool := 1 ≤ op && op ≤ 13

/-- A descriptor breaks what holds for every opcode (R6, R314, R315). -/
def State.headerBad (s : State) (d : Desc) : Bool :=
  let op := d.opcode
  let pool := (s.ring d.ring).kind == .pool
  !opcodeListed op || d.field 1 1 % 32 != 0 || d.field 2 2 != 0
    || (pool && !(op == 1 || op == 2 || op == 5)) || (d.train && op != 5)
    || (fromTo 8 56).any (fun k => !(bodyFields op).any (fun e => e.1 ≤ k && k < e.1 + e.2) && d.field k 1 != 0)

/-- CFGID, ARGS and PLACE of a LAUNCH (R316). -/
def Desc.cfgid (d : Desc) : Nat := d.field 8 2
def Desc.args (d : Desc) (off : Nat) : List W32 := (List.range 4).map (fun i => BitVec.ofNat 32 (d.field (off + 4 * i) 4))
def Desc.place (d : Desc) : Nat := d.field 32 8

/-- The ring of a descriptor is a pool ring. -/
def State.onPool (s : State) (d : Desc) : Bool := (s.ring d.ring).kind == .pool

/-- The group table of a pool ring is read (R262, R264, R304). -/
def State.readTable (s : State) (d : Desc) : State :=
  let a := (s.ring d.ring).pooltab.toNat
  if s.owns d.func a 512 then (s.demand none a 512 false none).memUEs 8 (s.badRead none a 512) else s

/-- The group table of a pool ring: CFGID of each used group (R304). An entry in an uncorrectable line names none.
(DESIGN CHOICE, log 84) -/
def State.poolGroups (s : State) (d : Desc) : List (Nat × Nat) :=
  let a := (s.ring d.ring).pooltab.toNat
  (List.range 64).filterMap (fun n =>
    let c := leNat (s.devRead none (a + 8 * n) 2)
    if s.owns d.func (a + 8 * n) 8 && (s.badRead none (a + 8 * n) 2).isEmpty && c < 256 then some (n, c) else none)

/-- A group is free (R279): it is loaded, nothing runs or loads there, and it is not halted. -/
def State.groupFree (s : State) (f c : Nat) : Bool :=
  let k := s.cfg f c
  k.loaded && !k.frame && k.run.isNone && k.load.isNone && k.halted.isNone

/-- Hops from a group's anchor cluster to the crust entry of the chunk at an address, under the installed tables (R195, R279). -/
def State.placeHops (s : State) (f c a : Nat) : Nat :=
  match s.siteOf f c 0 0 with
  | none => 100000
  | some i => (s.fab.installed.dist (s.crustOut (s.stackOf a / 2) i) i).getD 100000

/-- The nearer of two groups; the lower number on a tie. -/
def nearer (x : Nat × Nat × Nat) : Option (Nat × Nat × Nat) → Option (Nat × Nat × Nat)
  | none => some x
  | some y => if y.2.2 < x.2.2 then some y else some x

/-- The group that a pool-ring LAUNCH goes to: group number, CFGID and hops (R279). -/
def State.poolPick (s : State) (d : Desc) : Option (Nat × Nat × Nat) :=
  ((s.poolGroups d).filterMap (fun g => if s.groupFree d.func g.2 then some (g.1, g.2, s.placeHops d.func g.2 d.place) else none)).foldr
    nearer none

/-- The engine takes a descriptor's bytes (R311): HEAD and INPROG advance. -/
def State.takeDesc (s : State) (r f : Nat) (raw : List W8) : State :=
  let g := s.ring r
  ((s.modDescs (fun l => l ++ [{ ring := r, index := g.head, func := f, raw := raw, taken := s.now }])).modRing r
    (fun g => { g with head := g.head + 1, inprog := g.inprog + 1 })).lagCheck f r

/-- A ring holds a descriptor that can be taken (R311, R331). -/
def State.canTake (s : State) (r f : Nat) : Bool :=
  let g := s.ring r
  s.ready && (g.kind == .work || g.kind == .pool) && !g.error && g.head != g.tail && g.inprog < 64 && !s.resetting f

/-- How many turns after `last` the number `x` comes, of `n` that rotate. -/
def turnsAfter (last n x : Nat) : Nat := (x + n - 1 - last) % n

/-- The number of a crust block, function and priority in the record of the rings served (R313). -/
def servedKey (r f prio : Nat) : Nat := (64 * ringBlock r + f) * 4 + prio

/-- The place of a ring in the order in which its crust block takes descriptors (R313): functions rotate; within one, the highest PRIO
goes first, and rings of equal PRIO rotate. -/
def State.takeRank (s : State) (f r : Nat) : Nat :=
  let p := (s.ring r).prio
  (turnsAfter (Tab.get 63 s.hst.servedFunc (ringBlock r)) 64 f * 4 + (3 - p)) * 1048576
    + turnsAfter (Tab.get 1048575 s.hst.servedRing (servedKey r f p)) 1048576 r

/-- A LAUNCH waits at its ring's head: on a pool ring while no group is free or an earlier one has none yet, and while its function is
quiesced (R279, R316). -/
def State.headWaits (s : State) (d : Desc) : Bool :=
  d.opcode == 5 && !s.headerBad d &&
    (if s.onPool d then
      d.cfgid == 0 && s.owns d.func d.place 1
        && ((s.prt d.func).quiesced || s.hst.descs.any (fun x => x.func == d.func && x.opcode == 5 && !x.started && s.onPool x)
          || (s.poolPick d).isNone)
    else (s.prt d.func).quiesced)

/-- The descriptor at a ring's head (R311). -/
def State.headDesc (s : State) (f r : Nat) : Desc :=
  let g := s.ring r
  let a := g.base.toNat + 64 * (g.head.toNat % 2 ^ g.logsz)
  { ring := r, index := g.head, func := f, raw := if g.dloc then s.devRead none a 64 else s.hst.mem.read a 64 }

/-- The rings of a crust block that hold a descriptor that can be taken and does not wait, with their functions (R313). -/
def State.takeable (s : State) (b : Nat) : List (Nat × Nat) :=
  s.hst.ring.filterMap (fun e => if ringBlock e.1 = b then
      (match s.ringOwner e.1 with
      | some f => if s.canTake e.1 f && !s.headWaits (s.headDesc f e.1) then some (f, e.1) else none
      | none => none)
    else none)

/-- It is a ring's turn: none of its crust block's comes before it (R313). (DESIGN CHOICE, log 84) -/
def State.myTurn (s : State) (f r : Nat) : Bool :=
  (s.takeable (ringBlock r)).all (fun e => s.takeRank f r ≤ s.takeRank e.1 e.2)

/-- A ring is served: the turn passes on. -/
def State.serve (s : State) (f r : Nat) : State :=
  { s with hst := { s.hst with servedFunc := Tab.put 63 s.hst.servedFunc (ringBlock r) f,
                               servedRing := Tab.put 1048575 s.hst.servedRing (servedKey r f (s.ring r).prio) r } }

/-- A descriptor that has been read is taken, or waits at its ring's head. -/
def State.takeOrWait (s : State) (r f : Nat) (raw : List W8) : State :=
  let d : Desc := { ring := r, index := (s.ring r).head, func := f, raw := raw }
  let s1 := if s.onPool d && d.opcode == 5 then s.readTable d else s
  if s1.headWaits d then s1 else s1.takeDesc r f raw

/-- DESCRIPTOR_TAKE (R262, R307, R311, R313, R331). -/
def execDescriptorTake (ring : Fin 1048576) (fail : Option HostFail) (s : State) : Res :=
  let r := ring.val
  match s.ringOwner r with
  | none => .next s
  | some f =>
    if !s.canTake r f || !s.myTurn f r then .next s
    else
      let s0 := s.serve f r
      if s0.ctxBad r then .next (s0.ctxError r)
      else
        let s1 := s0.useCtx r
        let g := s1.ring r
        let a := g.base.toNat + 64 * (g.head.toNat % 2 ^ g.logsz)
        if g.dloc then
          if !s1.owns f a 64 then .next (s1.ringErr r 4)
          else
            let s2 := s1.demand none a 64 false none
            match s1.badRead none a 64 with
            | [] => .next (s2.takeOrWait r f (s1.devRead none a 64))
            | l => .next ((s2.memUEs 8 l).ringErr r 5)
        else
          match fail with
          | some .unsupported => .next (s1.ringErr r 2)
          | some .translation => .next (s1.ringErr r 3)
          | none => .next (s1.takeOrWait r f (s1.hst.mem.read a 64))

end Sys2Proof.Machine
end

