-- ==== Sys2Proof/Machine/Descs.lean ====
section
/-! DEFINITION. When descriptors start (R312), and NOP, FENCE, COPY, DIGEST,
EVENT_WAIT, TIMESTAMP, QUIESCE (R286, R312, R316, R325, R331, R410). -/
namespace Sys2Proof.Machine

/-- FENCE, STEP_COMMIT and SERIAL descriptors start only after every earlier descriptor of their ring (R312, R386). -/
def Desc.waitsRing (d : Desc) : Bool := d.serial || d.opcode == 2 || d.opcode == 8

/-- A FENCE with SCOPE 1, or a STEP_COMMIT: it waits for the function's other rings too (R312, R386). -/
def Desc.waitsAll (d : Desc) : Bool := (d.opcode == 2 && d.field 8 1 == 1) || d.opcode == 8

/-- The descriptors of the list that were taken before `d`. -/
def takenBefore (d : Desc) : List Desc → List Desc
  | [] => []
  | x :: l => if x.ring = d.ring ∧ x.index = d.index then [] else x :: takenBefore d l

/-- A descriptor may start (R312): those before it in its ring have started, and what it waits for has completed. A
descriptor behind a FENCE waits for it, and behind a STEP_COMMIT for its start. -/
def State.startable (s : State) (d : Desc) : Bool :=
  let before := takenBefore d s.hst.descs
  let ring := before.filter (fun x => x.ring == d.ring)
  ring.all (fun x => x.started && x.opcode != 2) && (!d.waitsRing || ring.isEmpty)
    && (!d.waitsAll || !before.any (fun x => x.func == d.func))

/-- Mark a descriptor as started. -/
def State.started (s : State) (d : Desc) : State := s.modDesc d.ring d.index (fun x => { x with started := true, since := s.now })

/-- A descriptor completes with a bare status. -/
def State.endDesc (s : State) (d : Desc) (st : W16) : State := s.finishDesc d.ring d.index (rep st)

/-- Start the descriptor that a command names, when it has the opcode and may start: refused with ILLEGAL_DESCRIPTOR when it
breaks a check, else it takes its effect. -/
def State.beginDesc (s : State) (r : DescRef) (op : Nat → Bool) (bad : Desc → Bool) (eff : Desc → State → State) : State :=
  match s.desc r.ring.val r.index with
  | none => s
  | some d =>
    if !s.ready || d.started || !op d.opcode || !s.startable d then s
    else if s.headerBad d || bad d then s.endDesc d stIllegal
    else eff d s

/-- The started descriptor that a command names, when it has the opcode. -/
def State.running? (s : State) (r : DescRef) (op : Nat) : Option Desc :=
  match s.desc r.ring.val r.index with
  | some d => if d.started && d.opcode == op then some d else none
  | none => none

/-- NOP (R314 to R316): completes with OK; a descriptor whose opcode is not listed completes with ILLEGAL_DESCRIPTOR. -/
def execNop (r : DescRef) (s : State) : Res :=
  .next (s.beginDesc r (fun op => op == 1 || !opcodeListed op) (fun _ => false) (fun d t => t.endDesc d stOk))

/-- FENCE (R312): it starts once what it waits for has completed, and completes with OK. -/
def execFence (r : DescRef) (s : State) : Res :=
  .next (s.beginDesc r (· == 2) (fun d => 1 < d.field 8 1) (fun d t => t.endDesc d stOk))

/-- The groups whose V_g is odd now: a view (R286). -/
def State.viewNow (s : State) : List Nat :=
  s.mem.group.filterMap (fun e => if e.2.vg.toNat % 2 = 1 then some e.1 else none)

/-- SRC, DST, LEN and LOC of a COPY (R316). -/
def Desc.src (d : Desc) : Nat := d.field 8 8
def Desc.dst (d : Desc) : Nat := d.field 16 8
def Desc.len (d : Desc) : Nat := d.field 24 8
def Desc.srcHost (d : Desc) : Bool := bitOf (d.field 32 1) 0
def Desc.dstHost (d : Desc) : Bool := bitOf (d.field 32 1) 1

/-- A COPY breaks R285, R315 or R316. -/
def State.copyBad (s : State) (d : Desc) : Bool :=
  3 ≤ d.field 32 1 || d.src % 4 != 0 || d.dst % 4 != 0 || d.len % 4 != 0 || d.len < 4 || 2 ^ 40 < d.len
    || (!d.srcHost && !s.owns d.func d.src d.len) || (!d.dstHost && (!s.owns d.func d.dst d.len || s.touchesSealed d.dst d.len))

/-- COPY (R286, R315, R316, R331): it captures a view and starts; a failing host side completes it with ILLEGAL_DESCRIPTOR.
(DEDUCED, log 81) -/
def execCopy (r : DescRef) (fail : Option HostFail) (s : State) : Res :=
  .next (s.beginDesc r (· == 3) s.copyBad (fun d t =>
    if fail.isSome && (d.srcHost || d.dstHost) then t.endDesc d stIllegal
    else (t.started d).modDesc d.ring d.index (fun x => { x with view := t.viewNow })))

/-- The bytes that a COPY moves. -/
def State.copyBytes (s : State) (d : Desc) : List W8 :=
  if d.srcHost then s.hst.mem.read d.src d.len else s.devRead (some d.view) d.src d.len

/-- A COPY's bytes arrive (R261, R284). -/
def State.copyStore (s : State) (d : Desc) (bs : List W8) : State :=
  if d.dstHost then { s with hst := { s.hst with mem := s.hst.mem.write d.dst bs } }
  else (s.demand none d.dst d.len true none).devStore 2 d.dst bs

/-- COPY_DONE (R262, R272, R285, R324): the bytes are copied and the descriptor completes; the device ranges are checked again,
since pages may have changed. -/
def execCopyDone (r : DescRef) (s : State) : Res :=
  match s.running? r 3 with
  | none => .next s
  | some d =>
    if s.copyBad d then .next (s.endDesc d stIllegal)
    else
      let s1 := if d.srcHost then s else s.demand (some d.view) d.src d.len false none
      let bad := if d.srcHost then [] else s.badRead (some d.view) d.src d.len
      if bad ≠ [] then .next ((s1.memUEs 2 bad).endDesc d stMemUE)
      else .next ((s1.copyStore d (s.copyBytes d)).endDesc d stOk)

/-- COMPLETION_TIMEOUT (R331): a descriptor read from the host puts the ring in error; a COPY's read fails the COPY. (DEDUCED, log 85) -/
def execCompletionTimeout (r : DescRef) (s : State) : Res :=
  let g := s.ring r.ring.val
  match s.running? r 3 with
  | some d => .next (if d.srcHost then s.endDesc d stIllegal else s)
  | none =>
    match s.ringOwner r.ring.val with
    | some f => .next (if s.canTake r.ring.val f && !g.dloc && g.head == r.index then s.ringErr r.ring.val 2 else s)
    | none => .next s

/-- The product by x in GF(2^128) modulo x^128 + x^7 + x^2 + x + 1 (R410). -/
def gfDouble (a : BitVec 128) : BitVec 128 := if a.getLsbD 127 then (a <<< 1) ^^^ 0x87 else a <<< 1

/-- A product in GF(2^128) (R410): bit k of `b` and those above it, times `a` times x^k. -/
def gfMulFrom (b : BitVec 128) : Nat → BitVec 128 → BitVec 128 → BitVec 128
  | 0, _, acc => acc
  | k + 1, a, acc => gfMulFrom b k (gfDouble a) (if b.getLsbD (127 - k) then acc ^^^ a else acc)

/-- The product in GF(2^128) (R410). -/
def gfMul (a b : BitVec 128) : BitVec 128 := gfMulFrom b 128 a 0

/-- The digest of `n` 16-byte words (R410). -/
def digestWords (key : BitVec 128) : Nat → List W8 → BitVec 128 → BitVec 128
  | 0, _, h => h
  | k + 1, b, h => digestWords key k (b.drop 16) (gfMul (h ^^^ BitVec.ofNat 128 (leNat (b.take 16))) key)

/-- digest(addr, len, key) over the bytes of the range (R410). -/
def digest (b : List W8) (key : BitVec 128) : BitVec 128 :=
  gfMul (digestWords key (b.length / 16) b 0 ^^^ BitVec.ofNat 128 b.length) key

/-- A DIGEST breaks R315, R316 or R410. -/
def State.digestBad (s : State) (d : Desc) : Bool :=
  1 < d.field 56 1 || d.field 8 8 % 16 != 0 || d.field 16 8 % 16 != 0 || d.field 16 8 == 0 || d.field 24 16 == 0
    || !s.owns d.func (d.field 8 8) (d.field 16 8)

/-- DIGEST (R286, R410): it captures a view and starts. -/
def execDigest (r : DescRef) (s : State) : Res :=
  .next (s.beginDesc r (· == 9) s.digestBad (fun d t =>
    (t.started d).modDesc d.ring d.index (fun x => { x with view := t.viewNow })))

/-- DIGEST_DONE (R262, R325, R410). -/
def execDigestDone (r : DescRef) (s : State) : Res :=
  match s.running? r 9 with
  | none => .next s
  | some d =>
    let a := d.field 8 8
    let n := d.field 16 8
    if s.digestBad d then .next (s.endDesc d stIllegal)
    else
      let s1 := s.demand (some d.view) a n false none
      match s.badRead (some d.view) a n with
      | [] =>
        let h := digest (s.devRead (some d.view) a n) (BitVec.ofNat 128 (d.field 24 16))
        let miss := bitOf (d.field 56 1) 0 && h.toNat != d.field 40 16
        .next (s1.finishDesc d.ring d.index
          { status := if miss then stDigest else stOk, r0 := h.toNat % 2 ^ 64, r1 := h.toNat / 2 ^ 64 })
      | l => .next ((s1.memUEs 2 l).endDesc d stMemUE)

/-- QUIESCE (R316): QMODE 0 stops frame-slot starts and pool dispatch. (DEDUCED, log 83) -/
def execQuiesce (r : DescRef) (s : State) : Res :=
  match s.desc r.ring.val r.index with
  | none => .next s
  | some d =>
    if d.field 8 1 = 1 then .next s
    else .next (s.beginDesc r (· == 10) (fun d => 1 < d.field 8 1) (fun d t =>
      (t.started d).modPart d.func (fun p => { p with quiesced := true })))

/-- QUIESCE_COMPLETE (R316): none of the function's runs is in progress. -/
def execQuiesceComplete (r : DescRef) (s : State) : Res :=
  match s.running? r 10 with
  | none => .next s
  | some d => if (s.running d.func).isEmpty then .next (s.endDesc d stOk) else .next s

/-- RESUME (R316): QUIESCE with QMODE 1. -/
def execResume (r : DescRef) (s : State) : Res :=
  match s.desc r.ring.val r.index with
  | none => .next s
  | some d =>
    if d.field 8 1 ≠ 1 then .next s
    else .next (s.beginDesc r (· == 10) (fun _ => false) (fun d t =>
      (t.modPart d.func (fun p => { p with quiesced := false })).endDesc d stOk))

/-- A ring number of a descriptor names a ring of its function (R303, R315). -/
def State.ringNamed (s : State) (f w : Nat) : Bool := w < 1048576 && s.inRange f w

/-- An EVENT_WAIT is refused (R315, R316). -/
def State.waitBad (s : State) (d : Desc) : Bool :=
  let c := d.field 8 1
  2 < c || (c == 0 && (d.field 16 8 % 4 != 0 || !s.owns d.func (d.field 16 8) 4))
    || (c == 1 && !s.ringNamed d.func (d.field 12 4))
    || (c == 2 && (15 < d.field 9 1 || (s.mport (d.field 9 1)).mode != .media || !(s.mport (d.field 9 1)).ptpEn))

/-- EVENT_WAIT (R316). -/
def execEventWait (r : DescRef) (s : State) : Res := .next (s.beginDesc r (· == 12) s.waitBad (fun d t => t.started d))

/-- A time base has lock: it is LOCKED or in HOLDOVER (R316, R356). -/
def MPort.hasTime (p : MPort) : Bool := p.mode == .media && p.ptpEn && (p.state == .locked || p.state == .holdover)

/-- The condition of an EVENT_WAIT holds (R316). -/
def State.waitHolds (s : State) (d : Desc) : Bool :=
  let v := d.field 24 8
  let met (w : W32) : Bool := 0 ≤ sdiff32 w (BitVec.ofNat 32 v)
  match d.field 8 1 with
  | 0 => met (BitVec.ofNat 32 (leNat (s.devRead none (d.field 16 8) 4)))
  | 1 => met (s.ring (s.absRing d.func (d.field 12 4))).cprod
  | _ => (s.mport (d.field 9 1)).hasTime && (v : Int) ≤ s.ptpTime (d.field 9 1)

/-- The condition of an EVENT_WAIT is evaluated (R262, R264, R316): a word in an uncorrectable line ends the wait. (DEDUCED, log 80) -/
def State.evalWait (s : State) (d : Desc) (yes no : State → State) : State :=
  if d.field 8 1 = 0 then
    let s1 := s.demand none (d.field 16 8) 4 false none
    match s.badRead none (d.field 16 8) 4 with
    | [] => if s.waitHolds d then yes s1 else no s1
    | l => (s1.memUEs 8 l).endDesc d stMemUE
  else if s.waitHolds d then yes s else no s

/-- EVENT_WAIT_CHECK (R262, R316): it completes with OK when its condition holds. -/
def execEventWaitCheck (r : DescRef) (s : State) : Res :=
  match s.running? r 12 with
  | none => .next s
  | some d => .next (s.evalWait d (fun t => t.endDesc d stOk) id)

/-- EVENT_WAIT_DEADLINE (R262, R316): DEADLINE has passed and the condition does not hold. -/
def execEventWaitDeadline (r : DescRef) (s : State) : Res :=
  match s.running? r 12 with
  | none => .next s
  | some d =>
    if d.field 32 8 ≠ 0 ∧ d.field 32 8 < s.now then .next (s.evalWait d id (fun t => t.endDesc d stDeadline)) else .next s

/-- TIMESTAMP (R316, R325). -/
def execTimestamp (r : DescRef) (s : State) : Res :=
  .next (s.beginDesc r (· == 13) (fun d => 15 < d.field 8 1 && d.field 8 1 < 255) (fun d t =>
    let p := d.field 8 1
    t.finishDesc d.ring d.index
      { status := stOk, r0 := if p < 16 && (t.mport p).hasTime then ((t.ptpTime p) % (2 ^ 64 : Int)).toNat else 0, r1 := t.now }))

end Sys2Proof.Machine
end

