-- ==== Sys2Proof/Machine/Fold.lean ====
section
/-! DEFINITION. Fold nodes: segment buffers, the node's addition, and the return of credits (R227 to R239). -/
namespace Sys2Proof.Machine

/-- The sum of two elements and its flags (R85, R227). -/
def foldAdd (int32 : Bool) (a b : Nat) : Nat × ArithFlags :=
  if int32 then
    let c := clampInt 32 (signedOf 32 a + signedOf 32 b)
    (c.1, if c.2 then flSaturate else 0)
  else Fmt.fp32.result ((Fmt.fp32.decode a).add (Fmt.fp32.decode b))

/-- Element k of a term, where the term is long enough to have it. (DEDUCED, log 57) -/
def termElem (t : Option (List W8)) (k : Nat) : Option Nat :=
  match t with
  | some l => if 4 * k + 4 ≤ l.length then some (leNat ((l.drop (4 * k)).take 4)) else none
  | none => none

/-- Add a term to a sum so far; an absent term is left out (R227). -/
def addTerm (int32 : Bool) (s : Option (Nat × ArithFlags)) (t : Option Nat) : Option (Nat × ArithFlags) :=
  match s, t with
  | none, none => none
  | none, some b => some (b, 0)
  | some a, none => some a
  | some a, some b =>
    let r := foldAdd int32 a.1 b
    some (r.1, a.2 ||| r.2)

/-- node_sum of one element: c0, then c1, then the local term (R227). -/
def nodeSum (int32 : Bool) (c0 c1 loc : Option Nat) : Option (Nat × ArithFlags) :=
  addTerm int32 (addTerm int32 (addTerm int32 none c0) c1) loc

/-- The sum of a segment buffer and the flags of its additions (R227). -/
def SegBuf.sum (b : SegBuf) (int32 : Bool) : List W8 × ArithFlags :=
  let es := (List.range 64).filterMap (fun k =>
    nodeSum int32 (termElem (b.c0.map Prod.fst) k) (termElem (b.c1.map Prod.fst) k) (termElem b.loc k))
  (es.flatMap (fun e => leBytes 4 e.1), orFlags (es.map Prod.snd))

/-- The flags that a buffer's children brought (R229). -/
def SegBuf.brought (b : SegBuf) : ArithFlags :=
  (match b.c0 with | some x => x.2 | none => 0) ||| (match b.c1 with | some x => x.2 | none => 0)

/-- Every term that the node is configured to receive is present (R228). -/
def SegBuf.complete (b : SegBuf) (n : FoldNode) : Bool :=
  (n.child0 == 7 || b.c0.isSome) && (n.child1 == 7 || b.c1.isSome) && (!n.locl || b.loc.isSome)

/-- A segment buffer of a node. -/
def SegBuf.isFor (b : SegBuf) (i f tree : Nat) (round : Bool) (seg : Nat) : Bool :=
  b.site == i && b.func == f && b.tree == tree && b.round == round && b.seg == seg

/-- The inputs of a node: child 0, child 1, the node's own cluster (R225). -/
inductive FoldIn where
  | child0 | child1 | own
  deriving DecidableEq, Repr

/-- The input by which a term from a site reaches a node. -/
def FoldNode.input (n : FoldNode) (src : Nat) : Option FoldIn :=
  if src = n.site then (if n.locl then some .own else none)
  else if (portDir n.child0).bind (neighbour n.site) = some src then some .child0
  else if (portDir n.child1).bind (neighbour n.site) = some src then some .child1
  else none

/-- The key of a sender's credits for a tree (R231): a child node's towards its parent, or a cluster's at its own node. -/
def foldKey (i f tree : Nat) (own : Bool) : Nat := 2 * ((i * 64 + f) * 1024 + tree) + own.toNat

/-- Segments that a sender has sent and whose buffers' credits have not come back. -/
def State.foldUsed (s : State) (i f tree : Nat) (own : Bool) : Nat := Tab.get 0 s.fab.foldHeld (foldKey i f tree own)

/-- Change the count of credits in use. -/
def State.setFoldUsed (s : State) (i f tree : Nat) (own : Bool) (n : Nat) : State :=
  s.modFab (fun b => { b with foldHeld := Tab.put 0 b.foldHeld (foldKey i f tree own) n })

/-- The part of a buffer that an input fills is free. -/
def SegBuf.partFree (b : SegBuf) : FoldIn → Bool
  | .child0 => b.c0.isNone
  | .child1 => b.c1.isNone
  | .own => b.loc.isNone

/-- Fill a part of a buffer from a packet. -/
def SegBuf.fill (b : SegBuf) (x : FoldIn) (p : Packet) : SegBuf :=
  match x with
  | .child0 => { b with c0 := some (p.payload, p.foldFlags) }
  | .child1 => { b with c1 := some (p.payload, p.foldFlags) }
  | .own => { b with loc := some p.payload }

/-- Put a term into its buffer: the one that holds its segment, or a free one (R231). -/
def State.foldStore (s : State) (i : Nat) (t : FoldTree) (x : FoldIn) (p : Packet) : Option State :=
  let mine (b : SegBuf) : Bool := b.isFor i p.func p.foldTree p.foldRound p.foldSeg
  match s.fab.segs.find? mine with
  | some b =>
    if b.partFree x then
      some (s.modFab (fun f => { f with segs := f.segs.map (fun c => if mine c then c.fill x p else c) }))
    else none
  | none =>
    if (s.fab.segs.filter (fun b => b.site == i && b.func == p.func && b.tree == p.foldTree)).length < t.bufs then
      let b : SegBuf := { site := i, func := p.func, tree := p.foldTree, round := p.foldRound, seg := p.foldSeg }
      some (s.modFab (fun f => { f with segs := f.segs ++ [b.fill x p] }))
    else none

/-- A FOLD packet is discarded and counted (R236, R238, R239). -/
def State.foldDiscard (s : State) (p : Packet) : State := (s.removePacket p).bump offFoldDiscard 1

/-- A FOLD packet has no tree to go to: none of that number is declared, or it is broken, or of another epoch (R236, R238, R239). -/
def State.foldStray (s : State) (p : Packet) : Bool :=
  match s.treeOf p.func p.foldTree with
  | none => true
  | some (_, t) => t.broken || t.epoch != p.epoch

/-- FOLD (R231, R233, R236, R238, R239): a packet without a tree is discarded wherever it is; any other is accepted into a buffer at its
node; a cluster's own term needs a credit of
the node, and its acceptance answers the transfer. (DEDUCED, log 59) -/
def execFold (id : Nat) (s : State) : Res :=
  match s.arrived id .fold with
  | none => (match s.packet id with
    | some p => if p.typ = .fold ∧ s.foldStray p then .next (s.foldDiscard p) else .next s
    | none => .next s)
  | some (p, i) =>
    match s.treeOf p.func p.foldTree with
    | none => .next (s.foldDiscard p)
    | some (_, t) =>
      if t.broken || t.epoch != p.epoch then .next (s.foldDiscard p)
      else if !s.routing i then .next s
      else
        match t.node i with
        | none => .next (s.foldDiscard p)
        | some n =>
          match n.input p.src with
          | none => .next (s.foldDiscard p)
          | some x =>
            if x = .own ∧ t.bufs ≤ s.foldUsed i p.func p.foldTree true then .next s
            else
              match s.foldStore i t x p with
              | none => .next s
              | some s1 =>
                let s2 := s1.removePacket p
                if x = .own then
                  .next ((s2.setFoldUsed i p.func p.foldTree true (s.foldUsed i p.func p.foldTree true + 1)).both i
                    (fun c => c.answer p s.now))
                else .next s2

/-- Free a buffer: its credits go out over the control network to the inputs that the node has (R231). -/
def State.freeSeg (s : State) (n : FoldNode) (f tree : Nat) (b : SegBuf) : State :=
  let child (k : Nat) : List (Nat × Nat × Nat × Nat × Nat) :=
    match (portDir k).bind (neighbour n.site) with
    | some j => [(j, f, tree, 0, n.site)]
    | none => []
  s.modFab (fun x => { x with segs := x.segs.filter (· != b),
                              foldCredits := x.foldCredits ++ child n.child0 ++ child n.child1
                                ++ if n.locl then [(n.site, f, tree, 1, n.site)] else [] })

/-- Segments of a round (R230). -/
def FoldTree.segments (t : FoldTree) : Nat := (t.total + 255) / 256

/-- A segment is the last of its round that the root writes (R234). -/
def FoldTree.isLast (t : FoldTree) (b : SegBuf) : Bool :=
  t.segments ≤ (t.written.filter (fun e => e.1 == b.round && e.2 != b.seg)).length + 1

/-- The root writes a segment and, with the round's last, sends the round token (R229, R234). (DEDUCED, log 58) -/
def State.foldRoot (s : State) (f c : Nat) (t : FoldTree) (n : FoldNode) (b : SegBuf) : State :=
  let w := b.sum t.int32
  let fl := b.brought ||| w.2
  let last := t.isLast b
  let s1 := s.both n.site (fun c =>
    let c1 := ((c.spWrite (t.dest + 256 * b.seg) w.1).tagGlen (t.dest + 256 * b.seg) w.1.length 32).modCore t.rcore
      (fun k => { k with flags := k.flags ||| fl })
    if last then { c1.enqueue t.doneq t.tag with wdog := 0 } else c1)
  (s1.modCfg f c (fun k => { k with trees := k.trees.map (fun x => if x.tree = t.tree then
    { x with written := if last then x.written.filter (fun e => e.1 != b.round)
                        else (b.round, b.seg) :: x.written.filter (· != (b.round, b.seg)) } else x) })).freeSeg n f t.tree b

/-- The node sends the sum of a buffer to its parent (R229 to R231). -/
def State.foldUp (s : State) (f : Nat) (t : FoldTree) (n : FoldNode) (b : SegBuf) : State :=
  let w := b.sum t.int32
  let p : Packet :=
    { dx := siteX t.root, dy := siteY t.root, sx := siteX n.site, sy := siteY n.site, typ := .fold, vc := 3, func := f,
      epoch := t.epoch, seq := BitVec.ofNat 16 b.seg, arg := foldArg t.tree b.round (b.brought ||| w.2) b.seg,
      payload := w.1, pos := .source n.site none }
  ((s.setFoldUsed n.site f t.tree false (s.foldUsed n.site f t.tree false + 1)).inject p).freeSeg n f t.tree b

/-- FOLD_SEGMENT_SUM (R227 to R231, R234): with every term present, the node adds the segment and sends the sum to its parent
once it holds a credit, or the root writes it once it can; the last of a round needs room for the round token. -/
def execFoldSegmentSum (x : Site) (f : Func) (tree : Fin 1024) (round : Bool) (seg : Fin 65536) (s : State) : Res :=
  let i := Site.idx x
  match s.fab.segs.find? (fun b => b.isFor i f.val tree.val round seg.val), s.treeOf f.val tree.val with
  | some b, some (c, t) =>
    (match t.node i with
    | none => .next s
    | some n =>
      if !b.complete n || t.broken || !s.routing i then .next s
      else if n.parent = 4 then
        if (s.clu i).heldAt (t.dest + 256 * b.seg) 256 || (t.isLast b && ((s.clu i).getQueue t.doneq).room == 0) then .next s
        else .next (s.foldRoot f.val c t n b)
      else if t.bufs ≤ s.foldUsed i f.val tree.val false then .next s
      else .next (s.foldUp f.val t n b))
  | _, _ => .next s

/-- FOLD_CREDIT_RECEIVE (R218, R231): a credit that is not held reaches a child node or a contributing cluster. -/
def execFoldCreditReceive (x : Site) (f : Func) (tree : Fin 1024) (s : State) : Res :=
  let mine (e : Nat × Nat × Nat × Nat × Nat) : Bool :=
    e.1 == Site.idx x && e.2.1 == f.val && e.2.2.1 == tree.val && !s.creditHeld e.2.2.2.2 e.1
  match s.fab.foldCredits.find? mine with
  | none => .next s
  | some e =>
    let own := e.2.2.2.1 == 1
    let s1 := s.modFab (fun b => { b with foldCredits := dropFirst (· == e) b.foldCredits })
    .next (s1.setFoldUsed e.1 f.val tree.val own (s.foldUsed e.1 f.val tree.val own - 1))

end Sys2Proof.Machine
end

