-- ==== Sys2Proof/Machine/Timetable.lean ====
section
/-! DEFINITION. Timetable mode: injection entries, forwarding, and the start of a period (R240 to R248). -/
namespace Sys2Proof.Machine

/-- The timetable entries that a router holds (R241). -/
def State.entriesAt (s : State) (i : Nat) : List TTEntry := s.fab.entries.filter (fun e => e.site == i)

/-- The period counter of a router for a configuration (R244). -/
def periodKey (i key : Nat) : Nat := i * 16384 + key

/-- An entry's cycle comes: its repetition passes, and the router's period counter stands there (R244, R245). -/
def State.passEntry (s : State) (e : TTEntry) : State :=
  s.modFab (fun f =>
    { f with entries := f.entries.map (fun x => if x = e then { x with passed := x.passed + 1 } else x),
             period := Tab.put 0 f.period (periodKey e.site e.key)
               (max (Tab.get 0 f.period (periodKey e.site e.key)) (e.start + e.passed * e.stride)) })

/-- The repetitions of an entry before repetition k have passed without a packet. -/
def State.skipTo (s : State) (e : TTEntry) (k : Nat) : State :=
  s.modFab (fun f => { f with entries := f.entries.map (fun x => if x = e then { x with passed := k } else x) })

/-- The period counters of a configuration start from 0 (R244); its packets still on their paths are lost (R248). (DESIGN CHOICE, log 64) -/
def State.startPeriod (s : State) (f c : Nat) : State :=
  let s1 := s.dropTT (cfgKey f c)
  s1.modFab (fun b =>
    { b with entries := b.entries.map (fun x => if x.key = cfgKey f c then { x with passed := 0 } else x),
             period := Tab.drop (fun k => k % 16384 == cfgKey f c) b.period })

/-- A stream of a configuration by its key and number. (DESIGN CHOICE, log 175) -/
def State.streamOf (s : State) (key n : Nat) : Option TTStream :=
  (s.cfg (key / 256) (key % 256)).streams.find? (fun t => t.stream == n)

/-- The cycle of an entry's next repetition. -/
def TTEntry.nextAt (e : TTEntry) : Nat := e.start + e.passed * e.stride

/-- The entry has a repetition left before the router's period counter stops at the timetable length (R244). -/
def State.entryOpen (s : State) (e : TTEntry) : Bool :=
  e.passed < e.count && e.nextAt < (s.cfg (e.key / 256) (e.key % 256)).ttlen && s.routing e.site

/-- Where an entry's output leads (R241). -/
def TTEntry.leads (e : TTEntry) : Option Pos :=
  if e.out = 4 then some (.delivered e.site)
  else
    match portDir e.out with
    | some d => (neighbour e.site d).map (fun j => Pos.wire j (opposite d) (portDir e.inp))
    | none => none

/-- The TT_DATA packet that a token stream has ready (R240, R242, R246): up to 8 credited tokens. (DEDUCED, log 61) -/
def State.ttTokens (s : State) (e : TTEntry) (t : TTStream) (f : Nat) : Option (Packet × Nat) :=
  let c := s.clu t.src
  let q := c.getQueue t.sq
  let n := min 8 (min q.toks.length q.credits)
  match s.remoteOf t.src q with
  | some j =>
    if n = 0 then none
    else some ({ dx := siteX j, dy := siteY j, sx := siteX t.src, sy := siteY t.src, typ := .ttData, vc := 1, func := f,
                 epoch := c.epoch, seq := q.seq, arg := 2 ^ 38 * t.stream + q.rq.toNat, payload := tokenBytes (q.toks.take n),
                 key := e.key, pos := .router e.site none }, n)
  | none => none

/-- The slot and first waiting packet of a PUT that a stream carries. -/
def Cluster.ttPacket (c : Cluster) (n : Nat) : Option (Nat × Packet) :=
  c.slot.findSome? (fun e => match e.2 with
    | some x => match x.tt with
      | p :: _ => if p.arg / 2 ^ 38 = n then some (e.1, p) else none
      | [] => none
    | none => none)

/-- The waiting packet of a slot has left: it counts as issued (R204). -/
def Cluster.ttSent (c : Cluster) (k : Nat) : Cluster :=
  c.setSlot k ((c.getSlot k).map (fun x => { x with tt := x.tt.drop 1, issue := x.issue + 1 }))

/-- A packet of TT_DATA reaches its destination cluster (R240, R242, R245): its tokens are stored, or its write is performed and
acknowledged. -/
def State.ttDeliver (s : State) (i : Nat) (p : Packet) : State :=
  match s.streamOf p.key (p.arg / 2 ^ 38) with
  | some t => if t.put then s.putReach i p (p.arg % 2 ^ 21) else s.tokenArrive i p
  | none => s.discardAt i p

/-- A packet of TT_DATA takes the hop of an entry, in the cycle of its next repetition (R245). -/
def State.ttHop (s : State) (e : TTEntry) (p : Packet) : State :=
  let q := { p with cyc := e.nextAt }
  let s1 := s.passEntry e
  match e.leads with
  | none => s
  | some (.wire j d prev) => s1.sendWire q j d prev
  | some pos =>
    let r := { q with pos := pos }
    (s1.movePacket p r).ttDeliver e.site r

/-- A TT_DATA packet enters the mesh at an injection entry and takes its hop. -/
def State.ttInject (s : State) (e : TTEntry) (p : Packet) : State :=
  (s.enterMesh p).ttHop e { p with id := s.fab.nextId }

/-- The link of an entry's output is up, or it has none. -/
def State.entryLink (s : State) (e : TTEntry) : Bool :=
  match portDir e.out with
  | some d => s.linkUp e.site d
  | none => true

/-- TT_INJECTION_ENTRY (R240, R242, R246): at an injection entry's cycle the source sends, or the entry slips. (DESIGN CHOICE, log 173) -/
def execTtInjectionEntry (x : Site) (entry : Fin 512) (s : State) : Res :=
  match (s.entriesAt (Site.idx x))[entry.val]? with
  | none => .next s
  | some e =>
    if e.inp != 4 || !s.entryOpen e || !s.entryLink e || e.leads.isNone then .next s
    else
      match s.streamOf e.key e.stream with
      | none => .next s
      | some t =>
        let slip := (s.passEntry e).bump (offTtSlip (fieldOf e.site)) 1
        if !s.clocked t.src || (s.clu t.src).resetting then .next slip
        else if t.put then
          match (s.clu t.src).ttPacket t.stream with
          | some (k, p) =>
            if p.flits ≤ e.flits then
              .next ((s.fire t.src (fun c => c.ttSent k)).ttInject e { p with key := e.key, pos := .router e.site none })
            else .next slip
          | none => .next slip
        else
          match s.ttTokens e t (e.key / 256) with
          | some (p, n) => .next ((s.fire t.src (fun c => c.modQueue t.sq (fun q => q.sendOut n))).ttInject e p)
          | none => .next slip

/-- The code of an input port (R241). -/
def inCode : Option Dir → Nat
  | some .north => 0
  | some .east => 1
  | some .south => 2
  | some .west => 3
  | none => 4

/-- The start cycles of an entry's repetitions. -/
def TTEntry.starts (e : TTEntry) : List Nat := (List.range e.count).map (fun k => e.start + k * e.stride)

/-- The entries that receive what an entry's router takes on an input, and those that send to that input. -/
def receivers (l : List TTEntry) (key stream i inp : Nat) : List TTEntry :=
  l.filter (fun e => e.key == key && e.stream == stream && e.site == i && e.inp == inp)
def senders (l : List TTEntry) (key stream i inp : Nat) : List TTEntry :=
  match portDir inp with
  | some d => l.filter (fun e => e.key == key && e.stream == stream && some e.site == neighbour i d && portDir e.out == some (opposite d))
  | none => []

/-- The repetition of an entry that a packet takes: in a field, the one 3 cycles after the packet left the router before; across a
seam, the one that stands as far in the order of those that receive as the packet's stands in the order of those that send (R243,
R245). (DEDUCED, log 167) -/
def State.takesRep (s : State) (e : TTEntry) (p : Packet) : Option Nat :=
  let l := s.fab.entries
  let before (es : List TTEntry) (t : Nat) : Nat := (es.flatMap TTEntry.starts).countP (· < t)
  (List.range e.count).find? (fun k => e.passed ≤ k &&
    (match portDir e.inp with
    | none => true
    | some d =>
      if (neighbour e.site d).map fieldOf = some (fieldOf e.site) then e.start + k * e.stride == p.cyc + 3
      else before (receivers l e.key e.stream e.site e.inp) (e.start + k * e.stride)
        == before (senders l e.key e.stream e.site e.inp) p.cyc))

/-- The entry, and its repetition, by which a packet of TT_DATA leaves router i (R245). -/
def State.ttEntry (s : State) (p : Packet) (i : Nat) (inp : Option Dir) : Option (TTEntry × Nat) :=
  (receivers s.fab.entries p.key (p.arg / 2 ^ 38) i (inCode inp)).findSome? (fun e =>
    match s.takesRep e p with
    | some k => if s.entryOpen { e with passed := k } && s.entryLink e then some (e, k) else none
    | none => none)

/-- TT_FORWARD (R245): a TT_DATA packet leaves a router by its entry, or is delivered. -/
def execTtForward (id : Nat) (s : State) : Res :=
  match s.packet id with
  | none => .next s
  | some p =>
    if p.typ ≠ .ttData then .next s
    else
      match p.pos with
      | .delivered i => .next (s.ttDeliver i p)
      | .router i inp =>
        match s.ttEntry p i inp with
        | some (e, k) => .next ((s.skipTo e k).ttHop { e with passed := k } p)
        | none => .next s
      | _ => .next s

end Sys2Proof.Machine
end

