-- ==== Sys2Proof/Machine/Image.lean ====
section
/-! DEFINITION. Configuration images: the parts of an image, and the checks of CONFIG_LOAD (R12, R95 to R97, R147 to R149, R220,
R225, R226, R240 to R243, R317, R320, R403, R535). -/
namespace Sys2Proof.Machine

/-- A little-endian number in bytes. -/
def rd (b : List W8) (off n : Nat) : Nat := leNat ((b.drop off).take n)

/-- Bytes of a part are all zero. -/
def zeros (b : List W8) (off n : Nat) : Bool := rd b off n == 0

/-- Round up to a multiple of 64. -/
def pad64 (n : Nat) : Nat := (n + 63) / 64 * 64

/-! ### Instruction words -/

/-- Bits [hi:lo] of a word are zero. -/
def clear (w hi lo : Nat) : Bool := bits w hi lo == 0

/-- A word that R97 accepts: its opcode, function and condition codes are not reserved, and every field that R95, R96 and R535
make reserved is zero. -/
def wordOk (w : Nat) : Bool :=
  match bits w 31 26 with
  | 0x01 => bits w 3 0 ≤ 10 && clear w 13 4
  | 0x02 => true
  | 0x03 => true
  | 0x04 => true
  | 0x05 => true
  | 0x06 => clear w 21 18
  | 0x07 => true
  | 0x08 => true
  | 0x09 => true
  | 0x0C => bits w 25 23 ≤ 6 && (bits w 25 23 != 6 || clear w 22 15)
  | 0x0D => clear w 25 0
  | 0x0E => clear w 25 0
  | 0x10 => clear w 18 0
  | 0x11 => clear w 18 0
  | 0x12 => clear w 18 0
  | 0x14 => clear w 21 19 && clear w 16 16
  | 0x15 => clear w 21 19 && clear w 16 16
  | 0x16 => clear w 21 19 && clear w 16 0
  | 0x18 => clear w 10 0 && (if bitOf w 11 then clear w 25 16 else clear w 15 12)
  | 0x19 => clear w 21 0
  | 0x1A => clear w 15 0
  | 0x1B => clear w 25 0
  | 0x1C => clear w 21 0
  | 0x20 => clear w 4 0
  | 0x21 => clear w 4 0
  | 0x22 => clear w 4 0
  | 0x23 => clear w 25 18 && clear w 5 0
  | 0x28 => bits w 8 4 ≤ 11 && clear w 3 0 && (!(6 ≤ bits w 8 4 && bits w 8 4 ≤ 8) || clear w 17 14)
  | 0x29 => clear w 1 0
  | 0x2B => clear w 21 18 && clear w 4 0
  | _ => false

/-! ### Cluster sections -/

/-- Core n is loaded by a section (R147). -/
def secLoads (b : List W8) (n : Nat) : Bool := bitOf (rd b 4 2) n

/-- IWORDS and DBYTES of a core. -/
def secIwords (b : List W8) (n : Nat) : Nat := rd b (2592 + 8 * n) 4
def secDbytes (b : List W8) (n : Nat) : Nat := rd b (2596 + 8 * n) 4

/-- Bytes of the BODY that come before core n. -/
def secBodyBefore (b : List W8) (n : Nat) : Nat :=
  ((List.range n).map (fun m => if secLoads b m then pad64 (4 * secIwords b m) + pad64 (secDbytes b m) else 0)).sum

/-- Offset of core n's instruction words, and of its local data. -/
def secCode (b : List W8) (n : Nat) : Nat := 2720 + secBodyBefore b n
def secData (b : List W8) (n : Nat) : Nat := secCode b n + pad64 (4 * secIwords b n)

/-- Length of a section. -/
def secLen (b : List W8) : Nat := 2720 + secBodyBefore b 16

/-- Instruction word i of a loaded core; words beyond IWORDS are zero. -/
def secWord (b : List W8) (n i : Nat) : Nat := if i < secIwords b n then rd b (secCode b n + 4 * i) 4 else 0

/-- A queue entry (R147). -/
def secQueue (b : List W8) (q : Nat) : List W8 := (b.drop (32 + 8 * q)).take 8

/-- CAP, PROD and CONS of a queue. -/
def secCap (b : List W8) (q : Nat) : Nat := rd b (32 + 8 * q) 1
def secProd (b : List W8) (q : Nat) : Nat := rd b (33 + 8 * q) 1
def secCons (b : List W8) (q : Nat) : Nat := rd b (34 + 8 * q) 1

/-- PORT byte p of core n. -/
def secPort (b : List W8) (n p : Nat) : Nat := rd b (1056 + 96 * n + 80 + p) 1

/-- KIND and MODE of a steering unit. -/
def secKind (b : List W8) (u : Nat) : Nat := rd b (8 + 4 * u) 1
def secMode (b : List W8) (u : Nat) : Nat := rd b (9 + 4 * u) 1

/-- Producer and consumer endpoint codes that are not reserved (R143). -/
def prodOk (c : Nat) : Bool := c < 0x80 || c == 0xA0 || c == 0xA1 || (c < 0xA0 && (c % 8 == 4 || c % 8 == 5))
def consOk (c : Nat) : Bool := c < 0x80 || c == 0xA0 || (c < 0xA0 && c % 8 ≤ 2)

/-- The ports that a kind of steering unit uses (R149). -/
def kindPorts (kind : Nat) : List Nat :=
  if kind = 1 then [0, 1, 4, 5] else if kind = 2 then [0, 1, 2, 4] else if kind = 3 then [0, 1, 4]
  else if kind = 4 then [0, 1, 2, 4, 5] else []

/-- A queue entry breaks R143, R147 or R148 by itself. -/
def queueBad (b : List W8) (q : Nat) : Bool :=
  let e := secQueue b q
  let cap := byteAt e 0
  let p := byteAt e 1
  let c := byteAt e 2
  if cap = 0 then !zeros e 1 7
  else
    32 < cap || !prodOk p || !consOk c || (p == 0xA0 && c == 0xA0)
      || (if c = 0xA0 then !(byteAt e 3 == 1 || byteAt e 3 == 2) else byteAt e 3 != 0)
      || (p != 0xA0 && c != 0xA0 && !zeros e 4 2) || (if c = 0xA0 then 127 < byteAt e 6 else byteAt e 6 != 0) || byteAt e 7 != 0

/-- The endpoint codes that the used queues of a section name, each once a queue, the shared ones 0xA0 and 0xA1 apart. (DEDUCED, log 87) -/
def namedEnds (b : List W8) : List Nat :=
  (List.range 128).flatMap (fun q =>
    if secCap b q = 0 then [] else [secProd b q, secCons b q].eraseDups.filter (fun c => c != 0xA0 && c != 0xA1))

/-- No value occurs twice. -/
def distinct : List Nat → Bool
  | [] => true
  | x :: l => !l.contains x && distinct l

/-- A steering unit's record and bindings break R148 or R149. -/
def steerBad (b : List W8) (ends : List Nat) (u : Nat) : Bool :=
  let k := secKind b u
  4 < k || (if k = 3 then 1 < secMode b u else secMode b u != 0) || !zeros b (10 + 4 * u) 2
    || (List.range 8).any (fun p => ends.contains (steerCode u p) != (kindPorts k).contains p)

/-- The queue of a PORT byte, when it is bound. -/
def portQueueOf (v : Nat) : Option Nat := if 128 ≤ v then some (v - 128) else none

/-- A PORT byte breaks R148. -/
def portBad (b : List W8) (n p : Nat) : Bool :=
  let v := secPort b n p
  match portQueueOf v with
  | some q => !(secCap b q != 0 && (secProd b q == 8 * n + p || secCons b q == 8 * n + p))
  | none => v != 0

/-- The capacity of the queue that makes port p of core n an input, or an output. -/
def inputCap (b : List W8) (n p : Nat) : Option Nat :=
  match portQueueOf (secPort b n p) with
  | some q => if secCons b q = 8 * n + p then some (secCap b q) else none
  | none => none
def outputCap (b : List W8) (n p : Nat) : Option Nat :=
  match portQueueOf (secPort b n p) with
  | some q => if secProd b q = 8 * n + p then some (secCap b q) else none
  | none => none

/-- A block-table entry breaks R97. -/
def blockBad (b : List W8) (n e : Nat) : Bool :=
  let w0 := secWord b n (2 * e)
  let w1 := secWord b n (2 * e + 1)
  let depth := bits w1 11 10 + 1
  let names (cap : Option Nat) : Bool := match cap with
    | some c => c < depth
    | none => true
  !clear w0 30 28 || !clear w1 31 12 || !clear w1 9 8 || (bitOf w0 31 && decide (bits w0 27 16 < 64))
    || (List.range 8).any (fun p => (bitOf w0 (8 + p) && names (inputCap b n p)) || (bitOf w0 p && names (outputCap b n p)))

/-- A loaded core of a section breaks R97, R148 or R220; `bars` are the barrier indices declared for it. -/
def coreBad (b : List W8) (n : Nat) (bars : List Nat) : Bool :=
  secIwords b n < 64 || 4096 < secIwords b n || secDbytes b n % 4 != 0 || 65536 < secDbytes b n
    || !zeros b (1056 + 96 * n) 4 || !zeros b (1056 + 96 * n + 88) 8
    || (List.range 8).any (portBad b n)
    || (List.range 32).any (blockBad b n) || !(List.range 32).any (fun e => bitOf (secWord b n (2 * e)) 31)
    || (fromTo 64 (secIwords b n - 64)).any (fun i =>
        let w := secWord b n i
        w != 0 && (!wordOk w || (bits w 31 26 == 0x1A && !bars.contains (bits w 25 16))))

/-- A section breaks R97, R148 or R220 by itself; `bars n` are the barriers declared for core n. -/
def sectionBad (b : List W8) (bars : Nat → List Nat) : Bool :=
  let ends := namedEnds b
  b.length < 2720 || b.length < secLen b
    || !(rd b 2 1 == 0 || (12 ≤ rd b 2 1 && rd b 2 1 ≤ 30)) || !zeros b 3 1 || !zeros b 6 2 || !zeros b 24 8
    || (List.range 128).any (queueBad b) || 1024 < ((List.range 128).map (secCap b)).sum
    || !distinct ends || (List.range 4).any (steerBad b ends)
    || (List.range 16).any (fun n =>
        if secLoads b n then coreBad b n (bars n) else !zeros b (1056 + 96 * n) 96 || !zeros b (2592 + 8 * n) 8)

/-! ### Whole images -/

/-- The parts of an image that lie in its header (R320). -/
structure Image where
  bytes : List W8
  frame : Bool
  ncl : Nat
  offPlace : Nat
  offBar : Nat
  nbar : Nat
  ntree : Nat
  offTree : Nat
  offTT : Nat
  nstream : Nat
  nentry : Nat
  ttlen : Nat
  ttslow : W64
  deriving DecidableEq, Repr

/-- Read the header of an image. -/
def imageOf (b : List W8) : Image :=
  { bytes := b, frame := bitOf (rd b 2 2) 0, ncl := rd b 4 4, offPlace := rd b 8 4, offBar := rd b 12 4, nbar := rd b 16 2,
    ntree := rd b 18 2, offTree := rd b 20 4, offTT := rd b 24 4, nstream := rd b 28 2, nentry := rd b 32 4, ttlen := rd b 36 4,
    ttslow := BitVec.ofNat 64 (rd b 40 8) }

/-- Placement-map entry k: its bytes, wafer site and section offset (R320). -/
def Image.place (m : Image) (k : Nat) : List W8 := (m.bytes.drop (m.offPlace + 8 * k)).take 8
def Image.secOff (m : Image) (k : Nat) : Nat := rd (m.place k) 4 4

/-- The sections of an image with their sites (R147, R320). -/
def Image.sections (m : Image) : List Section :=
  (List.range m.ncl).map (fun k =>
    let b := m.bytes.drop (m.secOff k)
    { site := siteIdx (byteAt (m.place k) 0) (byteAt (m.place k) 1), bytes := b.take (secLen b), off := m.secOff k })

/-- The section at logical coordinates. -/
def sectionAt (l : List Section) (x y : Nat) : Option Section :=
  l.find? (fun s => byteAt s.bytes 0 == x && byteAt s.bytes 1 == y)

/-- The site at logical coordinates. -/
def logicalSite (l : List Section) (x y : Nat) : Option Nat := (sectionAt l x y).map Section.site

/-- Barrier declaration records: index and members (LX, LY, core mask), end to end (R320). The last argument bounds them. -/
def barRecords (b : List W8) : Nat → Nat → List (Nat × List (Nat × Nat × Nat))
  | _, 0 => []
  | off, k + 1 =>
    let n := rd b (off + 2) 2
    (rd b off 2, (List.range n).map (fun j => (rd b (off + 4 + 4 * j) 1, rd b (off + 5 + 4 * j) 1, rd b (off + 6 + 4 * j) 2)))
      :: barRecords b (off + 4 + 4 * n) k

/-- The end of the barrier declarations. -/
def barEnd (b : List W8) : Nat → Nat → Nat
  | off, 0 => off
  | off, k + 1 => barEnd b (off + 4 + 4 * rd b (off + 2) 2) k

/-- Tree records, end to end, each padded to a multiple of 8 (R225, R320). -/
def treeRecords (b : List W8) : Nat → Nat → List (List W8)
  | _, 0 => []
  | off, k + 1 =>
    let n := (24 + 4 * rd b (off + 20) 2 + 7) / 8 * 8
    (b.drop off).take n :: treeRecords b (off + n) k

/-- The end of the tree records. -/
def treeEnd (b : List W8) : Nat → Nat → Nat
  | off, 0 => off
  | off, k + 1 => treeEnd b (off + (24 + 4 * rd b (off + 20) 2 + 7) / 8 * 8) k

/-- Stream record k, and timetable entry record k (R240, R241, R320). -/
def Image.streamRec (m : Image) (k : Nat) : List W8 := (m.bytes.drop (m.offTT + 24 * k)).take 24
def Image.entryRec (m : Image) (k : Nat) : List W8 := (m.bytes.drop (m.offTT + 24 * m.nstream + 12 * k)).take 12

/-- The members of a barrier: every core of the masks, at the sites of a placement, twins included (R220, R403). -/
def barMembers (l : List Section) (twin : Nat → Option Nat) (ms : List (Nat × Nat × Nat)) : List (Nat × Nat) :=
  ms.flatMap (fun m =>
    match logicalSite l m.1 m.2.1 with
    | some i => ((List.range 16).filter (fun n => bitOf m.2.2 n)).flatMap (fun n =>
        (i, n) :: match twin i with | some j => [(j, n)] | none => [])
    | none => [])

/-- The barriers that an image declares, under a placement (R220). -/
def Image.barriers (m : Image) (key : Nat) (l : List Section) (twin : Nat → Option Nat) : List Barrier :=
  (barRecords m.bytes m.offBar m.nbar).map (fun r =>
    let ms := barMembers l twin r.2
    { key := key, index := r.1, wafer := !(ms.all (fun x => ms.all (fun y => fieldOf x.1 == fieldOf y.1))), members := ms })

/-- The router at the logical coordinates of a tree node (R225, R226): that of the section's cluster, or, where no section of the image
has those coordinates, the router at the same wafer coordinates. (DESIGN CHOICE, log 60) -/
def nodeSite (l : List Section) (x y : Nat) : Option Nat :=
  match logicalSite l x y with
  | some i => some i
  | none => if x < 160 ∧ y < 160 then some (siteIdx x y) else none

/-- The node of a tree record (R225). -/
def nodeOf (l : List Section) (b : List W8) (k : Nat) : Option FoldNode :=
  let o := 24 + 4 * k
  (nodeSite l (rd b o 1) (rd b (o + 1) 1)).map (fun i =>
    { site := i, parent := bits (rd b (o + 2) 1) 7 5, child0 := bits (rd b (o + 3) 1) 7 5, child1 := bits (rd b (o + 3) 1) 4 2,
      locl := bitOf (rd b (o + 3) 1) 1 })

/-- A tree record as a tree under a placement (R225); one whose root is at no section's coordinates, or a node of which is off the wafer,
gives none. -/
def treeOfRec (l : List Section) (b : List W8) : Option FoldTree :=
  let n := rd b 20 2
  let nodes := (List.range n).filterMap (nodeOf l b)
  match logicalSite l (rd b 8 1) (rd b 9 1) with
  | some root =>
    if nodes.length = n then
      some { tree := rd b 0 2, int32 := rd b 2 1 == 10, bufs := rd b 3 1, total := rd b 4 4, root := root, doneq := rd b 10 1,
             rcore := rd b 11 1, dest := rd b 12 4, tag := BitVec.ofNat 32 (rd b 16 4), nodes := nodes }
    else none
  | none => none

/-- The trees of an image. -/
def Image.trees (m : Image) (l : List Section) : List (Option FoldTree) := (treeRecords m.bytes m.offTree m.ntree).map (treeOfRec l)

/-- The parent of a node in its tree (R226). -/
def FoldTree.parentOf (t : FoldTree) (n : FoldNode) : Option FoldNode :=
  match portDir n.parent with
  | none => none
  | some d =>
    match (neighbour n.site d).bind t.node with
    | some p => if portDir p.child0 = some (opposite d) ∨ portDir p.child1 = some (opposite d) then some p else none
    | none => none

/-- A node reaches the root (R226). -/
def FoldTree.reaches (t : FoldTree) : Nat → FoldNode → Bool
  | 0, _ => false
  | k + 1, n => n.parent == 4 || (match t.parentOf n with
    | some p => t.reaches k p
    | none => false)

/-- The ports of a node that the tree uses. -/
def FoldNode.ports (n : FoldNode) : List Dir := [n.parent, n.child0, n.child1].filterMap portDir

/-- A tree record breaks R225 or R6 by itself. (DESIGN CHOICE, log 172) -/
def treeRecBad (b : List W8) (t : FoldTree) : Bool :=
  !(rd b 2 1 == 0 || rd b 2 1 == 10) || !zeros b 22 2
    || !zeros b (24 + 4 * t.nodes.length) (b.length - (24 + 4 * t.nodes.length))
    || (List.range t.nodes.length).any (fun k => !clear (rd b (26 + 4 * k) 1) 4 0 || bitOf (rd b (27 + 4 * k) 1) 0)

/-- A tree under a placement breaks a condition of R226 that concerns it alone. -/
def State.treeBad (s : State) (l : List Section) (t : FoldTree) : Bool :=
  1023 < t.tree || t.bufs == 0 || 4 < t.bufs
    || t.nodes.isEmpty || 1024 < t.nodes.length || t.total % 8 != 0 || t.total < 8 || 16777216 < t.total
    || t.dest % 64 != 0 || spBytes < t.dest + t.total
    || !distinct (t.nodes.map FoldNode.site)
    || t.nodes.any (fun n => (n.parent == 4) != (n.site == t.root) || 4 < n.parent
        || !(n.child0 < 4 || n.child0 == 7) || !(n.child1 < 4 || n.child1 == 7)
        || (n.child0 == 7 && n.child1 == 7 && !n.locl)
        || (n.parent != 4 && (t.parentOf n).isNone) || !t.reaches 1025 n
        || n.ports.any (fun d => !s.linkUp n.site d) || s.isDark (fieldOf n.site) || s.isOos (fieldOf n.site))
    || (t.node t.root).isNone
    || (match l.find? (fun c => c.site == t.root) with
        | some c => !(secCap c.bytes t.doneq != 0 && t.doneq < 128 && secProd c.bytes t.doneq == 0xA1)
            || 15 < t.rcore || !secLoads c.bytes t.rcore
        | none => true)

/-- The trees of a function's and of all other loaded configurations, one configuration apart. -/
def State.otherTrees (s : State) (f c : Nat) : List (Nat × FoldTree) :=
  s.part.flatMap (fun e => e.2.cfg.flatMap (fun k => if e.1 = f ∧ k.1 = c then [] else k.2.trees.map (fun t => (e.1, t))))

/-- The trees of an image together break R226: numbers already declared, or a router over its entries or buffers. -/
def State.treesClash (s : State) (f c : Nat) (ts : List FoldTree) : Bool :=
  let other := s.otherTrees f c
  let all := ts ++ other.map Prod.snd
  !distinct (ts.map FoldTree.tree) || ts.any (fun t => other.any (fun o => o.1 == f && o.2.tree == t.tree))
    || ts.any (fun t => t.nodes.any (fun n =>
        let here := all.filter (fun u => (u.node n.site).isSome)
        16 < here.length || 16 < (here.map FoldTree.bufs).sum))

/-- A stream record as a stream under a placement (R240). -/
def streamOfRec (l : List Section) (b : List W8) : Option TTStream :=
  let put := rd b 2 1 == 1
  match logicalSite l (rd b 4 1) (rd b 5 1), (if put then logicalSite l (rd b 6 1) (rd b 7 1) else some 0) with
  | some src, some dst =>
    some { stream := rd b 0 2, put := put, sq := rd b 3 1, src := src, dst := dst, wbase := rd b 8 4, wsize := rd b 12 4,
           budget := rd b 16 4 }
  | _, _ => none

/-- A stream record breaks R240. -/
def streamBad (l : List Section) (b : List W8) (t : TTStream) : Bool :=
  1023 < t.stream || 1 < rd b 2 1 || !zeros b 20 4
    || (if t.put then t.wbase % 64 != 0
        else match l.find? (fun c => c.site == t.src) with
          | some c => 127 < t.sq || secCap c.bytes t.sq == 0 || secCons c.bytes t.sq != 0xA0 || rd c.bytes (35 + 8 * t.sq) 1 != 1
          | none => true)

/-- A timetable entry record as an entry under a placement (R241). -/
def entryOfRec (l : List Section) (key : Nat) (b : List W8) : Option TTEntry :=
  (logicalSite l (rd b 0 1) (rd b 1 1)).map (fun i =>
    { site := i, stream := rd b 2 2, flits := bits (rd b 4 4) 28 26, start := bits (rd b 4 4) 25 0, stride := rd b 8 2,
      count := rd b 10 1, inp := bits (rd b 11 1) 7 5, out := bits (rd b 11 1) 4 2, key := key })

/-- A timetable entry record breaks R241. -/
def entryBad (b : List W8) (e : TTEntry) : Bool :=
  e.flits == 0 || 5 < e.flits || e.count == 0 || (e.count == 1 && e.stride != 0) || 5 < e.inp || 5 < e.out
    || !clear (rd b 4 4) 31 29 || !clear (rd b 11 1) 1 0

/-- Two entries of one router use one output in the same cycle (R243). -/
def TTEntry.collides (x y : TTEntry) : Bool :=
  x.site == y.site && x.out == y.out &&
    x.starts.any (fun a => y.starts.any (fun b => a < b + y.flits && b < a + x.flits))

/-- The repetitions of an entry overlap one another. -/
def TTEntry.selfClash (e : TTEntry) : Bool := 1 < e.count && e.stride < e.flits

/-- Flits of an entry that leave in the 64 cycles from t. -/
def TTEntry.inWindow (e : TTEntry) (t : Nat) : Nat :=
  (e.starts.map (fun a => min (a + e.flits) (t + 64) - max a t)).sum

/-- The rate of a field's fabric clock, in units of 300 MHz. -/
def State.fabRate (s : State) (fld : Nat) : Nat := if (s.field fld).slow then 3 else 4

/-- A repetition of an entry. -/
abbrev Rep := TTEntry × Nat

/-- Repetitions in ascending order of their cycles. -/
def insertRep (x : Rep) : List Rep → List Rep
  | [] => [x]
  | y :: l => if x.2 ≤ y.2 then x :: y :: l else y :: insertRep x l
def repsOf (es : List TTEntry) : List Rep := (es.flatMap (fun e => e.starts.map (fun t => (e, t)))).foldr insertRep []

/-- A repetition that receives follows the one that sends as R243 asks: exactly 3 cycles later in a field, and across a seam not before
13 cycles of the slower side, both counted from a common instant and the sum in the receiving field's cycles, rounded up.
(DEDUCED, log 62) -/
def State.hopOk (s : State) (x y : Rep) : Bool :=
  let a := s.fabRate (fieldOf x.1.site)
  let b := s.fabRate (fieldOf y.1.site)
  if fieldOf x.1.site = fieldOf y.1.site then y.2 == x.2 + 3
  else b * (x.2 * min a b + 13 * a) ≤ y.2 * (a * min a b)

/-- The hop of a stream into a router's input is not timed as R243 asks: its repetitions that send and that receive, each in ascending
order, do not go together pair by pair. (DEDUCED, log 62) -/
def State.hopBad (s : State) (l : List TTEntry) (key stream i inp : Nat) : Bool :=
  let xs := repsOf (senders l key stream i inp)
  let ys := repsOf (receivers l key stream i inp)
  xs.length != ys.length || (xs.zip ys).any (fun p => !s.hopOk p.1 p.2)

/-- The inputs that the entries of an image use, or send to: stream, router and input. -/
def hopsOf (l : List TTEntry) : List (Nat × Nat × Nat) :=
  (l.filterMap (fun e => (portDir e.inp).map (fun _ => (e.stream, e.site, e.inp)))
    ++ l.filterMap (fun e => (portDir e.out).bind (fun d => (neighbour e.site d).map (fun j => (e.stream, j, inCode (some (opposite d))))))).eraseDups

/-- The injection from which a repetition's packet comes: back through the sending repetitions, hop by hop (R243). -/
def injectionOf (l : List TTEntry) : Nat → Rep → Option Rep
  | 0, _ => none
  | k + 1, y =>
    if (portDir y.1.inp).isNone then some y
    else
      let xs := repsOf (senders l y.1.key y.1.stream y.1.site y.1.inp)
      let ys := repsOf (receivers l y.1.key y.1.stream y.1.site y.1.inp)
      (xs[ys.findIdx (· == y)]?).bind (injectionOf l k)

/-- The time from a delivery's own injection, with the ejection, exceeds the stream's budget, in destination cycles (R212, R243). -/
def State.overBudget (s : State) (l : List TTEntry) (t : TTStream) (y : TTEntry) : Bool :=
  y.starts.any (fun v =>
    match injectionOf l (l.length + 1) (y, v) with
    | some x => t.budget < v - x.2 * s.fabRate (fieldOf y.site) / s.fabRate (fieldOf x.1.site) + 4 + y.flits
    | none => false)

/-- A timetable breaks R243. (DEDUCED, log 63) -/
def State.tableBad (s : State) (m : Image) (key : Nat) (ts : List TTStream) (es : List TTEntry) : Bool :=
  let other := s.fab.entries.filter (fun e => e.key != key)
  let all := es ++ other
  es.zipIdx.any (fun a => a.1.selfClash || other.any (fun y => a.1.collides y)
      || es.zipIdx.any (fun b => a.2 < b.2 && a.1.collides b.1))
    || es.any (fun x =>
        let l := all.filter (fun y => y.site == x.site && y.out == x.out)
        l.any (fun z => z.starts.any (fun t => 48 < (l.map (fun y => y.inWindow t)).sum)))
    || (hopsOf es).any (fun h => s.hopBad es key h.1 h.2.1 h.2.2)
    || ts.any (fun t => es.any (fun y => y.stream == t.stream && y.out == 4 && s.overBudget es t y))
    || es.any (fun e => (s.field (fieldOf e.site)).slow != m.ttslow.getLsbD (fieldOf e.site)
        || s.isDark (fieldOf e.site) || s.isOos (fieldOf e.site)
        || (match portDir e.out with | some d => !s.linkUp e.site d | none => false))
    || es.any (fun e => 512 < (all.filter (fun x => x.site == e.site)).length)
    || (m.ttlen == 0 && (m.nstream != 0 || m.nentry != 0)) || 67108864 < m.ttlen

/-- PAIRS of a function (R403, R415). -/
def State.pairsOn (s : State) (f : Nat) : Bool := bitOf (s.reg (integBase + 0x100 + 16 * f)).toNat 31

/-- The twin of a site (R403, R415). (DEDUCED, log 122) -/
def State.twinSite (s : State) (f i : Nat) : Option Nat :=
  let w := (s.reg (integBase + 0x100 + 16 * f)).toNat
  let x : Int := siteX i + signedOf 8 (bits w 15 8)
  let y : Int := siteY i + signedOf 8 (bits w 7 0)
  if 0 ≤ x ∧ x < 160 ∧ 0 ≤ y ∧ y < 160 then some (siteIdx x.toNat y.toNat) else none

/-- The loads in progress, with their functions and CFGIDs. -/
def State.loads (s : State) : List (Nat × Nat × Load) :=
  s.allCfgs.filterMap (fun e => ((s.cfg e.1 e.2).load).map (fun l => (e.1, e.2, l)))

/-- The load in progress that places a site, with its function and CFGID. -/
def State.loadOf (s : State) (i : Nat) : Option (Nat × Nat × Load) := s.loads.find? (fun e => e.2.2.sections.any (fun x => x.site == i))

/-- A site accepts a section of a configuration: neither a configuration nor a load in progress under another CFGID holds it (R12, R317). -/
def State.siteTakes (s : State) (f c i : Nat) : Bool :=
  s.siteState i == .enabled && (s.clu i).owner == some f && !s.isDark (fieldOf i) && !s.isOos (fieldOf i)
    && ((s.clu i).cfg == none || (s.clu i).cfg == some c)
    && !s.loads.any (fun e => !(e.1 == f && e.2.1 == c) && e.2.2.sections.any (fun x => x.site == i))

/-- An outbound queue names an inbound queue that names it back (R148). -/
def outboundBad (l : List Section) (b : List W8) (q : Nat) : Bool :=
  if secCap b q ≠ 0 ∧ secCons b q = 0xA0 then
    match sectionAt l (rd b (36 + 8 * q) 1) (rd b (37 + 8 * q) 1) with
    | some r =>
      let k := rd b (38 + 8 * q) 1
      !(127 ≥ k && secCap r.bytes k != 0 && secProd r.bytes k == 0xA0 && rd r.bytes (36 + 8 * k) 1 == rd b 0 1
        && rd r.bytes (37 + 8 * k) 1 == rd b 1 1)
    | none => true
  else false

/-- The inbound queue that an outbound queue names, as one number (R143: an inbound queue has one producer end). -/
def outboundTo (b : List W8) (q : Nat) : Option Nat :=
  if secCap b q ≠ 0 ∧ secCons b q = 0xA0 then
    some (65536 * rd b (38 + 8 * q) 1 + 256 * rd b (37 + 8 * q) 1 + rd b (36 + 8 * q) 1)
  else none

/-- Sections under a placement break R97, R143, R148 or R220. -/
def sectionsBad (l : List Section) (bars : List (Nat × List (Nat × Nat × Nat))) : Bool :=
  !distinct (l.map Section.site) || !distinct (l.map (fun c => 256 * rd c.bytes 1 1 + rd c.bytes 0 1))
    || l.any (fun c =>
        sectionBad c.bytes (fun n => bars.filterMap (fun r =>
          if r.2.any (fun m => m.1 == rd c.bytes 0 1 && m.2.1 == rd c.bytes 1 1 && bitOf m.2.2 n) then some r.1 else none))
          || (List.range 128).any (outboundBad l c.bytes))
    || !distinct (l.flatMap (fun c => (List.range 128).filterMap (outboundTo c.bytes)))

/-- The barrier contexts that are not free, one configuration apart: loaded configurations and loads in progress hold theirs (R220). -/
def State.barsBad (s : State) (key : Nat) (bs : List Barrier) : Bool :=
  let all := bs ++ (s.fab.barriers ++ s.loads.flatMap (fun e => e.2.2.bars)).filter (fun b => b.key != key)
  let fieldOfBar (b : Barrier) : Option Nat := b.members.head?.map (fun m => fieldOf m.1)
  256 < (all.filter Barrier.wafer).length
    || (List.range 64).any (fun f => 256 < (all.filter (fun b => !b.wafer && fieldOfBar b == some f)).length)

/-- The header of an image breaks R320. -/
def Image.headerBad (m : Image) : Bool :=
  let b := m.bytes
  let n := b.length
  n < 64 || rd b 0 2 != 1 || !clear (rd b 2 2) 15 1 || !zeros b 30 2 || !zeros b 48 16
    || m.offPlace % 64 != 0 || m.offBar % 64 != 0 || m.offTree % 64 != 0 || m.offTT % 64 != 0
    || n < m.offPlace + 8 * m.ncl || n < barEnd b m.offBar m.nbar || n < treeEnd b m.offTree m.ntree
    || n < m.offTT + 24 * m.nstream + 12 * m.nentry
    || (List.range m.ncl).any (fun k => 160 ≤ byteAt (m.place k) 0 || 160 ≤ byteAt (m.place k) 1 || !zeros (m.place k) 2 2
        || m.secOff k % 64 != 0 || n < m.secOff k + 2720)

/-- What a checked image gives: its sections, twins included, and its trees, streams, entries and barriers. -/
structure Checked where
  sections : List Section
  trees : List FoldTree
  streams : List TTStream
  entries : List TTEntry
  bars : List Barrier
  deriving DecidableEq, Repr

/-- The check phase of CONFIG_LOAD (R12, R97, R148, R159, R220, R226, R243, R317, R403): none when the image is refused.
(DEDUCED, log 43; DESIGN CHOICE, log 176) -/
def State.checkImage (s : State) (f c : Nat) (m : Image) : Option Checked :=
  let key := cfgKey f c
  let l := m.sections
  let pairs := s.pairsOn f
  let twin (i : Nat) : Option Nat := if pairs then s.twinSite f i else none
  let trees := m.trees l
  let streams := (List.range m.nstream).map (fun k => streamOfRec l (m.streamRec k))
  let entries := (List.range m.nentry).map (fun k => entryOfRec l key (m.entryRec k))
  let ts := trees.filterMap id
  let st := streams.filterMap id
  let es := entries.filterMap id
  let bars := m.barriers key l twin
  let recs := barRecords m.bytes m.offBar m.nbar
  let twins := l.filterMap (fun x => (twin x.site).map (fun j => { x with site := j }))
  let sites := l.map Section.site
  if m.headerBad then none
  else if sectionsBad l recs || l.any (fun x => !s.siteTakes f c x.site) then none
  else if pairs && (twins.length != l.length || m.nstream != 0
      || twins.any (fun x => !s.siteTakes f c x.site || sites.contains x.site) || !distinct (twins.map Section.site)) then none
  else if recs.any (fun r => 1023 < r.1 || r.2.any (fun x => (logicalSite l x.1 x.2.1).isNone)) || s.barsBad key bars then none
  else if ts.length != trees.length || (ts.zip (treeRecords m.bytes m.offTree m.ntree)).any (fun x => treeRecBad x.2 x.1 || s.treeBad l x.1)
      || s.treesClash f c ts then none
  else if st.length != streams.length || es.length != entries.length
      || (st.zipIdx).any (fun x => streamBad l (m.streamRec x.2) x.1)
      || (es.zipIdx).any (fun x => entryBad (m.entryRec x.2) x.1 || !st.any (fun t => t.stream == x.1.stream))
      || s.tableBad m key st es then none
  else if (s.cfg f c).loaded && !(s.cfg f c).clusters.all (fun i => (sites ++ twins.map Section.site).contains i) then none
  else some { sections := l ++ twins, trees := ts, streams := st, entries := es, bars := bars }

end Sys2Proof.Machine
end

