-- ==== Sys2Proof/Machine/Load.lean ====
section
/-! DEFINITION. CONFIG_LOAD and UNLOAD: halting, draining, discarding, the epoch and the load phase (R119, R145, R147, R156 to R163,
R175, R239, R317, R321, R364, R403). -/
namespace Sys2Proof.Machine

/-! ### Clusters as a section loads them -/

/-- A table of `n` entries without those equal to the default. -/
def tabulate {α : Type} [DecidableEq α] (d : α) (n : Nat) (f : Nat → α) : Tab α :=
  (List.range n).filterMap (fun i => if f i = d then none else some (i, f i))

/-- The instruction memory and local data memory that a section gives a loaded core (R147). -/
def secImem (b : List W8) (n : Nat) : Tab W32 := tabulate 0 4096 (fun i => BitVec.ofNat 32 (secWord b n i))
def secLmem (b : List W8) (n : Nat) : Mem := tabulate 0 (secDbytes b n) (fun i => b.getD (secData b n + i) 0)

/-- The initial registers of a core (R147). -/
def secG (b : List W8) (n : Nat) : Tab W32 := tabulate 0 16 (fun i => BitVec.ofNat 32 (rd b (1056 + 96 * n + 4 * i) 4))
def secK (b : List W8) (n : Nat) : Tab W32 := tabulate 0 4 (fun i => BitVec.ofNat 32 (rd b (1120 + 96 * n + 4 * i) 4))

/-- A core after a load (R119): loaded, or unloaded where its section does not load it. -/
def loadedCore (b : List W8) (n : Nat) : Core :=
  if secLoads b n then
    { imem := secImem b n, lmem := secLmem b n, initG := secG b n, initK := secK b n, g := secG b n, k := secK b n,
      port := tabulate 0 8 (fun p => BitVec.ofNat 8 (secPort b n p)), seq := .loaded }
  else {}

/-- A queue of a section (R145, R147): an outbound queue holds one credit for each slot of its inbound queue. -/
def loadedQueue (l : List Section) (b : List W8) (q : Nat) : Queue :=
  let e := secQueue b q
  let v (k : Nat) : W8 := e.getD k 0
  if secCap b q = 0 then {}
  else
    { cap := secCap b q, prod := v 1, cons := v 2, vc := v 3, rx := v 4, ry := v 5, rq := v 6,
      credits := if secCons b q = 0xA0 then
          (match sectionAt l (byteAt e 4) (byteAt e 5) with | some r => secCap r.bytes (byteAt e 6) | none => 0)
        else 0 }

/-- A steering unit of a section (R147): it starts idle. -/
def loadedSteer (b : List W8) (u : Nat) : Steer :=
  { kind := match secKind b u with
      | 1 => .branch
      | 2 => .merge
      | 3 => if secMode b u = 0 then .rateRepeat else .rateSkip
      | 4 => .carry
      | _ => .unused }

/-- A cluster that a section has loaded (R119, R147, R153, R161): scratchpad, tiles, pass counts and tags are kept. -/
def Cluster.load (c : Cluster) (l : List Section) (b : List W8) (cfg : Nat) (epoch : BitVec 2) (pair : Option PairInfo) : Cluster :=
  { c with core := tabulate {} 16 (loadedCore b), queue := tabulate {} 128 (loadedQueue l b), steer := tabulate {} 4 (loadedSteer b),
           slot := [], stalled := [], steal := [], resv := [], cfg := some cfg, lx := rd b 0 1, ly := rd b 1 1,
           wdogExp := if rd b 2 1 = 0 then 20 else rd b 2 1, wdog := 0, epoch := epoch, pair := pair }

/-- A cluster that UNLOAD returns to the unloaded state (R317): scratchpad, tiles, pass counts and tags are kept. -/
def Cluster.unload (c : Cluster) : Cluster :=
  { c with core := [], queue := [], steer := [], slot := [], stalled := [], steal := [], resv := [], cfg := none, lx := 0, ly := 0,
           wdogExp := 20, wdog := 0, pair := none }

/-- The pairing of section k of a load: the second half of a paired load's sections are the twins of the first (R403). -/
def pairOf (paired : Bool) (sites : List Nat) (k : Nat) : Option PairInfo :=
  let n := sites.length / 2
  if !paired then none
  else if k < n then some { other := sites.getD (k + n) 0, primary := true }
  else some { other := sites.getD (k - n) 0, primary := false }

/-! ### What a configuration holds in the fabric -/

/-- The buffered sums and credits of a configuration's fold trees are released (R239). -/
def State.freeSums (s : State) (f c : Nat) : State :=
  let trees := (s.cfg f c).trees.map FoldTree.tree
  s.modFab (fun b =>
    { b with segs := b.segs.filter (fun x => !(x.func == f && trees.contains x.tree)),
             foldCredits := b.foldCredits.filter (fun x => !(x.2.1 == f && trees.contains x.2.2.1)),
             foldHeld := Tab.drop (fun y => y / 2 / 1024 % 64 == f && trees.contains (y / 2 % 1024)) b.foldHeld })

/-- Free a configuration's barrier contexts, timetable entries and fold trees with their buffered sums and credits, and discard its
TT_DATA packets (R239, R317). -/
def State.freeCfg (s : State) (f c : Nat) : State :=
  let key := cfgKey f c
  ((s.dropTT key).modFab (fun b =>
    { b with barriers := b.barriers.filter (fun x => x.key != key), entries := b.entries.filter (fun x => x.key != key),
             period := Tab.drop (fun y => y % 16384 == key) b.period })).freeSums f c

/-! ### Bindings -/

/-- The stream contexts bound to a configuration (R357). -/
def State.boundTo (s : State) (f c : Nat) : List Nat :=
  s.media.ctx.filterMap (fun e => match e.2.bound with
    | some b => if b.func = f ∧ b.cfgid = c then some e.1 else none
    | none => none)

/-- A binding ends; a FRAME_BIND that unbinds it completes with OK. -/
def State.endBinding (s : State) (x : Nat) : State :=
  match (s.ctx x).bound with
  | none => s
  | some b =>
    let s1 := s.modCtx x (fun c => { c with bound := none })
    match b.unbind with
    | some (r, i) => s1.finishDesc r i (rep stOk)
    | none => s1

/-- The bindings of a configuration end with BIND_LOST (R364). (DEDUCED, log 98) -/
def State.bindLost (s : State) (f c : Nat) : State :=
  s.each (s.boundTo f c) (fun t x =>
    match (t.ctx x).bound with
    | none => t
    | some b => (t.endBinding x).post f (t.absRing f b.fring) { typ := 0x0011, ring := b.ring, time := t.now, data := 0 })

/-! ### The phases -/

/-- IMAGE, IMGLEN, CFGID, DRAIN and LCTL of a CONFIG_LOAD (R316). -/
def Desc.image (d : Desc) : Nat := d.field 8 8
def Desc.imgLen (d : Desc) : Nat := d.field 16 4
def Desc.loadCfg (d : Desc) : Nat := d.field 20 2
def Desc.drain (d : Desc) : Nat := if d.field 22 2 = 0 then 100 else d.field 22 2
def Desc.lctl (d : Desc) : Nat := d.field 24 1

/-- A CONFIG_LOAD waits while a load or a REMAP of its CFGID is in progress, and behind one that was taken earlier (R317).
(DEDUCED, log 42) -/
def State.loadWaits (s : State) (d : Desc) : Bool :=
  ((s.cfg d.func d.loadCfg).load).isSome
    || s.hst.descs.any (fun x => x.func == d.func && x.opcode == 0x0B && x.started && x.field 20 2 == d.loadCfg)
    || (takenBefore d s.hst.descs).any (fun x => x.func == d.func && x.opcode == 4 && !x.started && x.loadCfg == d.loadCfg && s.startable x)

/-- The body of a CONFIG_LOAD breaks R315 or R316. -/
def State.loadBad (s : State) (d : Desc) : Bool :=
  d.image % 64 != 0 || 255 < d.loadCfg || 1 < d.lctl || !s.owns d.func d.image d.imgLen

/-- The load that a checked image begins (R159). -/
def loadFrom (d : Desc) (m : Image) (k : Checked) (now : Nat) (paired : Bool) : Load :=
  { desc := (d.ring, d.index), unload := false, deadline := now + d.drain, addr := d.image, len := d.imgLen, frame := m.frame,
    sections := k.sections, trees := k.trees, streams := k.streams, entries := k.entries, ttlen := m.ttlen, ttslow := m.ttslow,
    bars := k.bars, paired := paired }

/-- The epoch that the clusters of a configuration have (R156, R160). -/
def State.epochOf (s : State) (f c : Nat) : Option (BitVec 2) := ((s.cfg f c).clusters.head?).map (fun i => (s.clu i).epoch)

/-- CONFIG_LOAD starts (R159, R163): its image is read and checked, and draining begins. -/
def State.startLoad (s : State) (d : Desc) : State :=
  let s1 := s.demand none d.image d.imgLen false none
  match s.badRead none d.image d.imgLen with
  | x :: l => (s1.memUEs 7 (x :: l)).endDesc d stMemUE
  | [] =>
    let m := imageOf (s.devRead none d.image d.imgLen)
    match s.checkImage d.func d.loadCfg m with
    | none => s1.endDesc d stIllegal
    | some k => (s1.started d).modCfg d.func d.loadCfg (fun c => { c with
      load := some { loadFrom d m k s.now (s.pairsOn d.func) with oldEpoch := s.epochOf d.func d.loadCfg } })

/-- CONFIG_LOAD (R6, R159, R315 to R317). -/
def execConfigLoad (r : DescRef) (s : State) : Res :=
  match s.desc r.ring.val r.index with
  | none => .next s
  | some d =>
    if d.lctl = 1 ∨ (d.opcode = 4 ∧ s.loadWaits d) then .next s
    else .next (s.beginDesc r (· == 4) s.loadBad (fun d t => t.startLoad d))

/-- UNLOAD (R316, R317): a CONFIG_LOAD with LCTL bit 0 set. -/
def execUnload (r : DescRef) (s : State) : Res :=
  match s.desc r.ring.val r.index with
  | none => .next s
  | some d =>
    if d.lctl ≠ 1 ∨ (d.opcode = 4 ∧ s.loadWaits d) then .next s
    else .next (s.beginDesc r (· == 4)
      (fun d => d.image != 0 || d.imgLen != 0 || 255 < d.loadCfg || !(s.cfg d.func d.loadCfg).loaded)
      (fun d t => (t.started d).modCfg d.func d.loadCfg (fun c =>
        { c with load := some { desc := (d.ring, d.index), unload := true, deadline := t.now + d.drain,
                                   oldEpoch := s.epochOf d.func d.loadCfg } })))

/-- Tokens waiting in a cluster's queues. -/
def Cluster.tokens (c : Cluster) : Nat := (c.queue.map (fun e => e.2.toks.length + e.2.ahead.length)).sum

/-- A configuration has drained (R159): no launch is in progress, its queues are empty, no token packet of its epoch is on its way to its
clusters, and no transfer is in progress. One that is halted drains only by timeout (R163). (DEDUCED, log 36) -/
def State.drained (s : State) (k : Cfg) : Bool :=
  k.run.isNone && k.halted.isNone
    && k.clusters.all (fun i =>
        let c := s.clu i
        c.tokens == 0 && c.slot.all (fun e => e.2.isNone) && c.stalled.isEmpty)
    && !s.fab.flight.any (fun p => (p.typ == .token || p.typ == .ttData) && k.clusters.contains p.dest
        && p.epoch == (s.clu p.dest).epoch)

/-- The load in progress on a configuration changes. -/
def State.modLoad (s : State) (f c : Nat) (g : Load → Load) : State :=
  s.modCfg f c (fun k => { k with load := k.load.map g })

/-- The epoch phase begins (R156): a CONFIG_LOAD takes the partition's next epoch. -/
def State.beginEpoch (s : State) (f c : Nat) (unload : Bool) : State :=
  let e := (s.prt f).epoch + 1
  if unload then s.modLoad f c (fun l => { l with phase := .epochWait })
  else (s.modPart f (fun p => { p with epoch := e })).modLoad f c (fun l => { l with phase := .epochWait, epoch := e })

/-- A core's issued matrix and vector instructions have completed, and its started MMS passes have been applied (R159, R175). -/
def Core.unitsIdle (k : Core) : Bool := k.matQueue.isEmpty && k.matRun.isNone && k.vecQueue.isEmpty && k.mms.isEmpty

/-- A cluster's units have settled. -/
def Cluster.settled (c : Cluster) : Bool := c.core.all (fun e => e.2.unitsIdle) && c.steal.isEmpty

/-- Discard the tokens in a cluster's queues and count them (R159). -/
def State.discardTokens (s : State) (i : Nat) : State :=
  (s.staleTokens i (s.clu i).tokens (s.clu i).epoch).modClu i (fun c =>
    { c with queue := c.queue.map (fun e => (e.1, { e.2 with toks := [], ahead := [] })) })

/-- The counts and tokens of a cluster's rate units, and the credits that its inbound queues owe, are given up (R145, R159). -/
def Cluster.giveUp (c : Cluster) : Cluster :=
  { c with queue := c.queue.map (fun e => (e.1, { e.2 with owed := 0 })),
           steer := c.steer.map (fun e => (e.1, { e.2 with count := 0, held := none })) }

/-- The load phase may begin (R145, R158, R159, R175). (DEDUCED, log 37) -/
def State.epochReady (s : State) (f : Nat) (k : Cfg) (l : Load) : Bool :=
  k.clusters.all (fun i => (s.clu i).settled)
    && (l.unload || (Tab.get 0 s.fab.tokenFlight (4 * f + l.epoch.toNat) == 0
        && !s.fab.credits.any (fun x => k.clusters.contains x.site || l.sections.any (fun y => y.site == x.site))))

/-- A section as the image holds it now (R271). -/
def Section.reread (b : List W8) (x : Section) : Section := { x with bytes := (b.drop x.off).take x.bytes.length }

/-- A packet of a section's BODY (R219, R321): the words or local data at an address of a core, from the crust block of the image's
stack. -/
def State.cfgPacket (s : State) (f : Nat) (l : Load) (x : Section) (n : Nat) (localData : Bool) (addr : Nat) (b : List W8) : Packet :=
  let k := s.stackOf l.addr / 2
  let a := s.crustAddr k x.site
  { dx := siteX x.site, dy := siteY x.site, sx := a.1, sy := a.2, typ := .cfgBody, vc := 2, func := f, epoch := l.epoch,
    arg := 2 ^ 44 * n + 2 ^ 43 * localData.toNat + addr, payload := b, pos := .source (s.crustOut k x.site) (some (crustSide k)) }

/-- One part of a core's BODY in packets of at most 256 bytes. -/
def State.cfgPart (s : State) (f : Nat) (l : Load) (x : Section) (n : Nat) (localData : Bool) (off len : Nat) : List Packet :=
  (List.range ((len + 255) / 256)).map (fun j =>
    s.cfgPacket f l x n localData (256 * j) ((x.bytes.drop (off + 256 * j)).take (min 256 (len - 256 * j))))

/-- The CFG_BODY packets of a section (R147, R219, R321). (DEDUCED, log 168) -/
def State.cfgBodies (s : State) (f : Nat) (l : Load) (x : Section) : List Packet :=
  ((List.range 16).filter (secLoads x.bytes)).flatMap (fun n =>
    s.cfgPart f l x n false (secCode x.bytes n) (4 * secIwords x.bytes n) ++ s.cfgPart f l x n true (secData x.bytes n) (secDbytes x.bytes n))

/-- The load phase begins once nothing is waited for (R145, R156 to R159, R219, R239, R271): tokens, rate counts and credits of the old
configuration are given up, the clusters take the new epoch, the old trees are released, the image's sections are read, and their
bodies are sent. -/
def State.enterLoad (s : State) (f c : Nat) : State :=
  let k := s.cfg f c
  match k.load with
  | none => s
  | some l =>
    if l.phase = .epochWait ∧ s.epochReady f k l then
      let s1 := (if l.unload then s else s.demand none l.addr l.len false none).each k.clusters (fun t i =>
        (t.discardTokens i).modClu i Cluster.giveUp)
      if l.unload then s1.modLoad f c (fun l => { l with phase := .load })
      else
        let b := s.devRead none l.addr l.len
        let m := { l with phase := .load, sections := l.sections.map (Section.reread b) }
        let s2 := (s1.freeCfg f c).each (k.clusters ++ l.sections.map Section.site) (fun t i =>
          t.modClu i (fun x => { x with epoch := l.epoch }))
        let s3 := s2.modCfg f c (fun k => { k with trees := [], streams := [],
                                                   load := k.load.map (fun l => { l with phase := .load, sections := m.sections }) })
        s3.each (m.sections.flatMap (s3.cfgBodies f m)) State.inject
    else s

/-- DRAIN_END (R159). -/
def execDrainEnd (f : Func) (cfg : Fin 256) (s : State) : Res :=
  let k := s.cfg f.val cfg.val
  match k.load with
  | none => .next s
  | some l =>
    if l.phase = .drain ∧ s.drained k then .next ((s.beginEpoch f.val cfg.val l.unload).enterLoad f.val cfg.val)
    else .next s

/-- A cluster's transfers are abandoned (R141, R159). -/
def Cluster.abandon (c : Cluster) : Cluster :=
  { c with slot := [], stalled := [], core := c.core.map (fun e => (e.1, { e.2 with xferWait := false })) }

/-- The discard phase of a drain that ended by timeout (R159, R160): cores stop, transfers are abandoned, tokens are discarded, and
the launch in progress completes with DRAIN_TIMEOUT. (DEDUCED, log 39) -/
def State.discardPhase (s : State) (f c : Nat) : State :=
  let k := s.cfg f c
  let n := s.tokensIn k.clusters
  let moved := k.clusters.any (fun i => !(s.clu i).stalled.isEmpty || (s.clu i).slot.any (fun e => e.2.isSome))
  let s1 := (s.haltCores k.clusters).each k.clusters (fun t i => (t.discardTokens i).modClu i (fun c => c.abandon.giveUp))
  let s2 := s1.modLoad f c (fun l => { l with timedOut := true, dirty := k.run.isSome || moved || n != 0 })
  s2.finishRun f c { status := stDrain, r0 := n, r1 := (k.run.map Run.group).getD 0 }

/-- DRAIN_TIMEOUT (R160). -/
def execDrainTimeout (f : Func) (cfg : Fin 256) (s : State) : Res :=
  match (s.cfg f.val cfg.val).load with
  | none => .next s
  | some l =>
    if l.phase = .drain ∧ l.deadline ≤ s.now then
      .next (((s.discardPhase f.val cfg.val).beginEpoch f.val cfg.val l.unload).enterLoad f.val cfg.val)
    else .next s

/-- The words and bytes that a CFG_BODY packet writes (R147, R321). -/
def Core.body (k : Core) (localData : Bool) (addr : Nat) (b : List W8) : Core :=
  if localData then
    { k with lmem := k.lmem.write addr b,
             lmemBad := k.lmemBad.filter (fun w => !(wordsOf 4 addr b.length).contains w),
             lmemSoft := k.lmemSoft.filter (fun w => !(wordsOf 4 addr b.length).contains w) }
  else
    { k with imem := (payloadWords b).zipIdx.foldl (fun t e => Tab.put 0 t (addr / 4 + e.2) e.1) k.imem,
             imemBad := k.imemBad.filter (fun w => !(wordsOf 4 addr b.length).contains w),
             imemSoft := k.imemSoft.filter (fun w => !(wordsOf 4 addr b.length).contains w) }

/-- A site still takes part in a load: it is enabled and belongs to the function (R12, R317). -/
def State.placeable (s : State) (f i : Nat) : Bool := s.siteState i == .enabled && (s.clu i).owner == some f

/-- A load in its load phase places a site with an epoch (R159). -/
def State.loading (s : State) (f i : Nat) (e : BitVec 2) : Bool :=
  s.placeable f i && s.loads.any (fun x => x.1 == f && x.2.2.phase == .load && x.2.2.epoch == e && x.2.2.sections.any (fun y => y.site == i))

/-- The CFG_BODY packet that has arrived at a core's cluster with the core, the memory, the address and the length that its ARG and payload
give (R321). -/
def State.bodyFor (s : State) (c : CoreRef) (localData : Bool) (addr len : Nat) : Option Packet :=
  s.fab.flight.find? (fun p => p.typ == .cfgBody && p.pos == .delivered (Site.idx c.site) && bits p.arg 47 44 == c.n.val
    && bitOf p.arg 43 == localData && p.arg % 65536 == addr && p.payload.length == len)

/-- CFG_BODY (R159, R321): in the load phase of its load, a packet that has arrived writes instruction words or local data of a core;
any other is discarded. -/
def execCfgBody (c : CoreRef) (localData : Bool) (addr len : Nat) (s : State) : Res :=
  match s.bodyFor c localData addr len with
  | none => .next s
  | some p =>
    if (s.clu (Site.idx c.site)).resetting || !s.loading p.func (Site.idx c.site) p.epoch then .next (s.discardAt (Site.idx c.site) p)
    else .next ((s.removePacket p).modCore c (fun k => k.body localData addr p.payload))

/-- The clusters of a load that still take part are written, and its trees, entries and barriers installed; the entries wait for the
start of a period (R12, R119, R159, R239, R244, R403). -/
def State.install (s : State) (f c : Nat) (l : Load) : State :=
  let secs := l.sections.filter (fun x => s.placeable f x.site)
  let all := l.sections.map Section.site
  let sites := secs.map Section.site
  let next := (all.map (fun i => (s.clu i).xferNext)).foldl max 0
  let s1 := s.freeCfg f c
  let s2 := s1.each (l.sections.zipIdx.filter (fun e => s.placeable f e.1.site)) (fun t e => t.modClu e.1.site (fun x =>
    { x.load l.sections e.1.bytes c l.epoch (pairOf l.paired all e.2) with xferNext := next }))
  (s2.modFab (fun b => { b with barriers := b.barriers ++ l.bars,
                                entries := b.entries ++ l.entries.map (fun e => { e with passed := e.count }) })).modCfg f c (fun _ =>
    { loaded := true, clusters := sites, frame := l.frame, trees := l.trees.map (fun t => { t with epoch := l.epoch }),
      streams := l.streams, ttlen := l.ttlen, ttslow := l.ttslow, paired := l.paired, sections := l.sections })

/-- A configuration is no longer loaded: its clusters are as UNLOAD leaves them (R317). -/
def State.unloadCfg (s : State) (f c : Nat) (sites : List Nat) : State :=
  (((s.freeCfg f c).each sites (fun t i => t.modClu i Cluster.unload)).modCfg f c (fun _ => {})).bindLost f c

/-- A load ends and its descriptor completes (R160). -/
def State.endLoad (s : State) (f c : Nat) (l : Load) : State :=
  let p : Report := { status := if l.timedOut && (l.dirty || l.discarded != 0) then stDrain else stOk, r0 := l.discarded, r1 := l.sections.length }
  if l.unload then (s.unloadCfg f c (s.cfg f c).clusters).finishDesc l.desc.1 l.desc.2 p
  else
    let s1 := s.install f c l
    (if l.frame then s1 else s1.bindLost f c).finishDesc l.desc.1 l.desc.2 p

/-- CFG_BODY packets of a load are still in flight. -/
def State.bodiesLeft (s : State) (f : Nat) (l : Load) : Bool :=
  s.fab.flight.any (fun p => p.typ == .cfgBody && p.func == f && p.epoch == l.epoch && l.sections.any (fun x => x.site == p.dest))

/-- CONFIG_LOAD_DONE (R159, R160, R163, R317): every cluster is loaded, or returned to the unloaded state. (DEDUCED, log 40) -/
def execConfigLoadDone (f : Func) (cfg : Fin 256) (s : State) : Res :=
  let s1 := s.enterLoad f.val cfg.val
  match (s1.cfg f.val cfg.val).load with
  | none => .next s1
  | some l =>
    if l.phase ≠ .load ∨ (!l.unload && s1.bodiesLeft f.val l) then .next s1
    else
      match (if l.unload then [] else s1.badRead none l.addr l.len) with
      | [] => .next (s1.endLoad f.val cfg.val l)
      | x :: b =>
        .next (((s1.memUEs 7 (x :: b)).unloadCfg f.val cfg.val (l.sections.map Section.site)).finishDesc l.desc.1 l.desc.2 (rep stMemUE))

end Sys2Proof.Machine
end

