-- ==== Sys2Proof/Machine/Launch.lean ====
section
/-! DEFINITION. LAUNCH, pool dispatch, and the binding of frame-bound configurations (R120, R153, R161, R279, R286, R316 to R319, R357,
R408). -/
namespace Sys2Proof.Machine

/-- A loaded core at a launch or frame-slot start (R120). -/
def Core.begin (k : Core) (args : List W32) : Core :=
  if k.seq = .unloaded then k
  else
    { k with g := (List.range 4).foldl (fun t i => Tab.put 0 t (12 + i) (args.getD i 0)) k.initG, k := k.initK, fa := 0x0F, fb := 0x0F,
             flags := 0, pc := 0, done := false, inBlock := false, barWait := none, xferWait := false, seq := .running }

/-- A cluster at a launch or frame-slot start (R120, R153). -/
def Cluster.begin (c : Cluster) (args : List W32) : Cluster :=
  { c with core := c.core.map (fun e => (e.1, e.2.begin args)), wdog := 0 }

/-- A quarantined cluster takes no part in a run (R12, R413): its cores do not start, and the run does not complete. -/
def Cluster.stay (c : Cluster) : Cluster := { c with core := c.core.map (fun e => (e.1, { e.2 with done := false })) }

/-- A cluster's cores are set for a run (R12, R120). -/
def State.beginAt (s : State) (i : Nat) (args : List W32) : State :=
  if s.barred i then s.modClu i Cluster.stay else s.modClu i (fun c => c.begin args)

/-- Runs code: the cluster has a loaded core. -/
def Cluster.runsCode (c : Cluster) : Bool := c.core.any (fun e => e.2.seq != .unloaded)

/-- A run's entry joins the lineage window of a cluster that it runs code on (R408, R412). (DEDUCED, log 120) -/
def State.addLineage (s : State) (f i : Nat) (e : W64) : State :=
  let c := s.clu i
  if !c.runsCode || c.lineage.contains e then s
  else if c.lineage.length < 4096 then s.modClu i (fun c => { c with lineage := c.lineage ++ [e] })
  else
    (s.modClu i (fun c => { c with lineage := c.lineage.drop 1 ++ [e], linOvf := true })).raise (some (f, 0)) false 0x0022
      (2 ^ 8 * siteX i + 2 ^ 16 * siteY i)

/-- A run of a configuration begins (R120, R244, R286, R408); `wait` says that its start reaches clusters by broadcast (R222). -/
def State.startRun (s : State) (f c : Nat) (u : Run) (wait : Bool) : State :=
  let k := s.cfg f c
  let v := { u with view := s.viewNow, begun := s.now }
  let s1 := (s.modCfg f c (fun k => { k with run := some v })).startPeriod f c
  let s2 := s1.each k.clusters (fun t i => t.addLineage f i (t.runEntry f v))
  if wait then s2.modFab (fun b => { b with starts := b.starts.filter (fun i => !k.clusters.contains i) ++ k.clusters })
  else s2.each k.clusters (fun t i => t.beginAt i u.args)

/-- A LAUNCH of an earlier taking names the same configuration and waits for it alone (R313, R319). (DEDUCED, log 86) -/
def State.launchBehind (s : State) (d : Desc) : Bool :=
  (takenBefore d s.hst.descs).any (fun x =>
    x.func == d.func && x.opcode == 5 && !x.started && x.cfgid == d.cfgid && !s.onPool x && s.startable x)

/-- A LAUNCH on a work ring is refused (R315, R317). -/
def State.launchBad (s : State) (d : Desc) : Bool :=
  d.place != 0 || !(s.cfg d.func d.cfgid).loaded || (s.cfg d.func d.cfgid).frame

/-- A LAUNCH whose configuration is halted completes with the status and cause that halted it (R263, R318). -/
def State.launchHalted (s : State) (d : Desc) (p : Report) : State :=
  s.finishDesc d.ring d.index { p with flags := 0, r0 := s.tokensIn (s.cfg d.func d.cfgid).clusters, r1 := 0 }

/-- LAUNCH on a work ring (R120, R161, R286, R316 to R319). -/
def execLaunch (r : DescRef) (s : State) : Res :=
  match s.desc r.ring.val r.index with
  | none => .next s
  | some d =>
    let k := s.cfg d.func d.cfgid
    if s.onPool d || (k.load.isSome && d.opcode == 5) then .next s
    else if (s.prt d.func).quiesced && d.opcode == 5 then .next s
    else if k.loaded && k.halted.isNone && !k.frame && (k.run.isSome || s.launchBehind d) then .next s
    else
      .next (s.beginDesc r (· == 5) s.launchBad (fun d t =>
        match k.halted with
        | some p => t.launchHalted d p
        | none => (t.started d).startRun d.func d.cfgid { desc := some (d.ring, d.index), args := d.args 16, train := d.train } false))

/-- POOL_DISPATCH (R279, R316): a pool-ring LAUNCH goes to the free group nearest to its placement address, or waits. -/
def execPoolDispatch (r : DescRef) (s : State) : Res :=
  match s.desc r.ring.val r.index with
  | none => .next s
  | some d =>
    if !s.onPool d || (s.prt d.func).quiesced then .next s
    else
      let bad (d : Desc) : Bool := d.cfgid != 0 || !s.owns d.func d.place 1
      if !bad d && (s.poolPick d).isNone then .next s
      else
        .next (s.beginDesc r (· == 5) bad (fun d u =>
          let t := u.readTable d
          match u.poolPick d with
          | none => t
          | some (n, c, _) => (t.started d).startRun d.func c
              { desc := some (d.ring, d.index), args := d.args 16, train := d.train, group := n } false))

/-- STREAM, BOP, LATENCY and FRING of a FRAME_BIND (R316). -/
def Desc.stream (d : Desc) : Nat := d.field 10 2
def Desc.bop (d : Desc) : Nat := d.field 12 1
def Desc.fring (d : Desc) : Nat := d.field 20 4

/-- A FRAME_BIND with BOP 0 is refused (R315, R317, R357). -/
def State.bindBad (s : State) (d : Desc) : Bool :=
  let x := s.ctx d.stream
  1 < d.bop || 1023 < d.stream || !(s.cfg d.func d.cfgid).loaded || !(s.cfg d.func d.cfgid).frame || !x.valid || x.func != d.func
    || x.bound.isSome || !(s.boundTo d.func d.cfgid).isEmpty || !s.ringNamed d.func d.fring
    || (s.ring (s.absRing d.func d.fring)).kind != .event

/-- The first frame whose slot starts no earlier than a time of TPORT, in half-nanoseconds (R352, R354): a first guess below it and
the next that qualifies. -/
def Ctx.firstSlot (x : Ctx) (t : Int) : Nat :=
  let g := ((t - 2000 * (x.field 52 4 : Nat)).toNat * x.rateNum) / (2000000000 * x.rateDen) - 1
  ((fromTo g 4).find? (fun n => t ≤ x.slotAt n)).getD (g + 4)

/-- The binding that a FRAME_BIND makes (R357). -/
def State.newBinding (s : State) (d : Desc) (x : Ctx) : Binding :=
  { func := d.func, cfgid := d.cfgid, latency := d.field 16 4, fring := d.fring, args := d.args 24, ring := s.ringNum d.func d.ring,
    next := x.firstSlot (s.ptpTime x.tport + 2000000) }

/-- FRAME_BIND (R357, R359): the first slot is the first at least 1 ms after the completion. -/
def execFrameBind (r : DescRef) (s : State) : Res :=
  match s.desc r.ring.val r.index with
  | none => .next s
  | some d =>
    if d.bop = 1 then .next s
    else .next (s.beginDesc r (· == 6) s.bindBad (fun d t =>
      (t.modCtx d.stream (fun x => { x with bound := some (t.newBinding d x) })).endDesc d stOk))

/-- A FRAME_BIND with BOP 1 is refused: the context is not bound to the configuration by this function, or is being unbound. -/
def State.unbindBad (s : State) (d : Desc) : Bool :=
  1023 < d.stream || !(s.cfg d.func d.cfgid).loaded || !(s.cfg d.func d.cfgid).frame || !s.ringNamed d.func d.fring ||
    (match (s.ctx d.stream).bound with
    | some b => b.func != d.func || b.cfgid != d.cfgid || b.unbind.isSome
    | none => true)

/-- A binding that is being unbound ends once its run has completed and its results have left. -/
def State.unbindDone (s : State) (x : Nat) : State :=
  match (s.ctx x).bound with
  | none => s
  | some b => if b.unbind.isSome && b.running.isNone && b.anc.isEmpty then s.endBinding x else s

/-- FRAME_UNBIND (R357): waiting frames are released, and the descriptor completes once the run in progress has. -/
def execFrameUnbind (r : DescRef) (s : State) : Res :=
  match s.desc r.ring.val r.index with
  | none => .next s
  | some d =>
    if d.bop ≠ 1 then .next s
    else if d.started && d.opcode == 6 then .next (s.unbindDone d.stream)
    else
      .next (s.beginDesc r (· == 6) s.unbindBad (fun d t =>
        ((t.started d).modBound d.stream (fun b => { b with waiting := [], unbind := some (d.ring, d.index) })).unbindDone d.stream))

end Sys2Proof.Machine
end

