-- ==== Sys2Proof/Machine/Media.lean ====
section
/-! DEFINITION. Media ports: stream contexts, ingest, PTP time bases, frame slots and ancillary data (R16, R222, R346 to R365). -/
namespace Sys2Proof.Machine

/-! ### Registers of the block -/

/-- Offsets of the MEDIA block (R365). -/
def mediaPort (p : Nat) : Nat := mediaBase + 0x1000 + 0x100 * p
def offRxDisc (p : Nat) : Nat := mediaPort p + 0x30

/-- MEDIA_LOCK (R365). -/
def execMediaLock (f : Func) (s : State) : Res :=
  if s.reachesPF f.val then .next { s with media := { s.media with lock := true } } else .next s

/-- A port is named by a valid stream context (R350, R365). -/
def State.ctxUses (s : State) (p : Nat) : Bool :=
  s.media.ctx.any (fun e =>
    let x := e.2
    x.valid && (x.field 2 1 == p || x.tport == p || (x.red && x.field 3 1 == p) || (x.sendsAnc && x.field 82 1 == p)))

/-- Ports in Tow mode (R16). -/
def State.towPorts (s : State) : Nat := ((List.range 16).filter (fun p => (s.mport p).mode == .tow)).length

/-- A MODE or SPEED write to a port is ignored (R16, R365). (DEDUCED, log 92) -/
def State.modeRefused (s : State) (p mode : Nat) : Bool :=
  mode == 3 || s.ctxUses p || ((s.mport p).mode == .tow && (s.tport p).state == .up)
    || (mode == 2 && (s.mport p).mode != .tow && 12 ≤ s.towPorts)

/-- The mode of a code (R365). -/
def modeOf (k : Nat) : PortMode := if k = 1 then .media else if k = 2 then .tow else .off

/-- A Tow port that begins to train, or stops: SEQ restarted and all credits restored (R373). -/
def TPort.restart (t : TPort) (st : TowState) : TPort := { dim := t.dim, dateline := t.dateline, mac := t.mac, state := st }

/-- The code of a time-base state (R365). -/
def PtpState.code : PtpState → Nat
  | .unlocked => 0
  | .locking => 1
  | .locked => 2
  | .holdover => 3

/-- A time base changes its state, with PTP_STATE (R356). -/
def State.ptpTo (s : State) (p : Nat) (st : PtpState) : State :=
  let old := (s.mport p).state
  if old = st then s
  else (s.modMport p (fun m => { m with state := st, good := 0 })).raiseWide 0x0012 (p + 16 * st.code + 64 * old.code)

/-- PTP no longer runs on a port that leaves media mode or whose EN is cleared: it has no master, and the time base is UNLOCKED (R356).
(DEDUCED, log 153) -/
def State.ptpStop (s : State) (p : Nat) (runs : Bool) : State :=
  if runs then s
  else (s.modMport p (fun m => { m with masters := [], master := none, step := false })).ptpTo p .unlocked

/-- MEDIA_PORT_CFG_WRITE (R16, R346, R365). -/
def execMediaPortCfgWrite (f : Func) (p : EPort) (value : W32) (s : State) : Res :=
  let v := value.toNat
  if !s.reachesPF f.val || s.media.lock then .next s
  else
    let s1 := s.modMport p.val (fun m => { m with vlanEn := bitOf v 27, pcp := bits v 26 24, vid := bits v 23 12 })
    if s.modeRefused p.val (bits v 31 30) || bits v 29 28 == 3 then .next (s1.modMport p.val (fun m => { m with refused := true }))
    else
      let mode := modeOf (bits v 31 30)
      if (s.mport p.val).mode = mode ∧ (s.mport p.val).speed = bits v 29 28 then
        .next (s1.modMport p.val (fun m => { m with refused := false }))
      else
        .next (((s1.modMport p.val (fun m =>
          { m with mode := mode, speed := bits v 29 28, refused := false, link := if mode = .off then .down else .training })).ptpStop p.val
          (mode == .media)).modTport p.val (fun t => t.restart (if mode = .tow then .training else .down)))

/-- MEDIA_LINK_DOWN (R364): frames on the port become incomplete because no packet arrives. -/
def execMediaLinkDown (p : EPort) (s : State) : Res :=
  if s.ready && (s.mport p.val).mode == .media then .next (s.modMport p.val (fun m => { m with link := .down })) else .next s

/-- MEDIA_LINK_UP (R427). -/
def execMediaLinkUp (p : EPort) (s : State) : Res :=
  if s.ready && (s.mport p.val).mode == .media then .next (s.modMport p.val (fun m => { m with link := .up })) else .next s

/-! ### Stream contexts -/

/-- Octets and pixels of a pgroup (R348). -/
def pgroup (rgb : Bool) (depth : Nat) : Nat × Nat :=
  if rgb then (if depth = 0 then (3, 1) else if depth = 1 then (15, 4) else (9, 2))
  else if depth = 0 then (4, 2) else if depth = 1 then (5, 2) else (6, 2)

/-- The pgroup of a context, its size, and its interlaced bit (R349). -/
def Ctx.pg (x : Ctx) : Nat × Nat := pgroup (bits (x.field 7 1) 7 4 == 1) (bits (x.field 7 1) 3 2)
def Ctx.width (x : Ctx) : Nat := x.field 26 2
def Ctx.height (x : Ctx) : Nat := x.field 28 2
def Ctx.lstride (x : Ctx) : Nat := x.field 30 2
def Ctx.interlaced (x : Ctx) : Bool := bitOf (x.field 7 1) 1
def Ctx.v6 (x : Ctx) : Bool := bitOf (x.field 0 1) 3

/-- Bytes of a line. -/
def Ctx.lineBytes (x : Ctx) : Nat := (x.width + x.pg.2 - 1) / x.pg.2 * x.pg.1

/-- Addresses of frame buffer k and result buffer k (R351). -/
def Ctx.frameBuf (x : Ctx) (k : Nat) : Nat := x.field 40 8 + k * x.field 48 4
def Ctx.resultBuf (x : Ctx) (k : Nat) : Nat := x.field 104 8 + k * x.field 112 4

/-- A field of a context breaks R348 or R349. -/
def Ctx.fieldBad (x : Ctx) : Bool :=
  let fmt := x.field 7 1
  x.field 0 1 % 8 != 0 || 63 < x.field 1 1 || 15 < x.field 2 1 || (x.red && 15 < x.field 3 1) || 15 < x.tport || 32 < x.field 5 1
    || x.field 6 1 < 96 || 127 < x.field 6 1 || 1 < bits fmt 7 4 || bits fmt 3 2 == 3 || bitOf fmt 0
    || (!x.v6 && (x.field 12 12 != 0 || x.field 68 12 != 0 || x.field 92 12 != 0))
    || x.width < 2 || 4096 < x.width || x.width % 2 != 0 || x.height < 1 || 2160 < x.height || (x.interlaced && x.height % 2 != 0)
    || x.lstride % 64 != 0 || x.rateDen == 0 || x.rateNum * 1001 < 24000 * x.rateDen || 120 * x.rateDen < x.rateNum
    || (x.sendsAnc && (15 < x.field 82 1 || 127 < x.field 83 1)) || 2047 < x.field 86 2 || x.field 112 4 % 64 != 0
    || x.field 118 2 != 0

/-- Destination address and port of a path of a context on a port. -/
def Ctx.paths (x : Ctx) : List (Nat × Nat × Nat × Bool) :=
  (x.field 2 1, x.field 8 16, x.field 24 2, x.v6) :: (if x.red then [(x.field 3 1, x.field 64 16, x.field 80 2, x.v6)] else [])

/-- The addresses that carry ancillary data are multicast (R350). -/
def Ctx.odMulticast (x : Ctx) : Bool := if x.v6 then x.field 88 1 == 255 else 224 ≤ x.field 88 1 && x.field 88 1 < 240

/-- A context that a write would make valid is refused (R350). (DEDUCED, log 93) -/
def State.ctxRefused (s : State) (c : Nat) (x : Ctx) : Bool :=
  let media (p : Nat) : Bool := (s.mport p).mode == .media
  x.fieldBad || !media (x.field 2 1) || !media x.tport || (x.red && !media (x.field 3 1)) || (x.sendsAnc && !media (x.field 82 1))
    || s.media.ctx.any (fun e => e.1 != c && e.2.valid && e.2.paths.any (fun p => x.paths.contains p))
    || (x.sendsAnc && !x.odMulticast) || x.lstride < x.lineBytes || x.field 48 4 < x.height * x.lstride
    || (List.range 4).any (fun k => !s.ownsPlaced x.func (x.frameBuf k) (x.height * x.lstride)
        || !s.ownsPlaced x.func (x.resultBuf k) (x.field 112 4))
    || !s.ownsPlaced x.func (x.field 120 8) 64

/-- The bytes of a context with its reserved fields zero (R5, R349). -/
def ctxClean (b : List W8) : List W8 :=
  b.zipIdx.map (fun e => if e.2 = 0 then e.1 &&& 0xF8 else if e.2 = 1 then e.1 &&& 0x3F else if e.2 = 7 then e.1 &&& 0xFE
    else if e.2 = 118 ∨ e.2 = 119 then 0 else e.1)

/-- MEDIA_CTX_WRITE (R5, R349, R350): a context without V keeps no reserved field. -/
def execMediaCtxWrite (f : Func) (c : StreamIx) (bytes : List W8) (s : State) : Res :=
  let old := s.ctx c.val
  let x : Ctx := { raw := bytes, rtp := old.rtp }
  if !s.reachesPF f.val || bytes.length != 128 then .next s
  else if old.valid then
    (if !x.valid && old.bound.isNone then .next (s.modCtx c.val (fun _ => { x with raw := ctxClean bytes })) else .next s)
  else if !x.valid then .next (s.modCtx c.val (fun _ => { x with raw := ctxClean bytes, bad := old.bad }))
  else if s.ctxRefused c.val x then .next (s.modCtx c.val (fun y => { y with bad := true }))
  else .next (s.modCtx c.val (fun _ => x))

/-! ### Ingest -/

/-- RTP timestamp of frame n (R352). -/
def Ctx.stamp (x : Ctx) (n : Nat) : Nat := 90000 * (n * x.rateDen) / x.rateNum % 4294967296

/-- The index of a time of TPORT (R352). -/
def Ctx.indexAt (x : Ctx) (t : Int) : Nat := t.toNat * x.rateNum / (2000000000 * x.rateDen)

/-- The frame that a timestamp belongs to (R352). -/
def Ctx.frameOf (x : Ctx) (t : Int) (ts : W32) : Option Nat :=
  let n := x.indexAt t
  (span (n - 4) (n + 4)).find? (fun k => x.stamp k == ts.toNat)

/-- The frame line of a segment (R351). -/
def Ctx.frameLine (x : Ctx) (g : RowSeg) : Nat := if x.interlaced then 2 * g.line + g.second.toNat else g.line

/-- A segment lies outside the frame, or is not whole pgroups (R351, R352). -/
def Ctx.segBad (x : Ctx) (g : RowSeg) : Bool :=
  let pg := x.pg
  x.height ≤ x.frameLine g || (!x.interlaced && g.second) || g.pixel % pg.2 != 0 || g.bytes.length % pg.1 != 0
    || x.width < g.pixel + g.bytes.length / pg.1 * pg.2

/-- Where a segment is stored (R351). -/
def Ctx.segAddr (x : Ctx) (n : Nat) (g : RowSeg) : Nat :=
  x.frameBuf (n % 4) + x.frameLine g * x.lstride + g.pixel / x.pg.2 * x.pg.1

/-- A frame is held by a waiting or running frame that uses its buffer (R352). -/
def Ctx.held (x : Ctx) (n : Nat) : Bool := match x.bound with
  | some b => b.waiting.any (fun m => m % 4 == n % 4) || (match b.running with | some m => m % 4 == n % 4 | none => false)
  | none => false

/-- Reception of a frame. -/
def Ctx.getRecv (x : Ctx) (n : Nat) : Recv := Tab.get {} x.recv n

/-- Change the reception of a frame; the reception of frames more than 16 back is forgotten. -/
def Ctx.modRecv (x : Ctx) (n : Nat) (g : Recv → Recv) : Ctx :=
  { x with recv := Tab.put {} (Tab.drop (fun k => k + 16 < n) x.recv) n (g (x.getRecv n)) }

/-- The marker of a frame has come. -/
def Ctx.mark (x : Ctx) (n : Nat) (m : MediaFrame) : Ctx :=
  if m.marker then { x with lastSeq := Tab.ins (Tab.drop (fun k => k + 16 < n) x.lastSeq) n m.seq } else x

/-- Store a segment where its page belongs to the context's function. -/
def State.storeSeg (s : State) (c n : Nat) (g : RowSeg) : State :=
  let x := s.ctx c
  let a := x.segAddr n g
  if s.owns x.func a g.bytes.length && !g.bytes.isEmpty then (s.demand none a g.bytes.length true none).devStore 9 a g.bytes else s

/-- The context that a frame's destination names on a port (R347). -/
def State.ctxFor (s : State) (p : Nat) (m : MediaFrame) : Option Nat :=
  (s.media.ctx.find? (fun e => e.2.valid && !s.resetting e.2.func
    && e.2.paths.any (fun y => y == (p, leNat m.dst, m.dport.toNat, m.v6)))).map Prod.fst

/-- The slot of a frame has been decided (R352). -/
def Ctx.past (x : Ctx) (n : Nat) : Bool := match x.decided with | some d => decide (n ≤ d) | none => false

/-- A packet of a frame is counted as late (R352). -/
def State.latePkt (s : State) (c n : Nat) (m : MediaFrame) (spoil : Bool) : State :=
  (s.bump (ctxStatus c + 0x28) 1).modCtx c (fun x =>
    if spoil then (x.mark n m).modRecv n (fun r => { r with broken := true }) else x.mark n m)

/-- A packet's data is stored (R351 to R353). -/
def State.storePkt (s : State) (c n : Nat) (m : MediaFrame) : State :=
  (s.each m.segs (fun t g => t.storeSeg c n g)).modCtx c (fun x => (x.mark n m).modRecv n (fun r =>
    { r with seqs := m.seq :: r.seqs, marker := if m.marker then some m.seq else r.marker }))

/-- A packet reaches its stream context (R351 to R353). (DEDUCED, log 94) -/
def State.ingest (s : State) (c : Nat) (m : MediaFrame) : State :=
  let x := s.ctx c
  match x.frameOf (s.ptpTime x.tport) m.ts with
  | none => s.bump (ctxStatus c + 0x20) 1
  | some n =>
    if m.pt.toNat != x.field 6 1 || 3 < m.segs.length || m.segs.any x.segBad then s.bump (ctxStatus c + 0x20) 1
    else if x.red && (x.getRecv n).seqs.contains m.seq then s
    else if x.past n then s.latePkt c n m false
    else if x.held n then s.latePkt c n m true
    else if (x.getRecv n).seqs.contains m.seq then s
    else s.storePkt c n m

/-- A frame's tag is accepted (R347). -/
def MPort.tagOk (m : MPort) (t : Option (BitVec 12)) : Bool := match t with
  | none => true
  | some v => m.vlanEn && v.toNat == m.vid

/-- MEDIA_PACKET (R347, R351 to R353). -/
def execMediaPacket (p : EPort) (m : MediaFrame) (s : State) : Res :=
  let q := s.mport p.val
  if !s.ready || q.link != .up then .next s
  else if q.mode = .tow then .next (s.bump (offRxDisc p.val) 1)
  else if q.mode = .off then .next s
  else
    match (if m.bytes ≤ 9216 && q.tagOk m.vlan then s.ctxFor p.val m else none) with
    | none => .next (s.bump (offRxDisc p.val) 1)
    | some c => .next (s.ingest c m)

/-! ### PTP -/

/-- PTP runs on a port. -/
def State.ptpRuns (s : State) (p : Nat) : Bool :=
  let m := s.mport p
  s.ready && m.mode == .media && m.ptpEn && m.link == .up

/-- The best master clock algorithm's order, over the fields that it compares first to last (R355). -/
def announceRank (a : Announce) : List Nat :=
  [a.prio1.toNat, a.clockClass.toNat, a.accuracy.toNat, a.variance.toNat, a.prio2.toNat, a.identity.toNat, a.steps.toNat]

/-- Lexicographic order. -/
def lexLt : List Nat → List Nat → Bool
  | x :: xs, y :: ys => x < y || (x == y && lexLt xs ys)
  | _, _ => false

/-- The best of the foreign masters. -/
def bestMaster (l : List Master) : Option Announce :=
  l.foldl (fun b m => match b with
    | none => some m.ann
    | some a => if lexLt (announceRank m.ann) (announceRank a) then some m.ann else some a) none

/-- The foreign masters after an Announce: at most 8 (R355). -/
def hearMaster (l : List Master) (a : Announce) (now : Nat) : List Master :=
  let rest := l.filter (fun m => m.ann.identity != a.identity)
  if rest.length < 8 then rest ++ [{ ann := a, heard := now }] else rest

/-- PTP_ANNOUNCE (R355, R356): a master is selected; an UNLOCKED time base enters LOCKING and steps at the next Sync. -/
def execPtpAnnounce (p : EPort) (a : Announce) (s : State) : Res :=
  let m := s.mport p.val
  if !s.ptpRuns p.val || a.domain.toNat != m.domain || a.v6 != m.ptpV6 then .next s
  else
    let l := hearMaster m.masters a s.now
    let s1 := s.modMport p.val (fun m => { m with masters := l, master := bestMaster l })
    if m.state = .unlocked then .next ((s1.modMport p.val (fun m => { m with step := true })).ptpTo p.val .locking) else .next s1

/-- The largest slew of a time base towards its master (R356): 50 ppm of the time since the last Sync in LOCKED and HOLDOVER, up to
the whole offset in LOCKING. (DEDUCED, log 95) -/
def MPort.slewMax (m : MPort) (now : Nat) (offset : Int) : Nat :=
  if m.state = .locking then offset.natAbs else min offset.natAbs ((now - m.since) / 10)

/-- A step of a time base moves the slots that it passes over: bindings continue at the first slot from the new time on (R354). -/
def State.stepSlots (s : State) (p : Nat) : State :=
  s.each (s.media.ctx.map Prod.fst) (fun t c =>
    let x := t.ctx c
    if x.tport = p ∧ x.bound.isSome then
      (t.modCtx c (fun x => { x with decided := none, recv := [], lastSeq := [] })).modBound c (fun b =>
        { b with next := x.firstSlot (t.ptpTime p) })
    else t)

/-- PTP_SYNC (R356): the offset of the time base from its master, in half-nanoseconds. The slew is a free value within its bound.
(DEDUCED, log 97) -/
def execPtpSync (p : EPort) (offset : Int) (s : State) : Res :=
  let m := s.mport p.val
  if !s.ptpRuns p.val || m.state = .unlocked || m.master.isNone then .next s
  else if m.step then
    .next ((s.modMport p.val (fun m => { m with base := m.base - offset, step := false, offset := 0, since := s.now })).stepSlots p.val)
  else
    let t := s.takeFree
    let d : Int := ((Config.freeValue t.1).toNat % (m.slewMax s.now offset + 1) : Nat)
    let good := if offset.natAbs < 2000 then m.good + 1 else 0
    let s1 := t.2.modMport p.val (fun m =>
      { m with base := if 0 ≤ offset then m.base - d else m.base + d, offset := offset, good := good, since := s.now })
    if 16 ≤ good && m.state != .locked then .next (s1.ptpTo p.val .locked) else .next s1

/-- The announce interval of a master in microseconds (R355). -/
def announceInterval (a : Announce) : Nat := 125000 * 2 ^ a.logInterval.val

/-- The announce receipt timeout of a port's master has expired (R355, R365, R537): ANN_TO intervals without an Announce of it. -/
def MPort.announceLate (m : MPort) (now : Nat) : Bool :=
  match m.master with
  | none => false
  | some a => m.masters.all (fun x => x.ann.identity != a.identity || decide (x.heard + min 7 (max 2 m.annTo) * announceInterval a ≤ now))

/-- PTP_ANNOUNCE_TIMEOUT (R356): the announce receipt timeout expires. -/
def execPtpAnnounceTimeout (p : EPort) (s : State) : Res :=
  let m := s.mport p.val
  if !s.ready || m.mode != .media || !m.ptpEn || !m.announceLate s.now then .next s
  else
    let s1 := s.modMport p.val (fun m => { m with masters := [], master := none, lost := s.now, step := false })
    .next (s1.ptpTo p.val (if m.state = .locked ∨ m.state = .holdover then .holdover else .unlocked))

/-- PTP_HOLDMAX (R356, R365, R537): HOLDMAX seconds have passed without a master. -/
def execPtpHoldmax (p : EPort) (s : State) : Res :=
  let m := s.mport p.val
  if m.state = .holdover ∧ m.master.isNone ∧ m.lost + 1000000 * min 3600 (max 1 m.holdmax) ≤ s.now then .next (s.ptpTo p.val .unlocked) else .next s

/-! ### Frame slots -/

/-- Frame n of a context is complete (R353). -/
def Ctx.complete (x : Ctx) (n : Nat) : Bool :=
  let r := x.getRecv n
  match r.marker, (x.lastSeq.find? (fun e => e.1 + 1 == n)).map Prod.snd with
  | some e, some b =>
    !r.broken && (e - b).toNat ≤ 65536 && (List.range (e - b).toNat).all (fun k => r.seqs.contains (b + 1 + BitVec.ofNat 32 k))
  | _, _ => false

/-- REASON codes of a dropped frame (R363). -/
inductive Drop where
  | notime | quiesced | reload | halted | incomplete | decimate | overrun
  deriving DecidableEq, Repr

/-- The code of a reason (R363). -/
def Drop.code : Drop → Nat
  | .notime => 1
  | .quiesced => 2
  | .reload => 3
  | .halted => 4
  | .incomplete => 5
  | .decimate => 6
  | .overrun => 7

/-- Why frame n is dropped, if it is (R359). -/
def State.dropReason (s : State) (x : Ctx) (b : Binding) (n : Nat) : Option Drop :=
  let st := (s.mport x.tport).state
  let k := s.cfg b.func b.cfgid
  if st = .unlocked ∨ st = .locking then some .notime
  else if (s.prt b.func).quiesced then some .quiesced
  else if k.load.isSome then some .reload
  else if k.halted.isSome then some .halted
  else if !x.complete n then some .incomplete
  else if n * b.level / 64 < (n + 1) * b.level / 64 then some .decimate
  else if 2 ≤ b.waiting.length then some .overrun
  else none

/-- L rises by one, up to LMAX (R359). -/
def Binding.rise (b : Binding) (lmax : Nat) : Binding := if b.level < lmax then { b with level := b.level + 1, sinceRise := some 0 } else b

/-- SLOT_DECIDE (R354, R359, R363): at S_n, frame n is dropped or waits for a run. -/
def execSlotDecide (c : StreamIx) (s : State) : Res :=
  let x := s.ctx c.val
  match x.bound with
  | none => .next s
  | some b =>
    let n := b.next
    if !s.ready || s.resetting b.func || b.unbind.isSome || decide (s.ptpTime x.tport < x.slotAt n) then .next s
    else
      let s1 := (s.modCtx c.val (fun x => { x with decided := some n })).modBound c.val (fun b =>
        { b with next := n + 1, sinceRise := b.sinceRise.map (· + 1) })
      match s.dropReason x b n with
      | none => .next (s1.modBound c.val (fun b => { b with waiting := b.waiting ++ [n] }))
      | some r =>
        let s2 := if r = .overrun then s1.modBound c.val (fun b => b.rise (x.field 5 1)) else s1
        .next ((s2.bump (ctxStatus c.val + 0x10) 1).frameReport c.val n stDropped 0 r.code 0)

/-- The slot record of frame n (R358). -/
def Ctx.slotRecord (x : Ctx) (n : Nat) : List W8 :=
  leBytes 8 n ++ leBytes 8 (n % 4) ++ leBytes 8 (x.slotAt n).toNat ++ leBytes 8 (x.stamp n) ++ leBytes 32 0

/-- A run of the context may start (R159, R316, R358, R359). -/
def State.mayStart (s : State) (b : Binding) : Bool :=
  let k := s.cfg b.func b.cfgid
  s.ready && !s.resetting b.func && b.unbind.isNone && b.running.isNone && k.run.isNone && k.load.isNone && k.halted.isNone
    && !(s.prt b.func).quiesced

/-- The deferral of a start changes L (R359). -/
def Binding.startLevel (b : Binding) (d : Int) (deferMax lmax : Nat) : Binding :=
  let b1 := if (deferMax : Int) * 2000 < d && (match b.sinceRise with | some k => 64 ≤ k | none => true) then b.rise lmax else b
  let b2 := { b1 with onTime := if d ≤ 2000 then b1.onTime + 1 else 0 }
  if 4096 ≤ b2.onTime then { b2 with level := b2.level - 1 } else b2

/-- SLOT_RUN_START (R264, R358, R359): the slot record is written and the start broadcast. (DEDUCED, log 99) -/
def execSlotRunStart (c : StreamIx) (s : State) : Res :=
  let x := s.ctx c.val
  match x.bound with
  | none => .next s
  | some b =>
    match b.waiting with
    | [] => .next s
    | m :: rest =>
      if !s.mayStart b then .next s
      else
        let d := s.ptpTime x.tport - x.slotAt m
        let s1 := if s.owns b.func (x.field 120 8) 64 then (s.demand none (x.field 120 8) 64 true none).devStore 9 (x.field 120 8) (x.slotRecord m) else s
        let s2 := s1.modBound c.val (fun b =>
          { b.startLevel d (x.field 56 4) (x.field 5 1) with waiting := rest, running := some m })
        .next (s2.startRun b.func b.cfgid { stream := some c.val, args := b.args } true)

/-- SLOT_START_ARRIVE (R120, R222): the broadcast reaches a cluster and its cores are set. -/
def execSlotStartArrive (x : Site) (s : State) : Res :=
  let i := Site.idx x
  if !s.fab.starts.contains i then .next s
  else
    let s1 := s.modFab (fun b => { b with starts := b.starts.filter (· != i) })
    match s.runOf i with
    | some (_, u) => if u.stream.isSome then .next (s1.beginAt i u.args) else .next s1
    | none => .next s1

/-! ### Ancillary data -/

/-- The `n` bits of a number, most significant first. -/
def msbBits (n v : Nat) : List Bool := (List.range n).map (fun i => v.testBit (n - 1 - i))

/-- Bits as bytes, most significant first, with zeros to fill the last. -/
def bitsBytes : Nat → List Bool → List W8
  | 0, _ => []
  | k + 1, l => if l = [] then [] else
      BitVec.ofNat 8 (((List.range 8).map (fun i => if l.getD i false then 2 ^ (7 - i) else 0)).sum) :: bitsBytes k (l.drop 8)

/-- A byte as a 10-bit word with its parity bits (R362, ST 291-1): b8 makes the parity even and b9 is its complement. -/
def anc10 (v : Nat) : Nat :=
  let odd := (List.range 8).foldl (fun p i => p != v.testBit i) false
  v % 256 + (if odd then 256 else 512)

/-- The checksum word of ST 291-1: the sum of the low 9 bits of the words, with b9 the complement of b8. -/
def ancSum (l : List Nat) : Nat :=
  let v := (l.map (· % 512)).sum % 512
  v + (if v.testBit 8 then 0 else 512)

/-- An ANC packet of a result buffer (R362): its DID, SDID, DC and user data words. -/
def ancWords (b : List W8) : List Nat := [byteAt b 0, byteAt b 1, byteAt b 2] ++ (List.range (byteAt b 2)).map (fun i => byteAt b (4 + i))

/-- An ANC packet as RFC 8331 carries it (R361): C, Line_Number, Horizontal_Offset, S and StreamNum, the 10-bit words and the
checksum, filled to a multiple of 32 bits. -/
def ancPacket (line : Nat) (b : List W8) : List W8 :=
  let ws := (ancWords b).map anc10
  let l := msbBits 32 (2 ^ 20 * line + 2 ^ 8 * 0xFFF) ++ (ws ++ [ancSum ws]).flatMap (msbBits 10)
  let bytes := bitsBytes 1024 l
  bytes ++ List.replicate ((4 - bytes.length % 4) % 4) 0

/-- The ANC packets of a result buffer, end to end: `k` packets; none if they overrun the buffer (R362). -/
def ancParse : Nat → List W8 → Option (List (List W8))
  | 0, _ => some []
  | k + 1, b =>
    let n := 4 + (byteAt b 2 + 3) / 4 * 4
    if b.length < n then none else (ancParse k (b.drop n)).map (fun l => b.take n :: l)

/-- Group ANC packets so that no payload exceeds 1,400 bytes with its 8-byte header (R361). -/
def ancGroup : List (List W8) → List (List W8) → List (List (List W8))
  | cur, [] => if cur = [] then [] else [cur]
  | cur, x :: l =>
    if cur ≠ [] ∧ 1400 < 8 + (cur.map List.length).sum + x.length then cur :: ancGroup [x] l else ancGroup (cur ++ [x]) l

/-- Big-endian bytes, as RTP carries numbers. -/
def beBytes (n v : Nat) : List W8 := (leBytes n v).reverse

/-- An RTP packet of ancillary data (R361): extended sequence number, timestamp, payload type, SSRC, payload header and packets. -/
def ancRtp (pt : Nat) (marker : Bool) (seq ts ssrc : Nat) (l : List (List W8)) : List W8 :=
  let body := l.flatten
  beBytes 1 128 ++ beBytes 1 ((if marker then 128 else 0) + pt) ++ beBytes 2 seq ++ beBytes 4 ts ++ beBytes 4 ssrc
    ++ beBytes 2 (seq / 65536) ++ beBytes 2 body.length ++ beBytes 1 l.length ++ beBytes 3 0 ++ body

/-- The source address of what a port sends: MEDIA_PORT_IP4 or MEDIA_PORT_IP6 (R365). -/
def State.portAddr (s : State) (p : Nat) (v6 : Bool) : List W8 :=
  if v6 then (List.range 4).flatMap (fun k => leBytes 4 (s.reg (mediaPort p + 0x10 + 4 * k)).toNat) else leBytes 4 (s.reg (mediaPort p + 8)).toNat

/-- Send the groups of packets of frame n of a context, the last one marked (R361). (DEDUCED, log 100) -/
def State.sendAnc (s : State) (c n : Nat) : List (List (List W8)) → State
  | [] => s
  | g :: l =>
    let x := s.ctx c
    let q := s.mport (x.field 82 1)
    let o : Out := .frame (x.field 82 1) (if q.vlanEn then some (q.pcp * 8192 + q.vid) else none)
      (s.portAddr (x.field 82 1) x.v6) ((x.raw.drop 88).take (if x.v6 then 16 else 4)) (x.field 84 2) (x.field 116 2)
      (ancRtp (x.field 83 1) l.isEmpty x.rtp.toNat (x.stamp n) (0x53570000 + c) g)
    let s1 := if q.link = .up then s.emit o else s
    (s1.modCtx c (fun x => { x with rtp := x.rtp + 1 })).sendAnc c n l

/-- The ANC packets of frame n's result buffer, as RFC 8331 carries them at OLINE: none when they overrun the buffer (R361, R362). -/
def State.ancOf (s : State) (x : Ctx) (n : Nat) : Option (List (List W8)) :=
  let size := x.field 112 4
  let b := s.devRead none (x.resultBuf (n % 4)) size
  if size = 0 then none else if 255 < rd b 0 2 then none
  else (ancParse (rd b 0 2) (b.drop 4)).map (fun l => l.map (ancPacket (x.field 86 2 % 2048)))

/-- A run's results leave, and its report is written (R360, R361). -/
def State.ancReport (s : State) (c : Nat) (a : AncWait) (p : Report) : State :=
  let x := s.ctx c
  (s.modBound c (fun b => { b with anc := b.anc.drop 1 })).runReport c a.frame p (max a.done (s.ptpTime x.tport))

/-- ANC_TRANSMIT (R262, R360 to R363): at the later of completion and S_n + HOLD, the ancillary data of the oldest completed run is
sent. -/
def execAncTransmit (c : StreamIx) (s : State) : Res :=
  let x := s.ctx c.val
  match x.bound with
  | none => .next s
  | some b =>
    match b.anc with
    | [] => .next s
    | a :: _ =>
      if x.field 60 4 ≠ 0 ∧ s.ptpTime x.tport < x.slotAt a.frame + 2000 * x.field 60 4 then .next s
      else
        let buf := x.resultBuf (a.frame % 4)
        let bad := s.badRead none buf (x.field 112 4)
        if bad ≠ [] then .next ((s.memUEs 9 bad).ancReport c.val a { a.report with status := stMemUE, flags := 0 })
        else
          match (if s.owns b.func buf (x.field 112 4) then s.ancOf x a.frame else none) with
          | none => .next (s.ancReport c.val a { a.report with status := stIllegal, flags := 0 })
          | some l =>
            let s1 := if x.field 112 4 = 0 then s else s.demand none buf (x.field 112 4) false none
            .next ((s1.sendAnc c.val a.frame (ancGroup [] l)).ancReport c.val a a.report)

end Sys2Proof.Machine
end

