-- ==== Sys2Proof/Machine/Partition.lean ====
section
/-! DEFINITION. Partitions: assignment of clusters, and partition resets (R27, R119, R141, R238, R291, R294, R301, R332 to R345). -/
namespace Sys2Proof.Machine

/-- The clusters that a function owns. -/
def State.clustersOf (s : State) (f : Nat) : List Nat := s.cl.filterMap (fun e => if e.2.owner == some f then some e.1 else none)

/-- The functions of a host port (R296). -/
def portFuncs (h : Nat) : List Nat := fromTo (32 * h) 32

/-- PART_RESETS, PART_RESET_DISCARD and PART_ENDED of a function (R335). -/
def offPartResets (f : Nat) : Nat := partSet f + 0x18
def offPartEnded (f : Nat) : Nat := partSet f + 0x28

/-! ### Clearing a cluster -/

/-- A core after a partition reset, and a cluster as R141 and R119 leave it. -/
def Cluster.clear (c : Cluster) : Cluster :=
  { c.unload with sp := [], spBad := [], spSoft := [], pass := [], accInt := [], pred := [], glen := [], dmaErr := {}, epoch := 0,
                  caps := [], resetting := false, needsClear := false }

/-- Clear a cluster (R119, R141, R414): its captures are counted in INTEG_SKIP and three of its counter pairs are cleared. -/
def State.clearCluster (s : State) (i : Nat) : State :=
  let n := (s.clu i).caps.length
  let s1 := if n = 0 then s else s.bump offSkip n
  let s2 := s1.modClu i Cluster.clear
  { s2 with ctrs := Tab.drop (fun k => k == clPage i + 8 || k == clPage i + 0x18 || k == clPage i + 0x20) s2.ctrs }

/-! ### Phases 1 and 2 -/

/-- The descriptors of a function end with the status PARTITION_RESET and without completions (R326, R339): each is counted, and the
last one recorded. -/
def State.endDescs (s : State) (f : Nat) : State :=
  match (s.hst.descs.filter (fun d => d.func == f)).reverse with
  | [] => s
  | d :: l =>
    let s1 := s.modPart f (fun p => { p with lastRing := s.ringNum f d.ring, lastTag := BitVec.ofNat 32 d.tag, lastStatus := stReset })
    (s1.modDescs (fun x => x.filter (fun y => y.func != f))).bump (offPartEnded f) (l.length + 1)

/-- The fold trees, timetable entries and barrier contexts of a function's configurations are freed (R238). -/
def State.freeAll (s : State) (f : Nat) : State := s.each ((s.prt f).cfg.map Prod.fst) (fun t c => t.freeCfg f c)

/-- The training state of a group after a reset of its owner (R393, R394). -/
def TGroup.reset (g : TGroup) : TGroup := { table := g.table, nelem := g.nelem }

/-- The version groups of a function. -/
def State.groupsOf (s : State) (f : Nat) : List Nat :=
  s.mem.group.filterMap (fun e => if e.2.state != .unused && e.2.owner == f then some e.1 else none)

/-- The bindings of a function's stream contexts end without reports (R364). -/
def State.dropBindings (s : State) (f : Nat) : State :=
  { s with media := { s.media with ctx := s.media.ctx.map (fun e => if e.2.func == f then (e.1, { e.2 with bound := none }) else e) } }

/-- What has issued to a cluster's matrix units is abandoned, with the passes that have started and the reservations (R175, R338). -/
def Cluster.stopUnits (c : Cluster) : Cluster :=
  { c with core := c.core.map (fun e => (e.1, { e.2 with matQueue := [], matRun := none, mms := [] })), resv := [], steal := [] }

/-- Mark and halt (R332, R338, R339, R393): phases 1 and 2 of a partition reset. -/
def State.markReset (s : State) (f : Nat) : State :=
  let l := s.clustersOf f
  let s1 := (s.haltCores l).each l (fun t i => t.modClu i (fun c => { c.abandon.stopUnits with resetting := true }))
  let s2 := ((s1.endDescs f).freeAll f).dropBindings f
  let s3 := s2.modPart f (fun p => { p with cfg := [], reset := some { since := s.now } })
  let s4 := s3.each (s3.groupsOf f) (fun t g => t.modTgroup g TGroup.reset)
  { s4 with tow := { s4.tow with fwd := s4.tow.fwd.filter (fun x => x.packet.func != f),
                                 outq := s4.tow.outq.filter (fun m => !(s3.groupsOf f).contains m.vgroup.val) } }

/-- A request to reset a function (R337, R343): it joins a reset in progress. (DEDUCED, log 88) -/
def State.requestReset (s : State) (f : Nat) : State := if s.resetting f then s else s.markReset f

/-- An SPDM connection ends with its held and waiting answers (R498). -/
def State.dropConns (s : State) (l : List Nat) : State :=
  let keep : Signing → Bool
    | .answer c _ _ => !l.contains c
    | _ => true
  { s with sec := { s.sec with conn := Tab.drop (fun k => l.contains k) s.sec.conn, waiting := s.sec.waiting.filter keep,
                               signing := match s.sec.signing with | some x => if keep x then some x else none | none => none } }

/-- FLR (R336, R498). -/
def execFlr (f : Func) (s : State) : Res :=
  if !s.reaches f.val then .next s
  else if isPF f.val then .next ((s.each (portFuncs (portOf f.val)) State.requestReset).dropConns [portOf f.val])
  else .next (s.requestReset f.val)

/-- The MSI-X tables and pending bits of a port's functions go back to reset with its controller (R27, R294, R342). (PRESUMED, log 157) -/
def State.resetVectors (s : State) (h : Nat) : State :=
  { s with hst := { s.hst with msix := Tab.drop (fun k => portOf (k / 8192) == h) s.hst.msix,
                               pba := Tab.drop (fun k => portOf (k / 2048) == h) s.hst.pba } }

/-- HOT_RESET (R27, R336, R342, R343, R498): every function of the port is reset, with the port's controller and its HIF_LOCK.
(DEDUCED, log 90) -/
def execHotReset (h : HPort) (s : State) : Res :=
  if !s.ready then .next s
  else .next ((((s.each (portFuncs h.val) State.requestReset).dropConns [h.val]).resetVectors h.val).modPort h.val (fun p =>
    { p with vfEnable := false, numVfs := 0, lock := false }))

/-- VF_ENABLE_SET (R294, R301). -/
def execVfEnableSet (h : HPort) (numVfs : Fin 32) (s : State) : Res :=
  let p := s.port h.val
  if !s.ready || p.perst || p.vfEnable then .next s
  else .next (s.modPort h.val (fun p => { p with vfEnable := true, numVfs := numVfs.val }))

/-- VF_ENABLE_CLEAR (R336). -/
def execVfEnableClear (h : HPort) (s : State) : Res :=
  let p := s.port h.val
  if !s.ready || p.perst || !p.vfEnable then .next s
  else .next ((s.each ((portFuncs h.val).drop 1) State.requestReset).modPort h.val (fun p => { p with vfEnable := false, numVfs := 0 }))

/-- The word that PART_CMD holds (R335). -/
def partWord (cmd : Nat) : W32 := BitVec.ofNat 32 (2 ^ 30 * cmd)

/-- A function may write PART_CMD in another's set now (R333, R335). -/
def State.partWrites (s : State) (f target : Nat) : Bool :=
  s.reachesPF f && portOf f == portOf target && !(s.prt target).cmd.busy

/-- PARTITION_RESET (R335, R336). -/
def execPartitionReset (f target : Func) (s : State) : Res :=
  if !s.partWrites f.val target.val then .next s
  else .next ((s.requestReset target.val).modPart target.val (fun p =>
    { p with cmd := { field := partWord 1, busy := true, status := stOk } }))

/-! ### Assignment -/

/-- The sites of PART_RECT (R335). -/
def rectSites (v : Nat) : List Nat :=
  (span (bits v 23 16) (min (bits v 7 0) 159)).flatMap (fun y => (span (bits v 31 24) (min (bits v 15 8) 159)).map (fun x => siteIdx x y))

/-- X0 > X1 or Y0 > Y1 (R334). -/
def rectBad (v : Nat) : Bool := bits v 15 8 < bits v 31 24 || bits v 7 0 < bits v 23 16

/-- A site is enabled. -/
def State.enabled (s : State) (i : Nat) : Bool := s.siteState i == .enabled

/-- ASSIGN is refused (R334). -/
def State.assignBad (s : State) (f : Nat) : Bool :=
  let v := (s.prt f).rect.toNat
  rectBad v || s.resetting f || (rectSites v).any (fun i => s.enabled i
    && ((match (s.clu i).owner with | some g => g != f | none => false) || s.isDark (fieldOf i) || s.isOos (fieldOf i)))

/-- A lineage window is cleared, unless it is frozen (R409). -/
def Cluster.clearWindow (c : Cluster) : Cluster := if c.linFrozen then c else { c with lineage := [], linOvf := false }

/-- The result of PART_CMD (R335). -/
def State.partDone (s : State) (f cmd : Nat) (st : W16) : State :=
  s.modPart f (fun p => { p with cmd := { field := partWord cmd, busy := false, status := st } })

/-- ASSIGN (R334, R409). (DEDUCED, log 89) -/
def execAssign (f target : Func) (s : State) : Res :=
  let t := target.val
  if !s.partWrites f.val t then .next s
  else if s.assignBad t then .next (s.partDone t 2 stIllegal)
  else .next ((s.each ((rectSites (s.prt t).rect.toNat).filter (fun i => s.enabled i && (s.clu i).owner.isNone)) (fun u i =>
    u.modClu i (fun c => { c.clearWindow with owner := some t }))).partDone t 2 stOk)

/-- RELEASE is refused (R334); the clusters of a load in progress count as those of a loaded CFGID. -/
def State.releaseBad (s : State) (f : Nat) : Bool :=
  let v := (s.prt f).rect.toNat
  rectBad v || s.resetting f || (rectSites v).any (fun i => (s.clu i).owner == some f && ((s.clu i).cfg.isSome || (s.loadOf i).isSome))

/-- A site that is pending retirement retires once it has left its partition (R476). -/
def State.retirePending (s : State) (i : Nat) : State :=
  if s.thm.pendingSites.contains i then
    { s.setSite i .retired with thm := { s.thm with pendingSites := s.thm.pendingSites.filter (· != i) } }
  else s

/-- RELEASE (R334, R476). -/
def execRelease (f target : Func) (s : State) : Res :=
  let t := target.val
  if !s.partWrites f.val t then .next s
  else if s.releaseBad t then .next (s.partDone t 3 stIllegal)
  else .next ((s.each ((rectSites (s.prt t).rect.toNat).filter (fun i => (s.clu i).owner == some t)) (fun u i =>
    (u.modClu i (fun c => { c with owner := none })).retirePending i)).partDone t 3 stOk)

/-! ### Phases 3 to 5 -/

/-- RESET_FLUSH_DONE (R145, R207, R338). -/
def execResetFlushDone (f : Func) (s : State) : Res :=
  match (s.prt f.val).reset with
  | none => .next s
  | some r =>
    if Tab.get 0 s.fab.inflight f.val = 0 ∧ !s.fab.credits.any (fun k => (s.clu k.site).owner == some f.val) then
      .next (s.modPart f.val (fun p => { p with reset := some { r with flushed := true } }))
    else .next s

/-- The packets of a function that are still in flight are lost, and its counts become 0 (R338). -/
def State.dropFlight (s : State) (f : Nat) : State :=
  s.modFab (fun b =>
    { b with flight := b.flight.filter (fun p => p.func != f), credits := b.credits.filter (fun k => (s.clu k.site).owner != some f),
             inflight := Tab.put 0 b.inflight f 0, tokenFlight := Tab.drop (fun k => k / 4 == f) b.tokenFlight })

/-- RESET_FLUSH_LIMIT (R338): 10 ms have passed. -/
def execResetFlushLimit (f : Func) (s : State) : Res :=
  match (s.prt f.val).reset with
  | none => .next s
  | some r =>
    if !r.flushed && decide (r.since + 10000 ≤ s.now) then
      .next ((s.dropFlight f.val).modPart f.val (fun p => { p with reset := some { r with flushed := true } }))
    else .next s

/-- Memory across a partition reset (R291). -/
def State.clearMemory (s : State) (f : Nat) : State :=
  let pages := s.mem.page.filterMap (fun e => if e.2.v && e.2.owner == f then some e.1 else none)
  let s1 := s.each pages (fun t p => (if (t.page p).moving.isSome then t.abandonMove p [] else t).zeroPage p)
  s1.each (s1.groupsOf f) (fun t g => t.modGroup g (fun x => { x with state := .openG, vg := 0 }))

/-- The ring contexts of a function are zero (R332). -/
def State.clearRings (s : State) (f : Nat) : State :=
  let e := s.fent f
  { s with hst := { s.hst with ring := Tab.drop (fun r => e.base ≤ r && r < e.base + e.count) s.hst.ring } }

/-- The stream contexts of a function are cleared (R338, R364). -/
def State.clearStreams (s : State) (f : Nat) : State :=
  { s with media := { s.media with ctx := s.media.ctx.filter (fun e => e.2.raw.isEmpty || e.2.func != f) } }

/-- The counters of a partition's set that a reset clears (R335). -/
def State.clearPartCtrs (s : State) (f : Nat) : State :=
  { s with ctrs := Tab.drop (fun k => partSet f + 0x200 ≤ k && k < partSet f + 0x1000) s.ctrs }

/-- Phase 4 of a partition reset (R338, R344): clusters in dark fields are cleared later. -/
def State.clearPhase (s : State) (f : Nat) : State :=
  let s1 := s.each (s.clustersOf f) (fun t i =>
    if t.isDark (fieldOf i) then t.modClu i (fun c => { c.unload with needsClear := true, resetting := false }) else t.clearCluster i)
  (((s1.clearMemory f).clearRings f).clearStreams f).clearPartCtrs f

/-- RESET_CLEAR_DONE (R338, R341): the clear phase ends; with the flush ended too, the partition is released. -/
def execResetClearDone (f : Func) (s : State) : Res :=
  match (s.prt f.val).reset with
  | none => .next s
  | some r =>
    if !r.flushed then .next s
    else
      .next (((s.clearPhase f.val).modPart f.val (fun p =>
        { cmd := { p.cmd with busy := false }, rect := p.rect, lastRing := p.lastRing, lastTag := p.lastTag,
          lastStatus := p.lastStatus })).bump
          (offPartResets f.val) 1)

/-! ### Ports -/

/-- PERST_DEASSERT (R345): the host releases the port's PERST#. -/
def execPerstDeassert (h : HPort) (s : State) : Res := .next (s.modPort h.val (fun p => { p with perst := false }))

/-- ATS_INVALIDATE (R294): the request is taken into the function's invalidate queue and processed. (DEDUCED, log 91) -/
def execAtsInvalidate (f : Func) (addr : W64) (pasid : BitVec 20) (s : State) : Res :=
  if s.reaches f.val then .next (s.emit (.invalidated f.val addr pasid)) else .next s

end Sys2Proof.Machine
end

