-- ==== Sys2Proof/Machine/Integrity.lean ====
section
/-! DEFINITION. Result integrity: checkers, verdicts, pairs mode, quarantine and lineage windows (R398 to R415). -/
namespace Sys2Proof.Machine

/-- INTEG counters (R415). -/
def offSampled : Nat := integBase + 0x08
def offAgree : Nat := integBase + 0x10
def offMismatch : Nat := integBase + 0x18

/-! ### Captures and verdicts -/

/-- Discard the captures that are pending at the checkers that a test selects, and count them (R414, R433). -/
def State.dropCaptures (s : State) (p : Nat → Bool) : State :=
  let l := s.cl.filter (fun e => !e.2.caps.isEmpty && (match e.2.checker with | some j => p j | none => false))
  let n := (l.map (fun e => e.2.caps.length)).sum
  if n = 0 then s else (s.each l (fun t e => t.modClu e.1 (fun c => { c with caps := [] }))).bump offSkip n

/-- The verdicts of INTEG_SDE (R401, R412). -/
inductive Verdict where
  | original | checker | undecided | pair
  deriving DecidableEq, Repr

/-- The code of a verdict (R401, R412). -/
def Verdict.code : Verdict → Nat
  | .original => 1
  | .checker => 2
  | .undecided => 3
  | .pair => 4

/-- Raise INTEG_SDE (R412) for a cluster, a checker or twin, an opcode and core, and the lineage entry of the run: to the owner and to
functions 0 and 32, with the descriptor's ring in each function's numbering. -/
def State.sdeEvent (s : State) (v : Verdict) (i k : Nat) (op core : Nat) (e : W64) : State :=
  let c := s.clu i
  let f := bits e.toNat 62 57
  let r := bits e.toNat 51 32
  let data := v.code + 2 ^ 8 * siteX i + 2 ^ 16 * siteY i + 2 ^ 24 * siteX k + 2 ^ 32 * siteY k + 2 ^ 40 * op + 2 ^ 48 * core
    + 2 ^ 64 * bits e.toNat 31 0 + 2 ^ 96 * c.lineage.length + 2 ^ 112 * (c.linOvf.toNat + 2 * c.linFrozen.toNat)
  let ev (g : Nat) : Event := { typ := 0x0020, ring := if g = f then r else s.absRing f r, time := s.now, data := data }
  let s1 := s.each (f :: [0, 32].filter (· != f)) (fun t g => t.post g (t.defRing g) (ev g))
  { s1 with evlog := (ev 0 :: s1.evlog).take 4096 }

/-- The run whose operation a capture holds, while it is in progress (R402): function and CFGID. -/
def State.capRun (s : State) (i : Nat) (x : Capture) : Option (Nat × Nat) :=
  match (s.clu i).owner, (s.clu i).cfg with
  | some f, some c =>
    match (s.cfg f c).run with
    | some u => if s.runEntry f u = x.entry then some (f, c) else none
    | none => none
  | _, _ => none

/-- What a verdict of ORIGINAL or UNDECIDED does to the run (R402): the steps that were open for a training launch are LOST, if they still
are open, and a run still in progress will complete with SDE_DETECTED. -/
def State.markSde (s : State) (i : Nat) (x : Capture) : State :=
  let s1 := s.each x.steps (fun t e => t.loseStep e.1 e.2)
  match s.capRun i x with
  | none => s1
  | some (f, c) => s1.modCfg f c (fun k => { k with run := k.run.map (fun u => { u with sde := true }) })

/-- A verdict other than clean on a capture of a cluster (R401, R402, R409). -/
def State.giveVerdict (s : State) (i : Nat) (x : Capture) (v : Verdict) : State :=
  let s1 := (s.bump offMismatch 1).modClu i (fun c => { c with caps := c.caps.filter (· != x), cleanRun := 0 })
  let s2 := if v = .checker then s1 else (s1.modClu i (fun c => { c with linFrozen := true })).markSde i x
  s2.sdeEvent v i ((s.clu i).checker.getD 0) x.opcode.toNat x.core x.entry

/-- CLEAN_RUN as it acts (R415). -/
def State.cleanNeed (s : State) : Nat := max 128 (min 4096 (bits (s.reg integBase).toNat 12 0))

/-- A clean verdict (R401, R409): after CLEAN_RUN of them in a row, the entries whose runs have completed leave the window.
(DEDUCED, log 117) -/
def State.cleanVerdict (s : State) (i : Nat) (x : Capture) : State :=
  let s1 := (s.bump offAgree 1).modClu i (fun c => { c with caps := c.caps.filter (· != x), cleanRun := c.cleanRun + 1 })
  if s1.cleanNeed ≤ (s1.clu i).cleanRun then
    let live := match s1.runOf i with | some (f, u) => [s1.runEntry f u] | none => []
    s1.modClu i (fun c => { c with cleanRun := 0, lineage := if c.linFrozen then c.lineage else c.lineage.filter (live.contains ·) })
  else s1

/-- A comparison counts towards the rate of a field (R399). -/
def State.countCompared (s : State) (fld : Nat) : State :=
  { s with integ := { s.integ with compared := Tab.put 0 s.integ.compared fld (Tab.get 0 s.integ.compared fld + 1) } }

/-- CRUMB_COMPARE (R397, R401): the checker's permuted computation of the oldest capture, compared with the original.
(DESIGN CHOICE, log 118) -/
def execCrumbCompare (x : Site) (checkerBits : List W8) (s : State) : Res :=
  let i := Site.idx x
  match (s.clu i).caps.find? (fun k => k.first.isNone) with
  | none => .next s
  | some k =>
    if (s.clu i).checker.isNone then .next s
    else
      let s1 := (s.bump offSampled 1).countCompared (fieldOf i)
      if checkerBits = k.orig then .next (s1.cleanVerdict i k)
      else .next (s1.modClu i (fun c => { c with caps := c.caps.map (fun y => if y = k then { y with first := some checkerBits } else y) }))

/-- CRUMB_SECOND_CHECK (R401, R402). -/
def execCrumbSecondCheck (x : Site) (secondBits : List W8) (s : State) : Res :=
  let i := Site.idx x
  match (s.clu i).caps.find? (fun k => k.first.isSome) with
  | none => .next s
  | some k =>
    .next (s.giveVerdict i k (if some secondBits = k.first then .original else if secondBits = k.orig then .checker else .undecided))

/-- CRUMB_UNDECIDED (R401, R402): no second checker within the further 50 microseconds. -/
def execCrumbUndecided (x : Site) (s : State) : Res :=
  let i := Site.idx x
  match (s.clu i).caps.find? (fun k => k.first.isSome) with
  | none => .next s
  | some k => if k.since + 100 ≤ s.now then .next (s.giveVerdict i k .undecided) else .next s

/-- Fewer than 1/256 of a field's checked operations have reached a comparison (R399). -/
def State.rateLow (s : State) (fld : Nat) : Bool := decide (256 * Tab.get 0 s.integ.compared fld < Tab.get 0 s.integ.checked fld)

/-- The counts of a field's rate begin afresh (R399). -/
def State.rateAgain (s : State) (fld : Nat) : State :=
  { s with integ := { s.integ with checked := Tab.put 0 s.integ.checked fld 0, compared := Tab.put 0 s.integ.compared fld 0,
                                   since := Tab.put 0 s.integ.since fld s.now } }

/-- INTEG_RATE_LOW (R399, R412): a second of a field is over, with the operations and comparisons counted; with too few
comparisons the event is raised. (DEDUCED, log 181) -/
def execIntegRateLow (fld : FieldIx) (checked compared : Nat) (s : State) : Res :=
  if !s.ready || decide (s.now < Tab.get 0 s.integ.since fld.val + 1000000) || Tab.get 0 s.integ.checked fld.val != checked
      || Tab.get 0 s.integ.compared fld.val != compared then .next s
  else if s.rateLow fld.val then .next ((s.rateAgain fld.val).raiseWide 0x0021 fld.val)
  else .next (s.rateAgain fld.val)

/-! ### Pairs mode -/

/-- Two packets of a pair are of the same type, queue or transfer slot, and SEQ (R405). (DEDUCED, log 116) -/
def Packet.counterpart (p q : Packet) : Bool := p.typ == q.typ && p.tag == q.tag && p.seq == q.seq && p.arg % 128 == q.arg % 128

/-- What the comparator compares: every field that the cluster gives a packet, its own place and the way to the crust apart. -/
def Packet.same (p q : Packet) : Bool :=
  ((p.dx == q.dx && p.dy == q.dy) || ((160 ≤ p.dx || 160 ≤ p.dy) && (160 ≤ q.dx || 160 ≤ q.dy)))
    && p.typ == q.typ && p.vc == q.vc && p.func == q.func && p.epoch == q.epoch && p.tag == q.tag
    && p.seq == q.seq && p.arg == q.arg
    && p.payload == q.payload

/-- Nothing more leaves a pair (R405): its packets are dropped and its windows frozen, the launch halts, and INTEG_SDE is raised. -/
def State.pairHalt (s : State) (i : Nat) (x : PairInfo) : State :=
  let e := match s.runOf i with | some (f, u) => s.runEntry f u | none => 0
  let stop (c : Cluster) : Cluster := { c with linFrozen := true, pair := c.pair.map (fun y => { y with held := [], twin := [] }) }
  let s1 := (((s.bump offMismatch 1).modClu i stop).modClu x.other stop)
  (s1.haltClusterRun i (rep stSde)).sdeEvent .pair i x.other 0 0 e

/-- PAIR_COMPARE (R404, R405): the oldest packet that the primary holds, against the twin's. -/
def execPairCompare (x : Site) (s : State) : Res :=
  let i := Site.idx x
  match (s.clu i).pair with
  | none => .next s
  | some k =>
    match k.held with
    | [] => .next s
    | (p, _) :: rest =>
      match k.twin.find? (fun q => p.counterpart q) with
      | none => .next s
      | some q =>
        if p.same q then
          .next ((s.modClu i (fun c => { c with pair := some { k with held := rest, twin := dropFirst (fun r => r == q) k.twin } })).inject p)
        else .next (s.pairHalt i k)

/-- PAIR_WAIT of a function (R415): 1 to 65,535 microseconds. -/
def State.pairWait (s : State) (f : Nat) : Nat := max 1 ((s.reg (integBase + 0x104 + 16 * f)).toNat % 65536)

/-- PAIR_WAIT_TIMEOUT (R405): the twin's packet has not arrived within PAIR_WAIT. -/
def execPairWaitTimeout (x : Site) (s : State) : Res :=
  let i := Site.idx x
  match (s.clu i).pair, (s.clu i).owner with
  | some k, some f =>
    (match k.held with
    | (p, t) :: _ =>
      if t + s.pairWait f ≤ s.now ∧ !k.twin.any (fun q => p.counterpart q) then .next (s.pairHalt i k) else .next s
    | [] => .next s)
  | _, _ => .next s

/-! ### Quarantine and windows -/

/-- A change of the map waits to be written to the service map (R419). -/
def State.mapDirty (s : State) : State := { s with boot := { s.boot with mapDue := some (s.boot.mapDue.getD s.now) } }

/-- The site that INTEG_QUAR_SITE names (R415). -/
def State.quarSite (s : State) : Option Nat :=
  let v := (s.reg (integBase + 0x30)).toNat
  if bits v 15 8 < 160 ∧ bits v 7 0 < 160 then some (siteIdx (bits v 15 8) (bits v 7 0)) else none

/-- INTEG_QUAR_CMD holds a command's result (R415). -/
def State.quarDone (s : State) (cmd : Nat) (st : W16) : State :=
  { s with integ := { s.integ with quar := { field := BitVec.ofNat 32 (2 ^ 30 * cmd), busy := false, status := st } } }

/-- QUARANTINE (R413, R416): only an enabled cluster can be quarantined. (DEDUCED, log 119) -/
def execQuarantine (f : Func) (s : State) : Res :=
  if !s.reachesPF f.val then .next s
  else
    match s.quarSite with
    | none => .next (s.quarDone 1 stIllegal)
    | some i =>
      if s.enabled i then
        .next (((((s.setSite i .quarantined).haltClusterRun i (rep stSde)).dropCaptures (· == i)).assignCheckers.mapDirty).quarDone 1 stOk)
      else .next (s.quarDone 1 stIllegal)

/-- RETURN_TO_SPARE (R119, R141, R413). -/
def execReturnToSpare (f : Func) (s : State) : Res :=
  if !s.reachesPF f.val then .next s
  else
    match s.quarSite with
    | none => .next (s.quarDone 2 stIllegal)
    | some i =>
      if s.siteState i = .quarantined ∧ (s.clu i).cfg = none then
        .next ((((((s.clearCluster i).modClu i (fun c => { c with owner := none })).setSite i .spare).assignCheckers).mapDirty).quarDone
          2 stOk)
      else .next (s.quarDone 2 stIllegal)

/-- INTEG_LIN_SEL_WRITE (R409, R415): a virtual function selects only its own clusters. (DESIGN CHOICE, log 121) -/
def execIntegLinSelWrite (f : Func) (value : W32) (s : State) : Res :=
  let x := bits value.toNat 15 8
  let y := bits value.toNat 7 0
  let i := siteIdx x y
  let ok := x < 160 && y < 160 && (isPF f.val || (s.clu i).owner == some f.val)
  if !s.reaches f.val || !ok then .next s
  else
    let s1 := { s with integ := { s.integ with linSel := Tab.put 0 s.integ.linSel f.val (value &&& 0xFFFF#32) } }
    if bitOf value.toNat 31 then .next (s1.modClu i (fun c => { c with linFrozen := false })) else .next s1

end Sys2Proof.Machine
end

