-- ==== Sys2Proof/Machine/Remap.lean ====
section
/-! DEFINITION. REMAP: the remap record, its checks, and the move of logical clusters onto spare sites (R145, R201, R316, R431 to
R433). -/
namespace Sys2Proof.Machine

/-- MAP and MAPLEN of a REMAP (R316). -/
def Desc.map (d : Desc) : Nat := d.field 8 8
def Desc.mapLen (d : Desc) : Nat := d.field 16 4

/-- An entry of a remap record (R431): the site left, the site taken, COPYSP, and the address of the section. -/
structure Move where
  old : Nat
  new : Nat
  copySp : Bool
  addr : Nat
  deriving DecidableEq, Repr

/-- Entry j of a remap record. -/
def moveOf (b : List W8) (j : Nat) : Move :=
  let o := 16 + 16 * j
  { old := siteIdx (rd b o 1) (rd b (o + 1) 1), new := siteIdx (rd b (o + 2) 1) (rd b (o + 3) 1),
    copySp := bitOf (rd b (o + 4) 1) 0, addr := rd b (o + 8) 8 }

/-- A remap record breaks R431. -/
def recordBad (b : List W8) : Bool :=
  let n := rd b 2 2
  rd b 0 2 != 1 || n == 0 || 1024 < n || !zeros b 4 12 || b.length != 16 + 16 * n
    || (List.range n).any (fun j =>
        let o := 16 + 16 * j
        (List.range 4).any (fun k => 160 ≤ rd b (o + k) 1) || !clear (rd b (o + 4) 1) 7 1 || !zeros b (o + 5) 3
          || rd b (o + 8) 8 % 64 != 0)

/-- The bytes of a section in device memory: its fixed part gives its length (R147). -/
def State.sectionBytes (s : State) (a : Nat) : List W8 := s.devRead none a (secLen (s.devRead none a 2720))

/-- A section lies in the function's pages. -/
def State.sectionOwned (s : State) (f a : Nat) : Bool :=
  s.owns f a 2720 && s.owns f a (secLen (s.devRead none a 2720))

/-- Where a remap record takes a site. -/
def movedTo (l : List Move) (i : Nat) : Nat := match l.find? (fun m => m.old == i) with
  | some m => m.new
  | none => i

/-- The sections of a configuration under a remap record. -/
def State.movedSections (s : State) (l : List Move) (ss : List Section) : List Section :=
  ss.map (fun x => match l.find? (fun m => m.old == x.site) with
    | some m => { x with site := m.new, bytes := s.sectionBytes m.addr }
    | none => x)

/-- A tree, a stream and a barrier under a remap record. -/
def FoldTree.moved (l : List Move) (t : FoldTree) : FoldTree :=
  { t with root := movedTo l t.root, nodes := t.nodes.map (fun n => { n with site := movedTo l n.site }) }
def TTStream.moved (l : List Move) (t : TTStream) : TTStream := { t with dst := movedTo l t.dst }
def Barrier.moved (l : List Move) (b : Barrier) : Barrier :=
  let ms := b.members.map (fun m => (movedTo l m.1, m.2))
  { b with members := ms, arrived := b.arrived.map (fun m => (movedTo l m.1, m.2)),
           wafer := !(ms.all (fun x => ms.all (fun y => fieldOf x.1 == fieldOf y.1))) }

/-- A barrier's members by logical coordinates, as an image declares them (R320). -/
def Barrier.decl (l : List Section) (b : Barrier) : Nat × List (Nat × Nat × Nat) :=
  (b.index, b.members.filterMap (fun m => (l.find? (fun x => x.site == m.1)).map (fun x => (byteAt x.bytes 0, byteAt x.bytes 1, 2 ^ m.2))))

/-- The primaries of a configuration's sections, and its twins: the two halves of a paired load. -/
def halves (paired : Bool) (l : List Section) : List (List Section) :=
  if paired then [l.take (l.length / 2), l.drop (l.length / 2)] else [l]

/-- The barriers of a configuration. -/
def State.barriersOf (s : State) (f c : Nat) : List Barrier := s.fab.barriers.filter (fun b => b.key == cfgKey f c)

/-- A REMAP is refused (R432). -/
def State.remapBad (s : State) (f c : Nat) (l : List Move) : Bool :=
  let k := s.cfg f c
  let ss := s.movedSections l k.sections
  let bars := (s.barriersOf f c).map (Barrier.moved l)
  let trees := k.trees.map (FoldTree.moved l)
  !distinct (l.map Move.old) || !distinct (l.map Move.new)
    || l.any (fun m => !k.clusters.contains m.old || s.siteState m.new != .spare || s.isDark (fieldOf m.new) || s.isOos (fieldOf m.new)
        || (m.copySp && s.isDark (fieldOf m.old)) || !s.sectionOwned f m.addr
        || (match k.sections.find? (fun x => x.site == m.old) with
            | some x => rd x.bytes 0 2 != rd (s.sectionBytes m.addr) 0 2
            | none => true)
        || s.fab.entries.any (fun e => e.site == m.old) || k.streams.any (fun t => t.src == m.old))
    || (halves k.paired ss).any (fun h => sectionsBad h (bars.map (Barrier.decl h)))
    || trees.any (s.treeBad ss) || s.treesClash f c trees || s.barsBad (cfgKey f c) bars

/-- The epoch with which a REMAP loads (R433). -/
def State.remapEpoch (s : State) (f c : Nat) : BitVec 2 :=
  if (s.cfg f c).halted.isSome then (s.prt f).epoch + 1
  else match (s.cfg f c).clusters with
    | i :: _ => (s.clu i).epoch
    | [] => 0

/-- A REMAP waits (R145, R158, R175): a run or load of the configuration is in progress, its units have not settled, or packets of the
next epoch, credits of its queues or, where it goes on with its epoch, tokens of its queues are in flight. (DEDUCED, log 123) -/
def State.remapWaits (s : State) (f c : Nat) : Bool :=
  let k := s.cfg f c
  k.load.isSome || k.run.isSome || !k.leaving.isEmpty || !k.clusters.all (fun i => (s.clu i).settled)
    || s.fab.credits.any (fun x => k.clusters.contains x.site)
    || (if k.halted.isSome then Tab.get 0 s.fab.tokenFlight (4 * f + (s.remapEpoch f c).toNat) != 0
        else s.fab.flight.any (fun p => p.typ == .token && k.clusters.contains p.dest))

/-- Steps 1 to 3 for one entry (R433): the new site joins the partition, takes the scratchpad or zeros, and is loaded. -/
def State.moveSite (s : State) (f c : Nat) (ss : List Section) (e : BitVec 2) (m : Move) : State :=
  let o := s.clu m.old
  let b := match ss.find? (fun x => x.site == m.new) with
    | some x => x.bytes
    | none => []
  let s1 := if m.copySp && !o.spSoft.isEmpty then s.bump (offSpCorr m.old) o.spSoft.length else s
  (s1.setSite m.new .enabled).modClu m.new (fun x =>
    { (({ x.clear with owner := some f }).clearWindow).load ss b c e o.pair with
      sp := if m.copySp then o.sp else [], glen := if m.copySp then o.glen else [], xferNext := o.xferNext })

/-- A queue restarts: its tokens are lost and its sequence numbers and credits start again (R433); `cap` is the capacity of the
remote queue. -/
def Queue.restart (q : Queue) (cap : Nat) : Queue :=
  { q with toks := [], ahead := [], seq := 0, credits := if q.cons = 0xA0 then cap else 0, owed := 0 }

/-- A queue of a cluster restarts in a REMAP: every queue of a halted configuration, else one with an end on a moved site (R433). -/
def Queue.restarts (q : Queue) (all : Bool) (moved : List (Nat × Nat)) : Bool :=
  all || ((q.prod == 0xA0 || q.cons == 0xA0) && moved.contains (q.rx.toNat, q.ry.toNat))

/-- Step 4 for one cluster (R433): the tokens lost, and the cluster afterwards. -/
def Cluster.restart (c : Cluster) (ss : List Section) (all : Bool) (moved : List (Nat × Nat)) : Nat × Cluster :=
  let cap (q : Queue) : Nat := match sectionAt ss q.rx.toNat q.ry.toNat with
    | some r => secCap r.bytes q.rq.toNat
    | none => 0
  (((c.queue.filter (fun e => e.2.restarts all moved)).map (fun e => e.2.toks.length + e.2.ahead.length)).sum,
   { c with queue := c.queue.map (fun e => if e.2.restarts all moved then (e.1, e.2.restart (cap e.2)) else e) })

/-- A core of a halted configuration returns to the loaded state (R433). -/
def Core.reload (k : Core) : Core :=
  if k.seq = .unloaded then k else { k with seq := .loaded, fault := {}, inBlock := false, done := false, barWait := none, xferWait := false }

/-- What a REMAP of a halted configuration does to a cluster that it does not move (R433). -/
def Cluster.reload (c : Cluster) (e : BitVec 2) : Cluster :=
  { c with core := c.core.map (fun x => (x.1, x.2.reload)), dmaErr := {}, epoch := e, stalled := [],
           steer := c.steer.map (fun x => (x.1, { x.2 with looping := false, count := 0, held := none })) }

/-- Restart the queues of the clusters that a REMAP does not move (R433). -/
def State.restartAt (s : State) (f : Nat) (ss : List Section) (all : Bool) (moved : List (Nat × Nat)) (e : BitVec 2) (i : Nat) : State :=
  let r := (s.clu i).restart ss all moved
  let s1 := if r.1 = 0 then s else s.bump (partSet f + 0x200) r.1
  s1.modClu i (fun _ => if all then r.2.reload e else r.2)

/-- Steps 1 to 5 of a REMAP (R239, R433): the load phase releases the sums that the trees hold; where cores return to the loaded state,
no member has arrived at a barrier. (DEDUCED, log 123) -/
def State.remapCommit (s : State) (f c : Nat) (l : List Move) : State :=
  let k := s.cfg f c
  let all := k.halted.isSome
  let e := s.remapEpoch f c
  let ss := s.movedSections l k.sections
  let moved := l.map (fun m => ((s.clu m.old).lx, (s.clu m.old).ly))
  let stay := k.clusters.filter (fun i => !l.any (fun m => m.old == i))
  let lost := (l.map (fun m => (s.clu m.old).tokens)).sum
  let s1 := if all then s.modPart f (fun p => { p with epoch := e }) else s
  let s2 := (s1.freeSums f c).dropCaptures (fun j => l.any (fun m => m.new == j))
  let s3 := (s2.each l (fun t m => t.moveSite f c ss e m)).assignCheckers
  let s4 := if lost = 0 then s3 else s3.bump (partSet f + 0x200) lost
  let s5 := s4.each stay (fun t i => (t.restartAt f ss all moved e i).modClu i (fun x =>
    { x with pair := x.pair.map (fun y => { y with other := movedTo l y.other }) }))
  let s6 := s5.each l (fun t m => t.modClu m.new (fun x => { x with pair := x.pair.map (fun y => { y with other := movedTo l y.other }) }))
  let s7 := s6.each l (fun t m => t.modClu m.old (fun x => { x with cfg := none, pair := none }))
  let s8 := s7.modCfg f c (fun k =>
    { k with clusters := k.clusters.map (movedTo l), sections := ss, trees := k.trees.map (fun t => { t.moved l with epoch := e }),
             streams := k.streams.map (TTStream.moved l), leaving := l.map Move.old })
  let bar (x : Barrier) : Barrier := if all then { x.moved l with arrived := [] } else x.moved l
  (s8.modFab (fun b => { b with barriers := b.barriers.map (fun x => if x.key = cfgKey f c then bar x else x) })).mapChange

/-- Step 6 for one old site (R409, R416, R433, R476): an enabled one is cleared and becomes a spare; its window is cleared. -/
def State.leaveSite (s : State) (i : Nat) : State :=
  let s1 := if s.siteState i = .enabled then (s.clearCluster i).setSite i .spare else s.modClu i Cluster.unload
  (s1.modClu i (fun c => { c with owner := none, lineage := [], linOvf := false, linFrozen := false })).retirePending i

/-- The end of a REMAP: the old sites leave, the halt ends, and the descriptor completes with OK (R433). -/
def State.remapEnd (s : State) (d : Desc) : State :=
  let f := d.func
  let c := d.field 20 2
  (((s.each (s.cfg f c).leaving State.leaveSite).modCfg f c (fun k =>
    { k with leaving := [], halted := none })).assignCheckers.mapDirty).endDesc
    d stOk

/-- The uncorrectable lines that a REMAP's reads meet (R262, R433). -/
def State.remapLines (s : State) (l : List Move) : List Nat :=
  l.flatMap (fun m => s.badRead none m.addr 2720 ++ s.badRead none m.addr (secLen (s.devRead none m.addr 2720)))

/-- The reads of the sections that a REMAP's record names (R264, R433). -/
def State.readSections (s : State) (l : List Move) : State :=
  s.each l (fun t m => t.demand none m.addr (max 2720 (secLen (s.devRead none m.addr 2720))) false none)

/-- A REMAP that may start (R262, R432, R433). -/
def State.startRemap (s : State) (d : Desc) : State :=
  let f := d.func
  let c := d.field 20 2
  match s.badRead none d.map d.mapLen with
  | x :: b => ((s.demand none d.map d.mapLen false none).memUEs 7 (x :: b)).endDesc d stMemUE
  | [] =>
    let b := s.devRead none d.map d.mapLen
    let s0 := s.demand none d.map d.mapLen false none
    let l := (List.range (rd b 2 2)).map (moveOf b)
    if recordBad b then s0.endDesc d stIllegal
    else
      let owned := l.filter (fun m => s.sectionOwned f m.addr)
      match (s.remapLines owned).eraseDups with
      | x :: y => ((s0.readSections owned).memUEs 7 (x :: y)).endDesc d stMemUE
      | [] =>
        let s1 := s0.readSections owned
        if s.remapBad f c l then s1.endDesc d stIllegal
        else if l.any (fun m => m.copySp && !(s.clu m.old).spBad.isEmpty) then s1.endDesc d stMemUE
        else (s1.started d).remapCommit f c l

/-- A REMAP breaks R315 or R316, or R432 before its record is read. -/
def State.remapDescBad (s : State) (d : Desc) : Bool :=
  !(s.prt d.func).quiesced || !(s.cfg d.func (d.field 20 2)).loaded || d.mapLen == 0 || !s.owns d.func d.map d.mapLen

/-- REMAP (R201, R316, R431 to R433): the move up to its commit, and, given again once the map change has run to its end, the rest.
(DEDUCED, log 123) -/
def execRemap (r : DescRef) (s : State) : Res :=
  match s.desc r.ring.val r.index with
  | none => .next s
  | some d =>
    if d.started && d.opcode == 0x0B then (if s.fab.recomputing then .next s else .next (s.remapEnd d))
    else if !s.remapDescBad d && s.remapWaits d.func (d.field 20 2) then .next s
    else .next (s.beginDesc r (· == 0x0B) s.remapDescBad (fun d t => t.startRemap d))

end Sys2Proof.Machine
end

