-- ==== Sys2Proof/Machine/Tow.lean ====
section
/-! DEFINITION. Tow ports: frames, acknowledgement, replay, credit, link state, routes, lanes and transit (R366 to R377, R394). -/
namespace Sys2Proof.Machine

/-! ### Messages and their buffers -/

/-- The TOW block's counters (R394). -/
def offHopDisc : Nat := towBase + 0x10
def towPort0 (p : Nat) : Nat := towBase + 0x100 + 0x80 * p
def offTowReplay (p : Nat) : Nat := towPort0 p + 0x10
def offTowDown (p : Nat) : Nat := towPort0 p + 0x18
def offTowTransit (p : Nat) : Nat := towPort0 p + 0x20
def offVgStale (g : Nat) : Nat := towBase + 0x1000 + 32 * g + 0x18

/-- The message types (R369). -/
def mRacc : W8 := 1
def mRaccAck : W8 := 2
def mParam : W8 := 3
def mParamAck : W8 := 4
def mDone : W8 := 5
def mVerdict : W8 := 6

/-- A listed message type (R369). -/
def msgListed (m : TowMsg) : Bool := 1 ≤ m.msg.toNat && m.msg.toNat ≤ 6

/-- The buffer of a message on a lane: REQ 0, REQ 1, ANS 0, ANS 1 (R369, R372). -/
def msgBuffer (m : TowMsg) : Nat := (if m.msg = mRacc ∨ m.msg = mParam then 0 else 2) + m.lane.toNat

/-- 64-byte units of credit that a frame takes, from offset 14 to the end of its payload (R372). (DEDUCED, log 101) -/
def msgUnits (m : TowMsg) : Nat := (42 + m.payload.length + 63) / 64

/-- Bytes of a frame (R368): with its FCS, and padded to 64. -/
def msgFrameBytes (m : TowMsg) : Nat := max 64 (60 + m.payload.length)

/-- Add to one of four counts. -/
def addAt (l : List W16) (i n : Nat) : List W16 := l.mapIdx (fun k x => if k = i then x + BitVec.ofNat 16 n else x)

/-- The sender may send a message on a port now (R371, R372): replay space, and credit for the whole frame. -/
def TPort.canSend (t : TPort) (m : TowMsg) : Bool :=
  t.state == .up && (t.replay.map (fun e => msgFrameBytes e.2)).sum + (msgFrameBytes m) ≤ 524288
    && msgUnits m ≤ (t.peer.getD (msgBuffer m) 0 - t.used.getD (msgBuffer m) 0).toNat

/-- A frame leaves a port: it carries the port's ACK, NAK and credits (R368, R370). -/
def State.sendFrame (s : State) (p : Nat) (seq : W32) (m : Option TowMsg) : State :=
  let t := s.tport p
  (s.emit (.tow p (t.portMac p) s.tow.etype t.nak seq t.rxSeq t.granted m)).modTport p (fun t => { t with nak := false, ackDue := false })

/-- A DATA frame leaves a port and stays in its replay buffer (R370, R371). -/
def State.sendData (s : State) (p : Nat) (m : TowMsg) : State :=
  let t := s.tport p
  (s.sendFrame p t.txSeq (some m)).modTport p (fun t =>
    { t with txSeq := t.txSeq + 1, replay := t.replay ++ [(t.txSeq, m)], used := addAt t.used (msgBuffer m) (msgUnits m) })

/-- The lane on which a message of this engine leaves a port (R374). -/
def msgOnPort (m : TowMsg) (t : TPort) : TowMsg := { m with lane := t.dateline }

/-- Send waiting messages in order; one behind a message that waits for the same port and buffer waits too (R367, R371, R372).
(DESIGN CHOICE, log 115) -/
def State.drainOut : List TowMsg → List (Nat × Nat) → State → State
  | [], _, s => s
  | m :: l, stuck, s =>
    let keep (t : State) : State := { t with tow := { t.tow with outq := t.tow.outq ++ [m] } }
    match s.towPort m.dstEng.val with
    | none => State.drainOut l stuck (keep s)
    | some p =>
      let x := msgOnPort m (s.tport p)
      if !stuck.contains (p, (msgBuffer x)) && (s.tport p).canSend x then
        let s1 := s.sendData p x
        State.drainOut l stuck { s1 with tow := { s1.tow with fwd := s1.tow.fwd.map (fun f =>
          if m.msg = mRacc ∧ m.srcEng.val = s.tow.engineId ∧ f.mtag.toNat = m.arg.toNat / 2 ^ 32 ∧ f.port = none then
            { f with port := some p, sent := s.now } else f) } }
      else State.drainOut l ((p, (msgBuffer x)) :: stuck) (keep s)

/-- Send what can be sent. -/
def State.towDrain (s : State) : State := State.drainOut s.tow.outq [] { s with tow := { s.tow with outq := [] } }

/-- A message of this engine is to be sent (R374). -/
def State.sendTow (s : State) (m : TowMsg) : State := { s with tow := { s.tow with outq := s.tow.outq ++ [m] } }.towDrain

/-- This engine's number. -/
def State.eng (s : State) : Fin 16 := Fin.ofNat 16 s.tow.engineId

/-- A message from this engine (R374). -/
def State.message (s : State) (msg : W8) (dst : Fin 16) (g : Nat) (step : W32) (arg : W64) (payload : List W8) : TowMsg :=
  { msg := msg, srcEng := s.eng, dstEng := dst, vgroup := Fin.ofNat 256 g, lane := false, hops := 15, step := step, arg := arg,
    payload := payload }

/-- The answer to a message (R369). -/
def State.answerTow (s : State) (m : TowMsg) (msg : W8) : State :=
  s.sendTow (s.message msg m.srcEng m.vgroup.val m.step m.arg [])

/-! ### Answers to forwarded records -/

/-- The crust block whose coordinates a packet names (R195). -/
def Packet.crustBlock (p : Packet) : Nat :=
  if p.dy = 0xA0 then p.dx / 40 else if p.dx = 0xA1 then 4 + p.dy / 40 else if p.dy = 0xA1 then 11 - p.dx / 40 else 15 - p.dy / 40

/-- A crust block answers a RACC packet (R382, R383). -/
def State.answerRacc (s : State) (p : Packet) : State :=
  s.inject (p.reply (s.crustOut p.crustBlock p.src) .raccAck p.arg [])

/-- A forwarded record is void: its packet is answered and its step marked LOST (R383). -/
def State.voidRecord (s : State) (f : Fwd) : State :=
  ({ s with tow := { s.tow with fwd := s.tow.fwd.filter (fun x => x.mtag != f.mtag) } }.loseStep f.group f.step).answerRacc f.packet

/-! ### Frames received -/

/-- The ACK, NAK and credits of a frame (R370 to R372): acknowledged frames leave the replay buffer, and on NAK the rest are sent
again in order. -/
def State.linkPart (s : State) (p : Nat) (h : TowHead) : State :=
  let s1 := s.modTport p (fun t =>
    { t with replay := t.replay.filter (fun e => !serialBefore 32 e.1.toNat h.ack.toNat),
             peer := (t.peer.zip [h.credReq0, h.credReq1, h.credAns0, h.credAns1]).map (fun e =>
               if serialBefore 16 e.1.toNat e.2.toNat then e.2 else e.1) })
  let l := (s1.tport p).replay
  let s2 := if h.nak && !l.isEmpty then
      (s1.each l (fun t e => t.sendFrame p e.1 (some e.2))).bump (offTowReplay p) l.length
    else s1
  s2.towDrain

/-- A port takes Tow frames (R366, R377). -/
def State.towTakes (s : State) (p : Nat) : Bool := s.ready && (s.mport p).mode == .tow

/-- A frame that is no Tow frame of the domain: another EtherType or version (R366, R368). (DEDUCED, log 102) -/
def State.foreign (s : State) (h : TowHead) : Bool := h.etype != s.tow.etype || h.ver != 1

/-- A message joins the receive buffers; a reserved type is discarded (R369, R372). -/
def State.towAccept (s : State) (p : Nat) (m : TowMsg) : State :=
  if msgListed m then s.modTport p (fun t => { t with rx := t.rx ++ [m] })
  else (s.modTport p (fun t => { t with granted := addAt t.granted (msgBuffer m) (msgUnits m) })).bump offHopDisc 1

/-- TOW_DATA_FRAME (R366, R369 to R372). -/
def execTowDataFrame (p : EPort) (fcsGood : Bool) (h : TowHead) (m : TowMsg) (s : State) : Res :=
  let i := p.val
  let t := s.tport i
  if !s.towTakes i then .next s
  else if s.foreign h then .next (s.bump (offRxDisc i) 1)
  else if t.state ≠ .up then .next s
  else if fcsGood && h.seq == t.rxSeq then
    .next (((s.modTport i (fun t => { t with rxSeq := t.rxSeq + 1, ackDue := true, heard := s.now })).towAccept i m).linkPart i h)
  else
    let s1 := s.modTport i (fun t => { t with nak := t.nak || fcsGood || serialBefore 32 t.rxSeq.toNat h.seq.toNat })
    if fcsGood then .next ((s1.modTport i (fun t => { t with heard := s.now })).linkPart i h) else .next s1

/-- TOW_LINK_FRAME (R370, R373): while the port trains, it notes that its peer has restarted. (DEDUCED, log 103) -/
def execTowLinkFrame (p : EPort) (fcsGood : Bool) (h : TowHead) (s : State) : Res :=
  let i := p.val
  if !s.towTakes i then .next s
  else if s.foreign h then .next (s.bump (offRxDisc i) 1)
  else if !fcsGood then .next s
  else
    match (s.tport i).state with
    | .up => .next ((s.modTport i (fun t => { t with heard := s.now })).linkPart i h)
    | .training =>
      if h.ack = 0 then
        .next (s.modTport i (fun t =>
          { t with linkSeen := true, heard := s.now, peer := [h.credReq0, h.credReq1, h.credAns0, h.credAns1] }))
      else .next s
    | .down => .next s

/-- TOW_ACK_SEND (R370, R377): a LINK frame with the current ACK. -/
def execTowAckSend (p : EPort) (s : State) : Res :=
  let i := p.val
  if !s.towTakes i then .next s
  else
    match (s.tport i).state with
    | .up => .next (s.sendFrame i 0 none)
    | .training => .next ((s.sendFrame i 0 none).modTport i (fun t => { t with linkSent := true }))
    | .down => .next s

/-! ### Link state -/

/-- The RACC messages of a list. -/
def raccs (l : List TowMsg) : List TowMsg := l.filter (fun m => m.msg == mRacc)

/-- The event TOW_LINK (R373, R509). -/
def State.towLinkEvent (s : State) (p : Nat) (up : Bool) : State := s.raiseWide 0x0018 (p + 16 * up.toNat)

/-- TOW_LINK_DOWN (R373, R383, R393). (DEDUCED, log 105) -/
def execTowLinkDown (p : EPort) (s : State) : Res :=
  let i := p.val
  let t := s.tport i
  if !s.towTakes i || t.state != .up || s.now < t.heard + 4 then .next s
  else
    let sent := t.replay.map Prod.snd
    let s1 := s.modTport i (fun t => t.restart .training)
    let s2 := s1.each (raccs (sent ++ t.rx)) (fun u m => u.loseStep m.vgroup.val m.step)
    let lost := s2.tow.fwd.filter (fun f => f.port == some i && (raccs sent).any (fun m => m.arg.toNat / 2 ^ 32 == f.mtag.toNat
      && m.srcEng == s2.eng))
    .next ((((s2.each lost State.voidRecord).bump (offTowDown i) 1).towLinkEvent i false).towDrain)

/-- TOW_LINK_UP (R373). -/
def execTowLinkUp (p : EPort) (s : State) : Res :=
  let i := p.val
  let t := s.tport i
  if s.towTakes i && t.state == .training && t.linkSent && t.linkSeen then
    .next (((s.modTport i (fun t => { t with state := .up, heard := s.now })).towLinkEvent i true).towDrain)
  else .next s

/-! ### Transit -/

/-- The first message in a port's receive buffers that a test selects. -/
def State.towFirst (s : State) (p : Nat) (q : TowMsg → Bool) : Option TowMsg := (s.tport p).rx.find? q

/-- A message leaves the receive buffers, and its credit goes back to the peer (R372). -/
def State.towRelease (s : State) (p : Nat) (m : TowMsg) : State :=
  s.modTport p (fun t => { t with rx := dropFirst (· == m) t.rx, granted := addAt t.granted (msgBuffer m) (msgUnits m) })

/-- A message in transit as it leaves a port (R374). (DEDUCED, log 104) -/
def msgThrough (m : TowMsg) (inp out : TPort) : TowMsg :=
  { m with hops := m.hops - 1, lane := out.dateline || (m.lane && out.dim == inp.dim) }

/-- A message in transit can leave: its output has credit and replay space, or it is to be discarded (R374, R376). -/
def State.transits (s : State) (p : Nat) (m : TowMsg) : Bool :=
  m.hops == 0 || (match s.towPort m.dstEng.val with
    | some o => (s.tport o).canSend (msgThrough m (s.tport p) (s.tport o))
    | none => false)

/-- The oldest message in transit of a receive buffer that can leave: the four buffers do not wait for one another (R372, R375). -/
def State.towTransit (s : State) (p : Nat) : Option TowMsg :=
  ((List.range 4).filterMap (fun k => s.towFirst p (fun m => m.dstEng != s.eng && msgBuffer m == k))).find? (s.transits p)

/-- TOW_FORWARD (R367, R371, R372, R374 to R376). -/
def execTowForward (p : EPort) (s : State) : Res :=
  let i := p.val
  if !s.ready then .next s
  else
    match s.towTransit i with
    | none => .next s
    | some m =>
      if m.hops = 0 then .next ((s.towRelease i m).bump offHopDisc 1)
      else
        match s.towPort m.dstEng.val with
        | none => .next s
        | some o =>
          let x := msgThrough m (s.tport i) (s.tport o)
          if (s.tport o).canSend x then .next (((s.towRelease i m).sendData o x).bump (offTowTransit o) 1) else .next s

/-- TOW_LOCK (R394). -/
def execTowLock (f : Func) (s : State) : Res :=
  if s.reachesPF f.val then .next { s with tow := { s.tow with lock := true } } else .next s

end Sys2Proof.Machine
end

