-- ==== Sys2Proof/Machine/Matrix.lean ====
section
/-! DEFINITION. Matrix instructions, passes, the sparse front end, chunk stealing and the activity predictor (R100 to R106,
R129 to R133, R164 to R188). -/
namespace Sys2Proof.Machine

/-- The run of the cluster's configuration is a training step (R105). -/
def State.training (s : State) (i : Nat) : Bool :=
  match s.runOf i with
  | some (_, u) => u.train
  | none => false

/-- The specifiers and ACC of a matrix instruction break R101, or its address registers break R102. -/
def matFormatBad (fa fb : BitVec 5) (acc : Bool) (ga gb : Nat) : Bool :=
  match specOf fa, specOf fb with
  | some (f, sc), some _ =>
    fa != fb || f == .int32 || acc != ((f == .int8 || f == .int4) && !sc)
      || (sc && (ga % 2 == 1 || gb % 2 == 1))
  | _, _ => true

/-- The instruction that a core captures when it issues a matrix instruction (R101, R102). -/
def Core.matOp (k : Core) (kind : MatKind) (ga gb : GReg) (tile : BitVec 12) (acc : Bool) : MatOp :=
  { kind := kind, spec := k.fa, acc := acc, a := (k.reg ga.val).toNat, b := (k.reg gb.val).toNat,
    sa := (k.reg ((ga.val + 1) % 16)).toNat, sb := (k.reg ((gb.val + 1) % 16)).toNat, tile := tile.toNat, pc := k.pc }

/-- The operands of a matrix instruction meet R99. -/
def MatOp.addressOk (o : MatOp) : Bool :=
  o.a % 64 == 0 && o.b % 64 == 0 && (!o.scaled || (o.sa % 16 == 0 && o.sb % 16 == 0))
    && o.reads.all (fun r => inSp r.1 r.2)

/-- Issue of MMA, MMS and MMP (R101 to R106): the unit takes it while it holds fewer than two unstarted instructions. -/
def State.matIssue (s : State) (r : CoreRef) (kind : MatKind) (op : Nat) (ga gb : GReg) (tile : BitVec 12) (acc : Bool) :
    State :=
  let k := s.core r
  let o := k.matOp kind ga gb tile acc
  s.issue r (wordM op ga gb tile acc) (k.matHazard o)
    [(s.lastWord r, .pcRange), (kind != .mma && s.training (Site.idx r.site), .mode),
     (matFormatBad k.fa k.fb acc ga.val gb.val, .format), (0x600 ≤ tile.toNat, .tile), (!o.addressOk, .address)]
    (2 ≤ k.matQueue.length)
    (fun t => t.modCore r (fun k => { k with matQueue := k.matQueue ++ [o] }.advance))

/-- MMA (R101, R102). -/
def execMma (r : CoreRef) (ga gb : GReg) (tile : BitVec 12) (acc : Bool) (s : State) : Res :=
  .next (s.matIssue r .mma 0x20 ga gb tile acc)

/-- MMS (R101, R105, R164). -/
def execMms (r : CoreRef) (ga gb : GReg) (tile : BitVec 12) (acc : Bool) (s : State) : Res :=
  .next (s.matIssue r .mms 0x21 ga gb tile acc)

/-- MMP (R101, R105, R177). -/
def execMmp (r : CoreRef) (ga gb : GReg) (tile : BitVec 12) (acc : Bool) (s : State) : Res :=
  .next (s.matIssue r .mmp 0x22 ga gb tile acc)

/-- TZERO (R104, R106). -/
def execTzero (r : CoreRef) (tile : BitVec 12) (s : State) : Res :=
  let k := s.core r
  let o : MatOp := { kind := .tzero, spec := 0, acc := false, a := 0, b := 0, sa := 0, sb := 0, tile := tile.toNat, pc := k.pc }
  .next (s.issue r (wordM 0x23 0 0 tile false) (k.matHazard o)
    [(s.lastWord r, .pcRange), (0x600 ≤ tile.toNat, .tile)] (2 ≤ k.matQueue.length)
    (fun t => t.modCore r (fun k => { k with matQueue := k.matQueue ++ [o] }.advance)))

/-- Core `n` has the reservation of a tile. -/
def Cluster.holds (c : Cluster) (n t : Nat) : Bool := (Tab.get {} c.resv t).holder == some n

/-- A tile's reservation after core `n` asks for it: the core has it if it has it already or the tile is free and nobody asked
before; otherwise it waits after those that did (R131). -/
def Resv.ask (v : Resv) (n : Nat) : Resv :=
  if v.holder.isNone && (v.waiting.isEmpty || v.waiting.head? == some n) then
    { holder := some n, waiting := v.waiting.filter (· != n) }
  else if v.holder == some n || v.waiting.contains n then v
  else { v with waiting := v.waiting ++ [n] }

/-- Core `n` asks for the reservations of some tiles. (DEDUCED, log 34) -/
def Cluster.request (c : Cluster) (n : Nat) (ts : List Nat) : Cluster :=
  { c with resv := ts.foldl (fun l t => Tab.put {} l t ((Tab.get {} l t).ask n)) c.resv }

/-- Core `n` has, or gets by asking now, the reservations of the tiles (R131). -/
def Cluster.canReserve (c : Cluster) (n : Nat) (ts : List Nat) : Bool := ts.all ((c.request n ts).holds n)

/-- The bytes of a tile. -/
def Cluster.tile (c : Cluster) (t : Nat) : List W8 := c.sp.read (1024 * t) 1024

/-- A pass writes a tile: bytes alone change, and its words become sound. -/
def Cluster.setTile (c : Cluster) (t : Nat) (bs : List W8) : Cluster :=
  { c with sp := c.sp.write (1024 * t) bs,
           spBad := c.spBad.filter (fun w => !(128 * t ≤ w && w < 128 * t + 128)),
           spSoft := c.spSoft.filter (fun w => !(128 * t ≤ w && w < 128 * t + 128)) }

/-- The operands of a matrix instruction as its start reads them (R102, R133, R164, R177). -/
def Cluster.fetchRun (c : Cluster) (o : MatOp) (n : Nat) : MatRun :=
  let m := o.fmt.slabBytes
  { op := o, n := n, len := if o.scaled then 32 else c.glenTag (o.a / 1024),
    left := c.sp.read o.a m, right := c.sp.read o.b m,
    sl := if o.scaled then c.sp.read o.sa 16 else if o.kind = .mms then c.sp.read (o.a + m) 64 else [],
    sr := if o.scaled then c.sp.read o.sb 16 else if o.kind = .mms then c.sp.read (o.b + m) 64 else [],
    pblock := if o.kind = .mmp then c.sp.read (o.a + m) 128 else [] }

/-- What the arithmetic of a started pass works on. -/
def MatRun.data (r : MatRun) : SlabData :=
  { fmt := r.op.fmt, sc := r.op.scaled, n := r.len, left := r.left, right := r.right, sl := r.sl, sr := r.sr }

/-- PHASE of a predictor block: the compute phase (R177). -/
def computePhase (pblock : List W8) : Bool := byteAt pblock 64 % 2 == 1

/-- The tiles whose bytes the start and the run of a matrix instruction read: an MMS pass reads its tile when it is applied
(R174), a shadow-phase pass reads both tiles unless it takes them as zero (R180), a compute-phase pass the partner's verdicts
where there are some (R182, R183). -/
def Cluster.tileReads (c : Cluster) (o : MatOp) : List Nat :=
  let ph := (c.getPred o.tile).phase
  match o.kind with
  | .mma => [o.tile]
  | .mms | .tzero => []
  | .mmp =>
    if computePhase (c.sp.read (o.a + o.fmt.slabBytes) 128) then (if ph == .none then [o.tile] else o.tiles)
    else if ph == .shadow && o.fmt.hasShadow then o.tiles else []

/-- The ranges that the start of a matrix instruction checks (R123). -/
def Cluster.startReads (c : Cluster) (o : MatOp) : List Range := o.reads ++ (c.tileReads o).map tileRange

/-- Something that the start of a matrix instruction reads is uncorrectable (R123). -/
def Cluster.matBad (c : Cluster) (n : Nat) (o : MatOp) : Bool := (c.startReads o).any (fun r => c.dataBad n r.1 r.2)

/-- Single-bit errors in what the start of a matrix instruction reads are corrected (R123). -/
def State.matCorrect (s : State) (i n : Nat) (o : MatOp) : State :=
  match (s.clu i).spSoft with
  | [] => s
  | _ => s.each ((s.clu i).startReads o) (fun t r => t.correctRead i n r.1 r.2)

/-- A pass into a tile counts (R67, R68): an excess pass leaves 4,096 and is counted in FIELD_CL_EXCESS. -/
def State.countPass (s : State) (i t : Nat) : State :=
  if 4096 ≤ (s.clu i).passCount t then s.bump (clPage i + 0x08) 1
  else s.modClu i (fun c => { c with pass := Tab.put 0 c.pass t (c.passCount t + 1) })

/-- Set the predictor state of a tile. -/
def Cluster.setPred (c : Cluster) (t : Nat) (p : Pred) : Cluster := { c with pred := Tab.put {} c.pred t p }

/-- Count at a counter of the register set of a cluster's owner. -/
def State.bumpOwner (s : State) (i off n : Nat) : State :=
  match (s.clu i).owner with
  | some f => if n = 0 then s else s.bump (partSet f + off) n
  | none => s

/-- A run in progress on the cluster is marked: it completes with PREDICTOR_MAKEUP (R185). -/
def State.markMakeup (s : State) (i : Nat) : State :=
  match (s.clu i).owner, (s.clu i).cfg with
  | some f, some c => s.modCfg f c (fun k => { k with run := k.run.map (fun u => { u with makeup := true }) })
  | _, _ => s

/-- The verdicts that a tile pair holds after the decision: the partner's elements (R182). -/
def Cluster.verdictOf (c : Cluster) (t i : Nat) : Nat := tileElem (c.tile (partner t)) i

/-- Count of a value in a list. -/
def countOf (v : Nat) (l : List Nat) : Nat := (l.filter (· == v)).length

/-- The start of a shadow-phase pass (R178, R180, R181): a new run starts from +0, and a scale above SMAX voids the bound. -/
def State.shadowStart (s : State) (i : Nat) (o : MatOp) : State :=
  let c := s.clu i
  let t := o.tile
  let u := partner t
  let p := c.getPred t
  let zeros := List.replicate 1024 (0#8)
  let first := p.phase != .shadow
  let r := c.fetchRun o 0
  let void := o.fmt.hasShadow && r.data.aboveMax (byteAt r.pblock 65)
  let old := if first then false else p.makeup
  let s1 := s.modClu i (fun c =>
    let c1 := if first then (c.setTile t zeros).setTile u zeros else c
    { c1.setPred u {} with pass := Tab.put 0 c1.pass u 0, accInt := Tab.put false c1.accInt u false }.setPred t
      { phase := .shadow, makeup := old || void, live := (if first then false else p.live) || !o.fmt.hasShadow })
  if void && !old then (s1.bumpOwner i 0x330 1).markMakeup i else s1

/-- The decision before the first compute-phase pass into a shadow tile (R182, R186). -/
def State.decideTile (s : State) (i : Nat) (o : MatOp) : State :=
  let c := s.clu i
  let t := o.tile
  let u := partner t
  let p := c.getPred t
  let r := c.fetchRun o 0
  let vs := verdicts (p.makeup || p.live) (c.tile t) (c.tile u) r.pblock t
  let s1 := s.modClu i (fun c =>
    let c1 := (c.setTile t (decidedTile (c.tile t) vs)).setTile u (decidedPartner vs)
    ({ c1 with pass := Tab.put 0 (Tab.put 0 c1.pass t 0) u 0, accInt := Tab.put false c1.accInt u false }.setPred u {}).setPred t
      { p with phase := .compute, len := c.passCount t })
  ((s1.bumpOwner i 0x310 (countOf 1 vs)).bumpOwner i 0x318 (countOf 2 vs + countOf 3 vs)).bumpOwner i 0x320 (countOf 3 vs)

/-- A write into a tile other than an MMP pass of its run: no phase is open on the tile or on its partner (R178). -/
def Cluster.noPhase (c : Cluster) (t : Nat) : Cluster := (c.setPred t {}).setPred (partner t) {}

/-- What the start of a pass does to the predictor state of its tile and partner (R178, R180, R182). -/
def State.predStart (s : State) (i : Nat) (o : MatOp) : State :=
  if o.kind = .mmp then
    if computePhase ((s.clu i).fetchRun o 0).pblock then
      if ((s.clu i).getPred o.tile).phase = .shadow then s.decideTile i o
      else s.modClu i (fun c => c.setPred (partner o.tile) {})
    else s.shadowStart i o
  else s.modClu i (fun c => c.noPhase o.tile)

/-- The bit of a bitmap line for element k of row r (R165). -/
def maskBit (line : List W8) (r k : Nat) : Bool := bitOf (byteAt line ((32 * r + k) / 8)) ((32 * r + k) % 8)

/-- The bitmap lines of a started MMS pass (R164). -/
def Cluster.bitmaps (c : Cluster) (o : MatOp) : List W8 × List W8 :=
  (c.sp.read (o.a + o.fmt.slabBytes) 64, c.sp.read (o.b + o.fmt.slabBytes) 64)

/-- A row of a slab holds a mismatch of its mask, a NaN or an infinity (R166, R168). -/
def rowDense (f : Fmt) (n : Nat) (slab line : List W8) (r : Nat) : Bool :=
  let es := slabRow f n slab r
  (List.range n).any (fun k =>
    match f.decode (es.getD k 0) with
    | .fin _ m _ => m ≠ 0 && !maskBit line r k
    | _ => true)

/-- The front end computes the pass densely (R168). -/
def SlabData.dense (d : SlabData) (lines : List W8 × List W8) : Bool :=
  (List.range 16).any (fun r => rowDense d.fmt d.n d.left lines.1 r || rowDense d.fmt d.n d.right lines.2 r)
    || (d.sc && (d.sl ++ d.sr).any (· == 255))

/-- Chunk m holds a matched pair (R167). -/
def chunkFull (n : Nat) (lines : List W8 × List W8) (m : Nat) : Bool :=
  [2 * m, 2 * m + 1].any (fun r => (List.range 16).any (fun c =>
    (List.range n).any (fun k => maskBit lines.1 r k && maskBit lines.2 c k)))

/-- The contribution records of the 32 outputs of chunk m (R173). -/
def SlabData.chunk (d : SlabData) (m : Nat) : Tab Record :=
  (fromTo (32 * m) 32).map (fun i => (i, d.record (i / 16) (i % 16)))

/-- The walk of an MMS pass (R167, R171): the pass with the records of its empty chunks, and its non-empty chunks. -/
def Cluster.walk (c : Cluster) (o : MatOp) : MmsPass :=
  let r := c.fetchRun o 0
  let lines := c.bitmaps o
  let dense := r.data.dense lines
  let full := (List.range 8).filter (fun m => dense || chunkFull r.len lines m)
  let empty := (List.range 8).filter (fun m => !full.contains m)
  { run := r, dense := dense, todo := full, recs := empty.flatMap r.data.chunk }

/-- A matrix instruction of core `n` other than MMS can start now, the reservation apart (R104, R169). -/
def Core.unitFree (k : Core) (o : MatOp) : Bool :=
  k.matRun.isNone && !clash o.writes (k.mms.flatMap (fun p => p.2.run.op.writes))

/-- The oldest unstarted matrix instruction leaves the queue. -/
def Core.dropMat (k : Core) : Core := { k with matQueue := k.matQueue.drop 1 }

/-- Another core's pass is in progress in a tile that the ranges touch: a read waits for it (R131). A core that has a reservation and
has not read its tile yet holds no read back. (DEDUCED, log 34) -/
def Cluster.passIn (c : Cluster) (n : Nat) (rs : List Range) : Bool :=
  c.core.any (fun e => e.1 != n && (match e.2.matRun with
    | some m => clash rs m.op.writes
    | none => false))

/-- The next pass of core `n` into a tile is ready: its oldest MMS pass with all its records, or the oldest unstarted dense
instruction (R132). -/
def Cluster.nextInto (c : Cluster) (n t : Nat) : Bool :=
  let k := c.getCore n
  (match k.mms with
    | (_, p) :: _ => p.todo.isEmpty && p.run.op.tile == t
    | [] => false)
  || (match k.matQueue with
    | o :: _ => o.kind != .mms && k.unitFree o && o.tiles.contains t
    | [] => false)

/-- The reservation of a tile when the current pass of its holder completes: it passes to the core that waits, or continues
for the holder's next pass, or ends (R132). -/
def Cluster.release (c : Cluster) (n t : Nat) : Cluster :=
  let v := Tab.get {} c.resv t
  { c with resv := Tab.put {} c.resv t (match v.waiting with
      | m :: l => { holder := some m, waiting := l }
      | [] => { holder := if c.nextInto n t then some n else none, waiting := [] }) }

/-- The reservations of some tiles, which core `n` holds, are released (R132). -/
def Cluster.releaseAll (c : Cluster) (n : Nat) (ts : List Nat) : Cluster := ts.foldl (fun c t => c.release n t) c

/-- The start of an MMS pass (R167, R168, R171): it reads its slabs, scales and bitmaps; its tile is read, counted and written
when it is applied (R174). -/
def State.mmsStart (s : State) (r : CoreRef) (o : MatOp) : State :=
  let i := Site.idx r.site
  let n := r.n.val
  let c := s.clu i
  let k := c.getCore n
  let p := c.walk o
  if 4 ≤ k.mms.length ∨ 64 < c.steal.length + p.todo.length ∨ c.passIn n o.reads then s
  else if c.matBad n o then (s.modCore r Core.dropMat).coreFaultAt r o.pc .ecc
  else
    let s2 := (s.matCorrect i n o).modClu i (fun c =>
      { c.modCore n (fun k => { k.dropMat with mms := k.mms ++ [(k.mmsNext, p)], mmsNext := k.mmsNext + 1 }) with
        steal := c.steal ++ p.todo.map (fun m => { core := n, pass := k.mmsNext, m := m }) })
    if p.dense then s2.bumpOwner i 0x300 1 else s2

/-- PASS_START (R104, R123, R131, R171): the matrix unit of a core starts its oldest unstarted instruction, or the core waits
for the reservation of its tiles. An uncorrectable operand found here faults the core; its instructions still queued go on.
(DEDUCED, log 25; DEDUCED, log 162; DESIGN CHOICE, log 178) -/
def execPassStart (r : CoreRef) (s : State) : Res :=
  let i := Site.idx r.site
  let n := r.n.val
  let c := s.clu i
  let k := c.getCore n
  match k.matQueue with
  | [] => .next s
  | o :: _ =>
    if !s.clocked i then .next s
    else if o.kind = .mms then .next (s.mmsStart r o)
    else if !k.unitFree o then .next s
    else if c.passIn n o.reads then .next s
    else if !c.canReserve n o.tiles then .next (s.modClu i (fun c => c.request n o.tiles))
    else if c.matBad n o then
      .next (((s.modCore r Core.dropMat).modClu i (fun c => (c.request n o.tiles).releaseAll n o.tiles)).coreFaultAt r o.pc .ecc)
    else
      let s1 := if o.kind = .tzero then s else (s.matCorrect i n o).predStart i o
      let m := (s1.clu i).passCount o.tile + 1
      let s2 := if o.kind = .tzero then s1 else s1.countPass i o.tile
      .next (s2.modClu i (fun d =>
        (d.request n o.tiles).modCore n (fun k => { k.dropMat with matRun := some (c.fetchRun o m) })))

/-- The accumulator format of a tile's last pass (R109). -/
def Cluster.setAcc (c : Cluster) (t : Nat) (acc : Bool) : Cluster := { c with accInt := Tab.put false c.accInt t acc }

/-- The records of a compute-phase pass: live and sampled outputs are computed (R183). -/
def Cluster.liveOut (c : Cluster) (r : MatRun) (i : Nat) : Bool :=
  if r.op.kind = .mmp ∧ (c.getPred r.op.tile).phase = .compute then
    c.verdictOf r.op.tile i == 0 || c.verdictOf r.op.tile i == 3
  else true

/-- Sampled outputs at or above their threshold after the last pass of the run, by value in the accumulator's format (R186).
(DEDUCED, log 45) -/
def Cluster.wrongCount (c : Cluster) (r : MatRun) (tile : List W8) : Nat :=
  ((List.range 256).filter (fun i => c.verdictOf r.op.tile i == 3
    && !((if r.data.isInt then Fmt.int32 else Fmt.fp32).decode (tileElem tile i)).lt
      (Fmt.fp32.decode (tileElem r.pblock (i % 16))))).length

/-- The started matrix instruction of a core completes: tile, flags, reservation and capture (R72, R104, R112, R131, R183,
R398). -/
def State.matComplete (s : State) (r : CoreRef) (m : MatRun) : State :=
  let i := Site.idx r.site
  let n := r.n.val
  let c := s.clu i
  let t := m.op.tile
  let fin (c : Cluster) (fl : ArithFlags) : Cluster :=
    { (c.modCore n (fun k => { k with matRun := none, flags := k.flags ||| fl })).releaseAll n m.op.tiles with wdog := 0 }
  if m.op.kind = .tzero then s.modClu i (fun c => fin (c.spWrite (1024 * t) (List.replicate 1024 0)) 0)
  else
    let before := c.tile t
    let ops := m.left ++ m.right ++ m.sl ++ m.sr ++ m.pblock ++ before
      ++ (if m.op.kind = .mmp then c.tile (partner t) else [])
    if m.op.kind = .mmp ∧ !computePhase m.pblock then
      let u := partner t
      let z := List.replicate 1024 (0#8)
      let w := if m.op.fmt.hasShadow then m.data.shadowPass (byteAt m.pblock 65) before (c.tile u) else (z, z)
      (s.modClu i (fun c =>
        let d := ((c.setTile t w.1).setTile u w.2).setAcc t false
        fin { d with pass := Tab.put 0 d.pass u 0, accInt := Tab.put false d.accInt u false } 0)).capture i n m.op.pc
        ops (w.1 ++ w.2 ++ [0])
    else
      let w := applyRecords m.data.isInt before (fun j => m.data.record (j / 16) (j % 16)) (c.liveOut m)
      let s1 := s.modClu i (fun c => fin ((c.setTile t w.1).setAcc t m.op.acc) w.2)
      let s2 := if m.op.kind = .mmp ∧ (c.getPred t).phase = .compute ∧ m.n = (c.getPred t).len then
          s1.bumpOwner i 0x328 (c.wrongCount m w.1) else s1
      s2.capture i n m.op.pc ops (w.1 ++ [w.2.zeroExtend 8])

/-- A matrix unit has dense work ready to start (R172). -/
def Cluster.denseReady (c : Cluster) (n : Nat) : Bool :=
  match (c.getCore n).matQueue with
  | [] => false
  | o :: _ => o.kind != .mms && (c.getCore n).unitFree o && !c.passIn n o.reads && c.canReserve n o.tiles

/-- STEAL_CHUNK (R171 to R173): the matrix unit of a core computes the chunk at the head of the steal queue. (DEDUCED, log 46) -/
def execStealChunk (r : CoreRef) (s : State) : Res :=
  let i := Site.idx r.site
  let n := r.n.val
  let c := s.clu i
  match c.steal with
  | [] => .next s
  | x :: rest =>
    if !s.clocked i || (c.getCore n).matRun.isSome || c.denseReady n then .next s
    else
      let s1 := s.modClu i (fun c => { c.modCore x.core (fun k =>
        { k with mms := k.mms.map (fun e => if e.1 = x.pass then
            (e.1, { e.2 with todo := e.2.todo.filter (· != x.m), recs := e.2.recs ++ e.2.run.data.chunk x.m }) else e) }) with
        steal := rest, wdog := 0 })
      .next (if x.core = n then s1 else s1.bumpOwner i 0x308 1)

/-- The owner's own dense instruction in progress uses the tile: earlier passes take effect first (R75). -/
def Core.usesTile (k : Core) (t : Nat) : Bool :=
  match k.matRun with
  | some m => m.op.tiles.contains t
  | none => false

/-- MMS_APPLY (R67, R75, R76, R123, R174, R178): the owner applies its oldest started MMS pass once all its chunks have their
records and it has the tile's reservation. The pass then counts, its tile is read, checked and written, and no predictor phase
stays open; an uncorrectable tile faults the owner and the pass is dropped. (DEDUCED, log 25) -/
def execMmsApply (r : CoreRef) (s : State) : Res :=
  let i := Site.idx r.site
  let n := r.n.val
  let c := s.clu i
  match (c.getCore n).mms with
  | [] => .next s
  | (_, p) :: rest =>
    let t := p.run.op.tile
    let fin (c : Cluster) (fl : ArithFlags) : Cluster :=
      ((c.request n [t]).modCore n (fun k => { k with mms := rest, flags := k.flags ||| fl })).releaseAll n [t]
    if !s.clocked i || !p.todo.isEmpty || (c.getCore n).usesTile t then .next s
    else if !c.canReserve n [t] then .next (s.modClu i (fun c => c.request n [t]))
    else if c.dataBad n (1024 * t) 1024 then .next ((s.modClu i (fun c => fin c 0)).coreFaultAt r p.run.op.pc .ecc)
    else
      let before := c.tile t
      let w := applyRecords p.run.data.isInt before (fun j => Tab.get {} p.recs j) (fun _ => true)
      let s1 := ((s.correctRead i n (1024 * t) 1024).countPass i t).modClu i (fun c =>
        { fin (((c.setTile t w.1).noPhase t).setAcc t p.run.op.acc) w.2 with wdog := 0 })
      .next (s1.capture i n p.run.op.pc (p.run.left ++ p.run.right ++ p.run.sl ++ p.run.sr ++ before)
        (w.1 ++ [w.2.zeroExtend 8]))

end Sys2Proof.Machine
end

