-- ==== Sys2Proof/Machine/Vector.lean ====
section
/-! DEFINITION. Vector instructions (R107 to R109, R81) and the completion of matrix and vector instructions (R111, R112). -/
namespace Sys2Proof.Machine

/-- The code of a VOP function (R107). -/
def vopCode : VopFn → Nat
  | .add => 0 | .sub => 1 | .mul => 2 | .max => 3 | .min => 4 | .div => 5 | .sqrt => 6 | .abs => 7 | .neg => 8
  | .scale => 9 | .cmpgt => 10 | .select => 11

/-- The specifier of a VOP breaks R107. -/
def vopFormatBad (fn : VopFn) (spec : BitVec 5) : Bool :=
  match specOf spec with
  | some (f, sc) => sc || !(f == .fp32 || f == .fp16 || f == .bf16 || f == .int32)
      || (f == .int32 && (fn == .div || fn == .sqrt))
  | none => true

/-- The magnitude of a value. -/
def Val.abs : Val → Val
  | .nan => .nan
  | .inf _ => .inf false
  | .fin _ m e => .fin false m e

/-- One element of a VOP (R107): a, b and d are the elements at ga, gb and gd. (DEDUCED, log 17) -/
def vopElem (fn : VopFn) (f : Fmt) (a b d : Val) : Nat × ArithFlags :=
  match fn with
  | .add => f.result (a.add b)
  | .sub => f.result (a.add b.neg)
  | .mul => f.result (a.mul b)
  | .max => f.result (a.maxNum b, 0)
  | .min => f.result (a.minNum b, 0)
  | .div => f.result (a.div b)
  | .sqrt => f.result a.sqrt
  | .abs => f.result (a.abs, 0)
  | .neg => f.result (a.neg, 0)
  | .scale => f.result (a.mul b)
  | .cmpgt => f.result (.ofInt (if b.lt a then 1 else 0), 0)
  | .select => f.result (if d.isZero then b else a, 0)

/-- The values of the first `n` elements of a format in packed bytes. -/
def valsOf (f : Fmt) (n : Nat) (bs : List W8) : List Val := (List.range n).map (fun i => f.decode (elemAt f.width (leNat bs) i))

/-- Pack elements of a format into bytes (R38). -/
def Fmt.pack (f : Fmt) (es : List Nat) : List W8 := leBytes (f.bytesFor es.length) (packElems f.width es)

/-- A VOP on the bytes at ga, gb and gd: the bytes written and the flags. -/
def vopResult (fn : VopFn) (f : Fmt) (a b d : List W8) : List W8 × ArithFlags :=
  let x := valsOf f 16 a
  let y := valsOf f 16 b
  let z := valsOf f 16 d
  let es := (List.range 16).map (fun i => vopElem fn f (x.getD i .nan)
    (y.getD (if fn = .scale then 0 else i) .nan) (z.getD i .nan))
  (f.pack (es.map Prod.fst), orFlags (es.map Prod.snd))

/-- A VCVT on the bytes at ga and the scale byte at gb (R108): the bytes written, the scale chosen if any, and the flags. -/
def cvtResult (s1 s2 : BitVec 5) (sat sup : Bool) (a : List W8) (scale : Nat) : List W8 × Option Nat × ArithFlags :=
  let n := cvtCount s1 s2
  let raw := valsOf (vecFmt s1) n a
  let x := if vecScaled s1 then raw.map (scaled scale) else raw
  let f := vecFmt s2
  if vecScaled s2 && !sup then
    let q := quantiseBlock f x
    (f.pack q.2.1, some q.1, q.2.2)
  else
    let es := x.map (fun v => f.convert sat (if vecScaled s2 then v.scale (127 - (scale : Int)) else v))
    (f.pack (es.map Prod.fst), none, orFlags (es.map Prod.snd))

/-- Issue of a vector instruction into the engine's queue of two. What it reads at issue (`now`) is checked, waited for and
corrected like any read (R89, R110, R114, R123, R131). -/
def State.vecIssue (s : State) (r : CoreRef) (w : W32) (o : VecOp) (now : List Range) (faults : List (Bool × CoreFault)) : State :=
  let k := s.core r
  let c := s.clu (Site.idx r.site)
  let n := r.n.val
  let v : VecIssue := { op := o, pc := k.pc }
  s.issue r w (k.hazard (o.reads ++ now) o.writes)
    ((now.any (fun x => c.dataBad n x.1 x.2), .ecc) :: (s.lastWord r, .pcRange) :: faults)
    (2 ≤ k.vecQueue.length || c.reservedFrom n now)
    (fun t => (t.each now (fun u x => u.correctRead (Site.idx r.site) n x.1 x.2)).modCore r
      (fun k => { k with vecQueue := k.vecQueue ++ [v] }.advance))

/-- VOP (R99, R107). -/
def execVop (r : CoreRef) (fn : VopFn) (gd ga gb : GReg) (spec : BitVec 5) (s : State) : Res :=
  let k := s.core r
  let d := (k.reg gd.val).toNat
  let a := (k.reg ga.val).toNat
  let b := (k.reg gb.val).toNat
  let n := vopBytes (vecFmt spec)
  let bOk := vopUnary fn || vecOperand b (if fn = .scale then (vecFmt spec).width / 8 else n)
  .next (s.vecIssue r (wordV 0x28 gd ga gb spec.toNat (vopCode fn) false false) (.vop fn spec d a b) []
    [(vopFormatBad fn spec, .format), (!(vecOperand a n && vecOperand d n && bOk), .address)])

/-- The specifiers or the gb field of a VCVT break R108, or a supplied scale is 0xFF (R56). (DEDUCED, log 28) -/
def cvtFormatBad (s1 s2 : BitVec 5) (gb : Nat) (sup : Bool) (supplied : Nat) : Bool :=
  match specOf s1, specOf s2 with
  | some (_, b1), some (_, b2) => (b1 && b2) || (!b1 && !b2 && gb != 0) || (b2 && sup && supplied == 255)
  | _, _ => true

/-- VCVT (R56, R99, R108). -/
def execVcvt (r : CoreRef) (gd ga gb : GReg) (spec1 spec2 : BitVec 5) (sat sup : Bool) (s : State) : Res :=
  let k := s.core r
  let d := (k.reg gd.val).toNat
  let a := (k.reg ga.val).toNat
  let b := (k.reg gb.val).toNat
  let n := cvtCount spec1 spec2
  let scaleOk := !(vecScaled spec1 || vecScaled spec2) || inData b 1
  let now := if vecScaled spec2 && sup && inData b 1 then [(b, 1)] else []
  let supplied := if now.isEmpty then 0 else ((s.clu (Site.idx r.site)).dataByte r.n.val b).toNat
  .next (s.vecIssue r (wordV 0x29 gd ga gb spec1.toNat spec2.toNat sat sup) (.vcvt spec1 spec2 d a b sat sup supplied) now
    [(cvtFormatBad spec1 spec2 gb.val sup supplied, .format),
     (!(vecOperand a ((vecFmt spec1).bytesFor n) && vecOperand d ((vecFmt spec2).bytesFor n) && scaleOk), .address)])

/-- SPILL (R81, R99, R106, R109). -/
def execSpill (r : CoreRef) (gd : GReg) (tile : BitVec 12) (init : Bool) (s : State) : Res :=
  let d := ((s.core r).reg gd.val).toNat
  .next (s.vecIssue r (wordP 0x2B gd tile init) (.spill d tile.toNat init) []
    [(0x600 ≤ tile.toNat, .tile), (!(d % 64 == 0 && inSp d 2048), .address)])

/-- The conversion of a levain element to the accumulator format that R83 describes: binary64 to FP32 under R49 and R50, or to
INT32 under R52. No format specifier names binary64 (R30, R31), so no VCVT reaches it. (DEDUCED, log 159) -/
def levainResult (isInt sat : Bool) (lev : Nat) : Nat × ArithFlags :=
  (if isInt then Fmt.int32 else Fmt.fp32).convert sat (binary64.decode lev)

/-- What a vector instruction writes, address and bytes, with its flags. A SPILL reads its tile and its levain whole, writes the
levain, then zeroes the tile, so bytes that they share end as zero. (DESIGN CHOICE, log 160) -/
def Cluster.vecResult (c : Cluster) (n : Nat) (o : VecOp) : List (Nat × List W8) × ArithFlags :=
  match o with
  | .vop fn sp d a b =>
    let f := vecFmt sp
    let m := vopBytes f
    let w := vopResult fn f (c.dataRead n a m)
      (if vopUnary fn then [] else c.dataRead n b (if fn = .scale then f.width / 8 else m))
      (if fn = .select then c.dataRead n d m else [])
    ([(d, w.1)], w.2)
  | .vcvt s1 s2 d a b sat sup scale =>
    let w := cvtResult s1 s2 sat sup (c.dataRead n a ((vecFmt s1).bytesFor (cvtCount s1 s2)))
      (if vecScaled s1 then (c.dataByte n b).toNat else scale)
    (match w.2.1 with
      | some q => [(d, w.1), (b, leBytes 1 q)]
      | none => [(d, w.1)], w.2.2)
  | .spill d t init =>
    let w := spillTile (Tab.get false c.accInt t) init (c.tile t) (if init then [] else c.sp.read d 2048)
    ([(d, w.1), (1024 * t, List.replicate 1024 0)], w.2)

/-- The oldest vector instruction of a core completes: its results are written and its flags ORed in (R112), unless an operand
is uncorrectable (R89, R123). -/
def State.vecComplete (s : State) (r : CoreRef) (v : VecIssue) : State :=
  let i := Site.idx r.site
  let n := r.n.val
  let c := s.clu i
  let s0 := s.modCore r (fun k => { k with vecQueue := k.vecQueue.drop 1 })
  if v.op.reads.any (fun x => c.dataBad n x.1 x.2) then s0.coreFaultAt r v.pc .ecc
  else
    let w := c.vecResult n v.op
    let s1 := s0.each v.op.reads (fun t x => t.correctRead i n x.1 x.2)
    let s2 := s1.modClu i (fun c =>
      { (w.1.foldl (fun c e => c.dataWrite n e.1 e.2) c).modCore n (fun k => { k with flags := k.flags ||| w.2 }) with wdog := 0 })
    s2.capture i n v.pc (v.op.reads.flatMap (fun x => c.dataRead n x.1 x.2))
      (w.1.flatMap Prod.snd ++ [w.2.zeroExtend 8])

/-- UNIT_COMPLETE (R104, R111, R112): the started matrix instruction, or the oldest vector instruction, of a core completes. -/
def execUnitComplete (r : CoreRef) (u : CoreUnit) (s : State) : Res :=
  let i := Site.idx r.site
  let k := s.core r
  if !s.clocked i then .next s
  else
    match u with
    | .matrix => (match k.matRun with
      | some m => .next (s.matComplete r m)
      | none => .next s)
    | .vector => (match k.vecQueue with
      | v :: _ => if (s.clu i).reservedFrom r.n.val (v.op.reads ++ v.op.writes) then .next s else .next (s.vecComplete r v)
      | [] => .next s)

end Sys2Proof.Machine
end

