-- ==== Sys2Proof/Machine/Train.lean ====
section
/-! DEFINITION. Distributed parameter updates: block tables, contributions, homes, the step and its end (R287, R378 to R393). -/
namespace Sys2Proof.Machine

/-! ### Block tables -/

/-- Elements of block b of a group of `n` elements, and the number of blocks (R378). -/
def blockElems (n b : Nat) : Nat := min 16384 (n - 16384 * b)
def blockCount (n : Nat) : Nat := (n + 16383) / 16384

/-- Block b of a group. -/
def TGroup.block (g : TGroup) (b : Nat) : Option Block := g.blocks[b]?

/-- The blocks that are homed in this engine, with their numbers. -/
def State.homed (s : State) (g : TGroup) : List (Block × Nat) := g.blocks.zipIdx.filter (fun e => e.1.homeEng == s.tow.engineId)

/-- A range lies in versioned pages of a group. -/
def State.versionedIn (s : State) (g a n : Nat) : Bool :=
  n == 0 || (pagesOf a n).all (fun p => (s.page p).v && (s.page p).vers && (s.page p).vgroup == g)

/-- An entry of a block table (R378). -/
def blockOf (b : List W8) : Block :=
  { homeEng := rd b 0 1, homeStk := rd b 1 1, pelem := rd b 8 8, pscale := rd b 16 8, optst := rd b 24 8, acc := rd b 32 8 }

/-- An entry breaks R379. -/
def State.blockBad (s : State) (g : Nat) (raw : List W8) : Bool :=
  let b := blockOf raw
  15 < b.homeEng || 31 < b.homeStk || !zeros raw 2 6 || !zeros raw 40 8 || !s.versionedIn g b.pelem 1
    || (b.pscale != 0 && !s.versionedIn g b.pscale 1)
    || (b.homeEng == s.tow.engineId &&
        (!s.versionedIn g b.optst 196608 || (pagesOf b.optst 196608).any (fun p => (s.page p).home != b.homeStk)
          || (pagesOf b.acc 262144).any (fun p =>
              let e := s.page p
              !e.v || e.vers || !e.coherent || e.owner != (s.group g).owner || e.home != b.homeStk)))

/-- The result of TOW_VG_CMD (R394). -/
def State.vgDone (s : State) (g cmd : Nat) (st : W16) : State :=
  s.modTgroup g (fun x => { x with cmd := { field := BitVec.ofNat 32 (2 ^ 30 * cmd), busy := false, status := st } })

/-- TOW_VG_LOAD (R379, R394). (DEDUCED, log 114) -/
def execTowVgLoad (f : Func) (g : VGroup) (s : State) : Res :=
  let k := g.val
  let t := s.tgroup k
  if !s.reachesPF f.val then .next s
  else
    let n := blockCount t.nelem.toNat
    let a := t.table.toNat
    if (s.group k).state ≠ .openG ∨ !s.owns (s.group k).owner a (48 * n) then .next (s.vgDone k 1 stIllegal)
    else
      let s1 := s.demand none a (48 * n) false none
      match s.badRead none a (48 * n) with
      | x :: l => .next ((s1.memUEs 3 (x :: l)).vgDone k 1 stIllegal)
      | [] =>
        let raws := (List.range n).map (fun b => s.devRead none (a + 48 * b) 48)
        if raws.any (s.blockBad k) then .next (s1.vgDone k 1 stIllegal)
        else .next ((s1.modTgroup k (fun x => { x with loaded := true, blocks := raws.map blockOf })).vgDone k 1 stOk)

/-- TOW_VG_CLEAR (R394). -/
def execTowVgClear (f : Func) (g : VGroup) (s : State) : Res :=
  if !s.reachesPF f.val then .next s
  else if (s.group g.val).state ≠ .openG then .next (s.vgDone g.val 2 stIllegal)
  else .next ((s.modTgroup g.val (fun x => { x with loaded := false, blocks := [], acc := [] })).vgDone g.val 2 stOk)

/-! ### The end of a step -/

/-- The engines of a set, as bits. -/
def engineBits (l : List Nat) : W16 := l.foldl (fun w e => w ||| (1#16 <<< e)) 0

/-- The engines that ENGINES names. -/
def enginesOf (w : W16) : List (Fin 16) := (List.finRange 16).filter (fun e => w.getLsbD e.val)

/-- The accumulator buffers of a parity become FREE and are zeroed (R391). -/
def State.freeBuffers (s : State) (g parity : Nat) : State :=
  let t := s.tgroup g
  let s1 := s.each (s.homed t) (fun u e =>
    u.modMem (fun m =>
      let a := e.1.acc + 131072 * parity
      { m with bytes := m.bytes.zero a 131072, bad := m.bad.filter (fun k => !((wholeLines a 131072).contains k)) }))
  s1.modTgroup g (fun x => { x with acc := Tab.drop (fun k => k % 2 == parity) x.acc })

/-- The open step of a group ends (R391): it becomes the last ended step, and its STEP_COMMIT completes with a report; in the home
engine whose verdict it is, MEM_UNCORRECTABLE halts the partition's other launches (R263, R393). (DEDUCED, log 110) -/
def State.endStep (s : State) (g : Nat) (p : Report) (home : Bool) : State :=
  match (s.tgroup g).step with
  | none => s
  | some t =>
    let s1 := (s.freeBuffers g (t.step.toNat % 2)).modTgroup g (fun x =>
      { x with step := none, ended := t.step, lastDone := engineBits (t.dones.map DoneMsg.eng),
               lastOk := engineBits ((t.verdicts.filter (fun v => v.2 == stOk)).map Prod.fst),
               uncommitted := if t.commit.isNone then some t.step else none })
    match t.commit with
    | some c => if home then s1.finishDesc c.desc.1 c.desc.2 p else s1.completeDesc c.desc.1 c.desc.2 p
    | none => s1

/-- A verdict reaches the open step of a group (R391). -/
def State.verdictIn (s : State) (g eng : Nat) (st : W16) : State :=
  match (s.tgroup g).step with
  | none => s
  | some t =>
    let vs := (eng, st) :: t.verdicts.filter (fun v => v.1 != eng)
    let s1 := s.modTgroup g (fun x => { x with step := some { t with verdicts := vs } })
    if st ≠ stOk then s1.endStep g (rep st) (eng == s.tow.engineId)
    else if (enginesOf t.engines).all (fun e => vs.any (fun v => v.1 == e.val)) then
      let s2 := s1.modGroup g (fun x => { x with vg := x.vg + 1 })
      s2.endStep g { status := if t.flags = 0 then stOk else stOkFlags, flags := t.flags, r0 := (s2.group g).vg.toNat } true
    else s1

/-- This engine's verdict goes to every engine of the step (R387). -/
def State.sendVerdict (s : State) (g : Nat) (t : TStep) (st : W16) : State :=
  let s1 := s.modTgroup g (fun x => { x with step := x.step.map (fun y => { y with sentVerdict := true }) })
  let s2 := s1.each ((enginesOf t.engines).filter (· != s.eng)) (fun u e =>
    u.sendTow (u.message mVerdict e g t.step (BitVec.ofNat 64 st.toNat) []))
  if (enginesOf t.engines).contains s.eng then s2.verdictIn g s.eng.val st else s2

/-! ### DONE -/

/-- A DONE message (R369). -/
def doneOf (eng : Nat) (arg : W64) : DoneMsg :=
  { eng := eng, scale := arg.setWidth 16, engines := (arg >>> 16).setWidth 16, lost := arg.getLsbD 32 }

/-- A DONE reaches the open step of a group and is held (R387). -/
def State.doneIn (s : State) (g : Nat) (d : DoneMsg) : State :=
  s.modTgroup g (fun x => { x with step := x.step.map (fun t => { t with dones := d :: t.dones.filter (fun y => y.eng != d.eng) }) })

/-- A DONE or VERDICT message reaches this engine: it belongs to the open step, or is held for a later one (R375). (DEDUCED, log 109) -/
def State.holdOrGive (s : State) (m : TowMsg) : State :=
  let g := m.vgroup.val
  if ((s.tgroup g).step.map TStep.step) = some m.step then
    (if m.msg = mDone then s.doneIn g (doneOf m.srcEng.val m.arg) else s.verdictIn g m.srcEng.val (m.arg.setWidth 16))
  else s.modTgroup g (fun x => { x with early := x.early ++ [m] })

/-! ### STEP_BEGIN and STEP_COMMIT -/

/-- VGROUP, SCALE, STEP, TIMEOUT and ENGINES of a STEP_BEGIN; VGROUP and STEP are also those of a STEP_COMMIT (R316). -/
def Desc.vgroup (d : Desc) : Nat := d.field 8 1
def Desc.stepNo (d : Desc) : W32 := BitVec.ofNat 32 (d.field 12 4)
def Desc.engines (d : Desc) : W16 := BitVec.ofNat 16 (d.field 18 2)
def Desc.timeout (d : Desc) : Nat := if d.field 16 2 = 0 then 50 else d.field 16 2

/-- A STEP_BEGIN is refused (R385). -/
def State.beginBad (s : State) (d : Desc) : Bool :=
  let g := d.vgroup
  let t := s.tgroup g
  (s.group g).state != .sealed || (s.group g).owner != d.func || !t.loaded || t.step.isSome
    || !serialBefore 32 t.ended.toNat d.stepNo.toNat || !(enginesOf d.engines).contains s.eng

/-- The open step that a STEP_BEGIN makes (R385). -/
def stepOf (d : Desc) : TStep :=
  { step := d.stepNo, scale := BitVec.ofNat 16 (d.field 10 2), engines := d.engines, deadline := d.taken + 1000 * d.timeout }

/-- STEP_BEGIN (R222, R385): the step opens, with the messages that were held for it. -/
def execStepBegin (r : DescRef) (s : State) : Res :=
  .next (s.beginDesc r (· == 7) s.beginBad (fun d t =>
    let g := d.vgroup
    let held := (t.tgroup g).early
    let t1 := t.modTgroup g (fun x => { x with step := some (stepOf d), uncommitted := none, early := [] })
    (t1.each held (fun u m => if serialBefore 32 (t.tgroup g).ended.toNat m.step.toNat then u.holdOrGive m else u)).endDesc d stOk))

/-- OPT, PFMT and HYPER of a STEP_COMMIT (R316). -/
def Desc.opt (d : Desc) : Nat := d.field 9 1
def Desc.pfmt (d : Desc) : Nat := d.field 10 1
def Desc.hyper (d : Desc) : Nat := d.field 16 8

/-- PFMT is not one that a commit takes (R390). -/
def pfmtBad (p : Nat) : Bool := 31 < p || (match specOf (BitVec.ofNat 5 p) with
  | some (f, _) => f == .int32
  | none => true)

/-- PFMT is a 4-bit or 6-bit format, and the emitted parameters of a group do not begin at a multiple of 64 or are no multiple of 32
elements (R39, R378). -/
def TGroup.packBad (x : TGroup) (p : Nat) : Bool :=
  (vecFmt (BitVec.ofNat 5 p)).width < 8 && (x.nelem.toNat % 32 != 0 || x.blocks.any (fun b => b.pelem % 64 != 0))

/-- The fields of a STEP_COMMIT are bad, whatever the step (R32, R39, R315, R390). -/
def State.commitFieldsBad (s : State) (d : Desc) : Bool :=
  1 < d.opt || pfmtBad d.pfmt || (s.tgroup d.vgroup).packBad d.pfmt || (s.group d.vgroup).owner != d.func || !s.owns d.func d.hyper 64

/-- A STEP_COMMIT names no step that it can commit (R386). -/
def State.commitBad (s : State) (d : Desc) : Bool :=
  match (s.tgroup d.vgroup).step with
  | some t => t.step != d.stepNo || t.commit.isSome
  | none => true

/-- A valid STEP_COMMIT starts: DONE goes to every engine of the step (R386). -/
def State.startCommit (s : State) (d : Desc) (t : TStep) : State :=
  let g := d.vgroup
  let c : Commit := { desc := (d.ring, d.index), opt := d.opt, pfmt := BitVec.ofNat 5 d.pfmt,
                      hyper := (List.range 8).map (fun k => rd (s.devRead none d.hyper 32) (4 * k) 4) }
  let arg : W64 := BitVec.ofNat 64 (t.scale.toNat + 2 ^ 16 * t.engines.toNat + 2 ^ 32 * t.lost.toNat)
  let s1 := (((s.demand none d.hyper 64 false none).started d).modTgroup g (fun x =>
      { x with step := x.step.map (fun y => { y with commit := some c }) })).doneIn g
    (doneOf s.tow.engineId arg)
  s1.each ((enginesOf t.engines).filter (· != s.eng)) (fun u e => u.sendTow (u.message mDone e g t.step arg []))

/-- STEP_COMMIT (R312, R327, R386, R389 to R391): the lowest code of those that apply. (DEDUCED, log 112) -/
def execStepCommit (r : DescRef) (s : State) : Res :=
  .next (s.beginDesc r (· == 8) (fun _ => false) (fun d t =>
    if t.commitFieldsBad d then t.endDesc d stIllegal
    else if (t.tgroup d.vgroup).uncommitted = some d.stepNo then
      (t.modTgroup d.vgroup (fun x => { x with uncommitted := none })).endDesc d stStepRepeat
    else if t.commitBad d then t.endDesc d stIllegal
    else
      match t.badRead none d.hyper 64, (t.tgroup d.vgroup).step with
      | [], some y => t.startCommit d y
      | l, _ => (t.memUEs 3 l).endDesc d stMemUE))

/-- STEP_DEADLINE (R391). -/
def execStepDeadline (g : VGroup) (s : State) : Res :=
  match (s.tgroup g.val).step with
  | none => .next s
  | some t => if t.deadline ≤ s.now then .next (s.endStep g.val (rep stStepRepeat) true) else .next s

/-! ### Contributions at their home -/

/-- Elements of a contribution record (R381), as signed integers. -/
def recordElems (b : List W8) : List Int := (List.range (rd b 4 1)).map (fun i => signedOf 32 (rd b (16 + 4 * i) 4))

/-- Discarded and counted in TOW_VG_STALE. -/
def State.vgStale (s : State) (g : Nat) : State := s.bump (offVgStale g) 1

/-- Add elements into INT64 elements from a device address (R384). -/
def State.accumulate (s : State) (a : Nat) : List Int → State
  | [] => s
  | q :: qs =>
    let v := leNat (s.devRead none a 8)
    State.accumulate (s.devWrite a (leBytes 8 ((v + q % (2 ^ 64 : Int)).toNat % 2 ^ 64))) (a + 8) qs

/-- The block of a record that this engine may add: homed here, within the block and the group. (DEDUCED, log 108) -/
def State.recordBlock (s : State) (g : Nat) (b : List W8) : Option (Block × Nat) :=
  let t := s.tgroup g
  let k := rd b 0 4 / 16384
  match t.block k with
  | some x =>
    if x.homeEng = s.tow.engineId ∧ 1 ≤ rd b 4 1 ∧ rd b 0 4 % 16384 + rd b 4 1 ≤ blockElems t.nelem.toNat k then some (x, k) else none
  | none => none

/-- A record of a step reaches its home (R384): none where it is discarded. (DEDUCED, log 113) -/
def State.homeAdd (s : State) (g : Nat) (step : W32) (b : List W8) : Option State :=
  let t := s.tgroup g
  let p := step.toNat % 2
  match s.recordBlock g b with
  | none => none
  | some (x, k) =>
    let buf := Tab.get {} t.acc (2 * k + p)
    if !serialBefore 32 t.ended.toNat step.toNat || (buf.step.isSome && buf.step != some step) then none
    else
      let a := x.acc + 131072 * p + 8 * (rd b 0 4 % 16384)
      let n := 8 * rd b 4 1
      let bad := s.badRead none a n
      let s1 := (((s.demand none a n true none).memUEs 10 bad).accumulate a (recordElems b))
      some (s1.modTgroup g (fun y =>
        { y with acc := Tab.put {} y.acc (2 * k + p) { step := some step, sum := buf.sum + BitVec.ofNat 64 (rd b 8 8) } }))

/-- A record is forwarded to its home engine (R382): one message for each. (DEDUCED, log 107) -/
def State.forward (s : State) (p : Packet) (g : Nat) (t : TStep) (home : Nat) : State :=
  let tag := s.tow.nextMtag
  let f : Fwd := { mtag := tag, group := g, step := t.step, sent := s.now, packet := p }
  { s with tow := { s.tow with fwd := s.tow.fwd ++ [f], nextMtag := tag + 1 } }.sendTow
    (s.message mRacc (Fin.ofNat 16 home) g t.step (BitVec.ofNat 64 (2 ^ 32 * tag.toNat + 1)) p.payload)

/-- RACC (R377, R382, R384, R391): a record reaches a crust block. -/
def execRacc (id : Nat) (s : State) : Res :=
  match s.arrived id .racc with
  | none => .next s
  | some (p, _) =>
    let g := p.arg / 2 ^ 40 % 256
    let x := s.tgroup g
    if s.resetting p.func then .next (s.discardCrust p)
    else
      let s1 := s.removePacket p
      match x.step with
      | none => .next (s1.vgStale g)
      | some t =>
        if !x.loaded || decide (t.step.toNat % 2 ≠ (bitOf p.arg 39).toNat) then .next (s1.vgStale g)
        else
          match x.block (rd p.payload 0 4 / 16384) with
          | none => .next (s1.vgStale g)
          | some b =>
            if b.homeEng ≠ s.tow.engineId then .next (s1.forward p g t b.homeEng)
            else
              match s1.homeAdd g t.step p.payload with
              | some s2 => .next (s2.answerRacc p)
              | none => .next (s1.vgStale g)

/-- RACC_ACK (R204, R382): the completion count of its slot advances. -/
def execRaccAck (id : Nat) (s : State) : Res :=
  match s.arrived id .raccAck with
  | none => .next s
  | some (p, i) =>
    if (s.clu i).resetting || ((s.clu i).slotOf p).isNone then .next (s.discardAt i p)
    else .next ((s.removePacket p).both i (fun c => c.answer p s.now))

/-! ### Messages for this engine -/

/-- A message for this engine is discarded: its group has no loaded table, its owner's partition resets (R377), or its step has
ended (R391). (DEDUCED, log 106) -/
def State.towStale (s : State) (m : TowMsg) : Bool :=
  let g := m.vgroup.val
  !(s.tgroup g).loaded || s.resetting (s.group g).owner || !serialBefore 32 (s.tgroup g).ended.toNat m.step.toNat

/-- The first message of a type for this engine leaves a port's receive buffers and takes its effect; `none` leaves it there. -/
def State.towTake (s : State) (p : Nat) (t : W8) (eff : TowMsg → State → Option State) : Res :=
  match (if s.ready then s.towFirst p (fun m => m.dstEng == s.eng && m.msg == t) else none) with
  | none => .next s
  | some m =>
    let s1 := s.towRelease p m
    if s.towStale m then .next (s1.vgStale m.vgroup.val)
    else
      match eff m s1 with
      | some s2 => .next s2
      | none => .next s

/-- The records of a RACC payload (R369, R381). The first argument bounds their number. -/
def splitRecords : Nat → List W8 → List (List W8)
  | 0, _ => []
  | k + 1, b => if b.length < 16 then [] else
      let n := 16 + 4 * rd b 4 1
      b.take n :: splitRecords k (b.drop n)

/-- Add the records of a message in turn: the state, and whether every one was added. -/
def State.addRecords (s : State) (g : Nat) (step : W32) : List (List W8) → State × Bool
  | [] => (s, true)
  | b :: l =>
    match s.homeAdd g step b with
    | some t => State.addRecords t g step l
    | none => ((State.addRecords (s.vgStale g) g step l).1, false)

/-- TOW_RACC (R369, R384). -/
def execTowRacc (p : EPort) (s : State) : Res :=
  s.towTake p.val mRacc (fun m t =>
    let r := t.addRecords m.vgroup.val m.step (splitRecords 16 m.payload)
    some (if r.2 then r.1.answerTow m mRaccAck else r.1))

/-- TOW_RACC_ACK (R382, R383): the packet of a forwarded record is answered; an acknowledgement that comes too late is discarded. -/
def execTowRaccAck (p : EPort) (s : State) : Res :=
  s.towTake p.val mRaccAck (fun m t =>
    match t.tow.fwd.find? (fun f => f.mtag.toNat == m.arg.toNat / 2 ^ 32) with
    | none => some t
    | some f => some ({ t with tow := { t.tow with fwd := t.tow.fwd.filter (fun x => x.mtag != f.mtag) } }.answerRacc f.packet))

/-- TOW_ACK_TO in microseconds (R383, R394). -/
def State.ackTimeout (s : State) : Nat := max 10 ((s.reg (towBase + 0x0C)).toNat % 65536)

/-- TOW_ACK_TIMEOUT (R383). -/
def execTowAckTimeout (mtag : W32) (s : State) : Res :=
  match s.tow.fwd.find? (fun f => f.mtag == mtag) with
  | none => .next s
  | some f => if f.port.isSome && decide (f.sent + s.ackTimeout ≤ s.now) then .next (s.voidRecord f) else .next s

/-- TOW_DONE (R375, R387). -/
def execTowDone (p : EPort) (s : State) : Res := s.towTake p.val mDone (fun m t => some (t.holdOrGive m))

/-- TOW_VERDICT (R375, R391). -/
def execTowVerdict (p : EPort) (s : State) : Res := s.towTake p.val mVerdict (fun m t => some (t.holdOrGive m))

/-- TOW_PARAM_ACK (R387): when every PARAM message has been acknowledged, the verdict is OK. -/
def execTowParamAck (p : EPort) (s : State) : Res :=
  s.towTake p.val mParamAck (fun m t =>
    let g := m.vgroup.val
    match (t.tgroup g).step with
    | none => some t
    | some y =>
      let y1 := { y with await := y.await.filter (fun e => !(e.1 == m.srcEng.val && e.2 == m.arg)) }
      let t1 := t.modTgroup g (fun x => { x with step := some y1 })
      some (if y1.updated && !y1.sentVerdict && y1.await.isEmpty then t1.sendVerdict g y1 stOk else t1))

/-! ### The update -/

/-- The slot that a commit of a group writes (R287). -/
def State.nextSlot (s : State) (g : Nat) : Nat := 1 - (s.group g).slot

/-- A launch, frame-slot run, COPY or DIGEST holds a view of the parity that a commit writes (R286, R287). -/
def State.viewHeld (s : State) (g : Nat) : Bool :=
  let n := s.nextSlot g
  let holds (v : List Nat) : Bool := v.contains g == (n == 1)
  s.part.any (fun e => e.2.cfg.any (fun c => match c.2.run with | some u => holds u.view | none => false))
    || s.hst.descs.any (fun d => d.started && (d.opcode == 3 || d.opcode == 9) && holds d.view)

/-- An update engine writes bytes of a group's pages in the slot of the commit (R262, R287); bytes outside them are not written. -/
def State.writeNext (s : State) (g a : Nat) (bs : List W8) : State :=
  let n := s.nextSlot g
  s.each (splitPages a bs) (fun t e =>
    if t.versionedIn g e.1 e.2.length then
      let part := partLines e.1 e.2.length
      let bad := part.filter (t.lineBad n)
      let t1 := t.each (linesOf e.1 e.2.length) (fun u l => u.touchLine n (64 * l) true (part.contains l))
      ((t1.countAccess (pageOf e.1) (linesOf e.1 e.2.length).length none).modMem (fun m => m.writeSlot n e.1 e.2)).memUEs 3 bad
    else t)

/-- An FP32 encoding with the flags that led to it. -/
abbrev Flagged := Nat × ArithFlags

/-- An operation of R388 on FP32 encodings (R49, R60). -/
def op32 (fn : VopFn) (a b : Flagged) : Flagged :=
  let r := vopElem fn .fp32 (Fmt.fp32.decode a.1) (Fmt.fp32.decode b.1) .nan
  (r.1, a.2 ||| b.2 ||| r.2)

/-- 1 as FP32. -/
def one32 : Flagged := (0x3F800000, 0)

/-- The update of one element (R388): w1, m1 and v1. `h` holds ETA, MU (BETA1), BETA2, LAMBDA, EPS, GMUL, C1 and C2. -/
def updateElem (opt : Nat) (h : List Nat) (scale acc : Int) (w m v : Nat) : Flagged × Flagged × Flagged :=
  let k (i : Nat) : Flagged := (h.getD i 0, 0)
  let w : Flagged := (w, 0)
  let m : Flagged := (m, 0)
  let v : Flagged := (v, 0)
  let g := op32 .mul (Fmt.fp32.convert false (.fin (acc < 0) acc.natAbs scale)) (k 5)
  if opt = 0 then
    let m1 := op32 .add (op32 .mul (k 1) m) g
    (op32 .sub w (op32 .mul (k 0) (op32 .add m1 (op32 .mul (k 3) w))), m1, v)
  else
    let m1 := op32 .add (op32 .mul (k 1) m) (op32 .mul (op32 .sub one32 (k 1)) g)
    let v1 := op32 .add (op32 .mul (k 2) v) (op32 .mul (op32 .sub one32 (k 2)) (op32 .mul g g))
    let d := op32 .div (op32 .mul m1 (k 6)) (op32 .add (op32 .sqrt (op32 .mul v1 (k 7)) (0, 0)) (k 4))
    (op32 .sub w (op32 .mul (k 0) (op32 .add d (op32 .mul (k 3) w))), m1, v1)

/-- Emit 32 parameters (R390): their bytes, the scale byte chosen if any, and the flags. -/
def emitBlock (spec : BitVec 5) (ws : List Nat) : List W8 × List W8 × ArithFlags :=
  let f := vecFmt spec
  let xs := ws.map Fmt.fp32.decode
  if vecScaled spec then
    let q := quantiseBlock f xs
    (f.pack q.2.1, leBytes 1 q.1, q.2.2)
  else
    let es := xs.map (f.convert false)
    (f.pack (es.map Prod.fst), [], orFlags (es.map Prod.snd))

/-- Emit `n` groups of 32 parameters. -/
def emitAll (spec : BitVec 5) : Nat → List Nat → List W8 × List W8 × ArithFlags
  | 0, _ => ([], [], 0)
  | k + 1, ws =>
    let a := emitBlock spec (ws.take 32)
    let b := emitAll spec k (ws.drop 32)
    (a.1 ++ b.1, a.2.1 ++ b.2.1, a.2.2 ||| b.2.2)

/-- What an update engine writes for a block: w, m, v, emitted elements and scales, and the flags (R388, R390). -/
structure Updated where
  w : List W8
  m : List W8
  v : List W8
  elems : List W8
  scales : List W8
  flags : ArithFlags
  deriving DecidableEq, Repr

/-- The `n` words of some bytes. -/
def words32 (b : List W8) (n : Nat) : List Nat := (List.range n).map (fun i => rd b (4 * i) 4)

/-- The elements of an accumulator buffer, as signed integers. -/
def State.accElems (s : State) (b : Block) (parity n : Nat) : List Int :=
  let raw := s.devRead none (b.acc + 131072 * parity) (8 * n)
  (List.range n).map (fun i => signedOf 64 (rd raw (8 * i) 8))

/-- The update of a block (R388, R390). -/
def State.updateBlock (s : State) (t : TStep) (c : Commit) (b : Block) (n : Nat) : Updated :=
  let ws := words32 (s.devRead none b.optst (4 * n)) n
  let ms := words32 (s.devRead none (b.optst + 65536) (4 * n)) n
  let vs := words32 (s.devRead none (b.optst + 131072) (4 * n)) n
  let rs := (s.accElems b (t.step.toNat % 2) n).zipIdx.map (fun e =>
    updateElem c.opt c.hyper t.scale.toInt e.1 (ws.getD e.2 0) (ms.getD e.2 0) (vs.getD e.2 0))
  let e := emitAll c.pfmt ((n + 31) / 32) (rs.map (fun r => r.1.1))
  { w := rs.flatMap (fun r => leBytes 4 r.1.1), m := rs.flatMap (fun r => leBytes 4 r.2.1.1), v := rs.flatMap (fun r => leBytes 4 r.2.2.1),
    elems := e.1, scales := e.2.1, flags := orFlags (rs.map (fun r => r.1.2 ||| r.2.1.2 ||| r.2.2.2)) ||| e.2.2 }

/-- A block disagrees with its checksum total (R387). -/
def State.checksumBad (s : State) (g : Nat) (t : TStep) (e : Block × Nat) : Bool :=
  let x := s.tgroup g
  let p := t.step.toNat % 2
  (s.accElems e.1 p (blockElems x.nelem.toNat e.2)).sum % (2 ^ 64 : Int) != ((Tab.get {} x.acc (2 * e.2 + p)).sum.toNat : Int)

/-- The uncorrectable lines that an update of a block reads (R262). -/
def State.blockUE (s : State) (t : TStep) (b : Block) (n : Nat) : List Nat :=
  s.badRead none (b.acc + 131072 * (t.step.toNat % 2)) (8 * n)
    ++ ([0, 65536, 131072].flatMap (fun o => s.badRead none (b.optst + o) (4 * n)))

/-- The PARAM messages for some bytes of a part: argument and payload, at most 4,096 bytes each (R369). -/
def paramParts (block : Nat) (scales : Bool) (bs : List W8) : List (W64 × List W8) :=
  (List.range ((bs.length + 4095) / 4096)).map (fun k =>
    (BitVec.ofNat 64 (2 ^ 32 * block + 2 ^ 31 * scales.toNat + 4096 * k), (bs.drop (4096 * k)).take 4096))

/-- One block is updated, written and sent (R387): w, m, v and the emitted parameters go to the slot of the commit. -/
def State.runBlock (s : State) (g : Nat) (t : TStep) (c : Commit) (e : Block × Nat) : State :=
  let b := e.1
  let n := blockElems (s.tgroup g).nelem.toNat e.2
  let u := s.updateBlock t c b n
  let s0 := s.demand none (b.acc + 131072 * (t.step.toNat % 2)) (8 * n) false none
  let s1 := [0, 65536, 131072].foldl (fun x o => x.demand none (b.optst + o) (4 * n) false none) s0
  let s2 := (((s1.writeNext g b.optst u.w).writeNext g (b.optst + 65536) u.m).writeNext g (b.optst + 131072) u.v).writeNext g b.pelem
    u.elems
  let s3 := if vecScaled c.pfmt then s2.writeNext g b.pscale u.scales else s2
  let parts := paramParts e.2 false u.elems ++ paramParts e.2 true u.scales
  let others := (enginesOf t.engines).filter (· != s.eng)
  let s4 := s3.modTgroup g (fun x => { x with step := x.step.map (fun y =>
    { y with flags := y.flags ||| u.flags,
             await := y.await ++ others.flatMap (fun o => parts.map (fun q => (o.val, q.1))) }) })
  s4.each others (fun x o => x.each parts (fun z q => z.sendTow (z.message mParam o g t.step q.1 q.2)))

/-- The verdict of a home before its update, or none where it may update (R387). (DEDUCED, log 110) -/
def State.homeVerdict (s : State) (g : Nat) (t : TStep) : Option W16 :=
  let bs := s.homed (s.tgroup g)
  if bs.isEmpty then some stOk
  else if t.dones.any DoneMsg.lost then some stStepRepeat
  else if t.dones.any (fun d => d.engines != t.engines || d.scale != t.scale) then some stIllegal
  else if bs.any (s.checksumBad g t) then some stChecksum
  else none

/-- PARAM_UPDATE (R262, R287, R387, R388): a home that holds every DONE gives its verdict or updates its blocks. (DEDUCED, log 111) -/
def execParamUpdate (g : VGroup) (s : State) : Res :=
  let k := g.val
  match (s.tgroup k).step with
  | none => .next s
  | some t =>
    match t.commit with
    | none => .next s
    | some c =>
      if t.sentVerdict || t.updated || !(enginesOf t.engines).all (fun e => t.dones.any (fun d => d.eng == e.val)) then .next s
      else
        match s.homeVerdict k t with
        | some st => .next (s.sendVerdict k t st)
        | none =>
          let bs := s.homed (s.tgroup k)
          if s.viewHeld k then .next s
          else
            match (bs.flatMap (fun e => s.blockUE t e.1 (blockElems (s.tgroup k).nelem.toNat e.2))) with
            | x :: l => .next ((s.memUEs 3 (x :: l)).sendVerdict k t stMemUE)
            | [] =>
              let s1 := s.each bs (fun u e => u.runBlock k t c e)
              let s2 := s1.modTgroup k (fun x => { x with step := x.step.map (fun y => { y with updated := true }) })
              match (s2.tgroup k).step with
              | some y => if y.await.isEmpty then .next (s2.sendVerdict k y stOk) else .next s2
              | none => .next s2

/-- Where a PARAM message writes (R378, R390). -/
def State.paramAddr (s : State) (m : TowMsg) : Option Nat :=
  match (s.tgroup m.vgroup.val).block (m.arg.toNat / 2 ^ 32) with
  | some b => some ((if bitOf m.arg.toNat 31 then b.pscale else b.pelem) + m.arg.toNat % 2 ^ 31)
  | none => none

/-- TOW_PARAM (R287, R390): held until no view of the slot runs, then written and acknowledged. -/
def execTowParam (p : EPort) (s : State) : Res :=
  s.towTake p.val mParam (fun m t =>
    let g := m.vgroup.val
    match t.paramAddr m, ((t.tgroup g).step.map TStep.step) == some m.step with
    | some a, true =>
      if !t.versionedIn g a m.payload.length then some (t.vgStale g)
      else if t.viewHeld g then none
      else some ((t.writeNext g a m.payload).answerTow m mParamAck)
    | _, _ => some (t.vgStale g))

end Sys2Proof.Machine
end

