-- ==== Sys2Proof/Machine/Links.lean ====
section
/-! DEFINITION. Retraining of links in service, what a module reset leaves, and the field that goes dark or comes back (R26, R190,
R419, R429, R430, R441, R453 to R458). -/
namespace Sys2Proof.Machine

/-! ### Retraining -/

/-- REPLAY_MAX and STRIKES (R437): 0 acts as 1. -/
def State.replayMax (s : State) : Nat := max 1 ((s.reg (fabBase + 0x50)).toNat / 65536)
def State.strikeMax (s : State) : Nat := max 1 ((s.reg (fabBase + 0x50)).toNat % 16)

/-- FAB_RETRAINS and FAB_LINK_OFF (R437). -/
def offRetrains : Nat := fabBase + 0x58
def offLinkOff : Nat := fabBase + 0x60

/-- The keys of both ends of a link; one to the crust has one end on the wafer. -/
def linkEnds (l : LinkEnd) : List Nat := portEnds (Site.idx l.site) l.port

/-- Both ends of a link leave the state up, and what is on it goes back; or they come back up. -/
def State.modEnds (s : State) (l : LinkEnd) (f : Link → Link) : State := s.each (linkEnds l) (fun t k => t.loseLink k f)

/-- A link retrains now (R429): it has more than REPLAY_MAX replays within 10 ms, or a port of it is dead while the routers at both
ends are live. -/
def State.retrains (s : State) (l : LinkEnd) : Bool :=
  s.bothLive (linkEndKey l) && (linkEnds l).all (fun k => (s.link k).state == .up || (s.link k).state == .dead)
    && (linkEnds l).any (fun k =>
      let x := s.link k
      x.state == .dead || s.replayMax < (recent x.replays 10000 s.now).length)

/-- One powered hour in microseconds. -/
def hourUs : Nat := 3600000000

/-- LINK_RETRAIN (R201, R248, R429, R430): the link becomes absent; a timetable that uses it fails, and fold packets wait.
(DEDUCED, log 125) -/
def execLinkRetrain (l : LinkEnd) (s : State) : Res :=
  if !s.ready || !s.retrains l then .next s
  else
    let x : Failed := { link := some (Site.idx l.site, l.port) }
    let s1 := s.modEnds l (fun k => { state := .training, strikes := s.now :: recent k.strikes hourUs s.now })
    .next ((s1.each s1.allCfgs (fun t e => t.breakTable x e.1 e.2)).mapChange.bump offRetrains 1)

/-! ### Dark fields -/

/-- FIELD_REGION_TRIPS (R460). -/
def offRegionTrips (fld : Nat) : Nat := fieldWin fld + 0x34018

/-- Functions with clusters in a field. -/
def State.fieldFuncs (s : State) (fld : Nat) : List Nat :=
  (s.cl.filterMap (fun e => if fieldOf e.1 = fld then e.2.owner else none)).eraseDups

/-- An event of a field goes to every function with clusters there and engine-wide (R458, R478). -/
def State.fieldEvent (s : State) (fld : Nat) (typ : W16) (data : Nat) : State :=
  let s1 := s.each ((s.fieldFuncs fld).filter (fun f => f != 0 && f != 32)) (fun t f => t.raise (some (f, 0)) false typ data)
  s1.raiseWide typ data

/-- The configurations with a cluster in a field. -/
def State.cfgsIn (s : State) (fld : Nat) : List (Nat × Nat) :=
  s.allCfgs.filter (fun e => (s.cfg e.1 e.2).clusters.any (fun i => fieldOf i == fld))

/-- A load in progress with a cluster in a field that goes dark ends with FIELD_LOST (R163). (DEDUCED, log 124) -/
def State.loadLost (s : State) (f c fld : Nat) : State :=
  match (s.cfg f c).load with
  | none => s
  | some l =>
    if (s.cfg f c).clusters.any (fun i => fieldOf i == fld) || l.sections.any (fun x => fieldOf x.site == fld) then
      (s.modCfg f c (fun k => { k with load := none })).finishDesc l.desc.1 l.desc.2 (rep stFieldLost)
    else s

/-- A transfer with operations outstanding is exposed (R206). -/
def Xfer.expose (x : Xfer) : Xfer := { x with exposed := true }

/-- Every transfer with operations outstanding is exposed (R206). -/
def Cluster.expose (c : Cluster) : Cluster := { c with slot := c.slot.map (fun x => (x.1, x.2.map Xfer.expose)) }
def State.expose (s : State) : State := { s with cl := s.cl.map (fun e => (e.1, e.2.expose)) }

/-- The mailbox holds a command's state (R459). -/
def State.mboxSet (s : State) (op : Nat) (busy : Bool) (st : W16) : State :=
  { s with pwr := { s.pwr with mbox := { field := BitVec.ofNat 32 (2 ^ 24 * op), busy := busy, status := st } } }

/-- A field loses power, compute and fabric (R29, R163, R206, R215, R236, R248, R318, R414, R454, R458); a REGION_ON that was restoring it
ends without success (R457, R459). (DEDUCED, log 130) -/
def State.goDark (s : State) (fld : Nat) (locked : Bool) : State :=
  let s1 := (s.modFab (fun b => { b with dark := setBit64 b.dark fld true, darkSince := some s.now, suspect := b.doubtful })).modField fld (fun x =>
    { x with region := if locked then .locked else .dark, wasReset := false })
  let s2 := (((s1.loseField fld).expose).dropCaptures (fun j => fieldOf j == fld)).bump (offRegionTrips fld) 1
  let s3 := s2.each s2.allCfgs (fun t e => t.loadLost e.1 e.2 fld)
  let s4 := s3.each (s3.cfgsIn fld) (fun t e => t.haltOne e.1 e.2 (rep stFieldLost))
  let s5 := s4.each ((s4.cl.map Prod.fst).filter (fun i => fieldOf i == fld)) (fun t i =>
    t.modClu i (fun c => { c with needsClear := c.needsClear || c.owner.isSome }))
  let s6 := ((s5.failPaths { field := some fld }).assignCheckers.mapChange).fieldEvent fld 0x0032 (fld + 256 * locked.toNat)
  if (s.field fld).region = .starting then s6.mboxSet 2 false stIllegal else s6

/-- The windows of 10 s after REGION_ON (R457). -/
def State.justOn (s : State) (fld : Nat) : Bool :=
  match (s.field fld).regionOnAt with
  | some t => s.now < t + 10000000
  | none => false

/-- REGION_SHORT (R454, R457). -/
def execRegionShort (fld : FieldIx) (s : State) : Res :=
  match (s.field fld.val).region with
  | .on => if s.pwr.step = .regions ∨ s.pwr.step = .released then .next (s.goDark fld.val (s.justOn fld.val)) else .next s
  | .starting => .next (s.goDark fld.val true)
  | _ => .next s

/-! ### The PWR mailbox -/

/-- A physical function writes an operation to the PWR mailbox: refused, or it takes its effect (R459, R536). -/
def State.mboxCommand (s : State) (f op : Nat) (ok : Bool) (eff : State → State) : State :=
  if !s.reachesPF f || s.pwr.mbox.busy then s
  else if ok then eff s
  else s.mboxSet op false stIllegal

/-- FIELD of PWR_MBOX_ARG, and whether every reserved bit of the argument is zero (R459). -/
def State.argField (s : State) : Nat := bits s.pwr.arg.toNat 29 24
def State.argClean (s : State) : Bool := bits s.pwr.arg.toNat 31 30 == 0 && bits s.pwr.arg.toNat 23 1 == 0

/-- REGION_ON (R344, R456): steps 1 to 5; the command stays in progress until the field's links have retrained. -/
def execRegionOn (f : Func) (s : State) : Res :=
  let k := s.argField
  .next (s.mboxCommand f.val 2 (s.argClean && !bitOf s.pwr.arg.toNat 0 && (s.field k).region == .dark) (fun t =>
    let t1 := (t.mboxSet 2 true stOk).modFab (fun b => { b with oos := setBit64 b.oos k true, dark := setBit64 b.dark k false })
    let t2 := t1.modField k (fun x => { x with region := .starting, regionOnAt := none })
    let t3 := ((t2.loseField k).retrainField k true).mapChange
    t3.each (t3.cl.filterMap (fun e => if fieldOf e.1 = k ∧ e.2.needsClear then some e.1 else none)) State.clearCluster))

/-- A field's links have retrained: the command that waited for it ends (R217, R456, R458). (DEDUCED, log 126) -/
def State.fieldBack (s : State) (fld : Nat) : State :=
  if !s.fieldTrained fld then s
  else
    let s1 := s.resetDone fld
    if (s1.field fld).region = .starting then
      ((s1.modField fld (fun x => { x with region := .on, regionOnAt := some s.now, wasReset := true })).mboxSet 2 false stOk).fieldEvent
        fld 0x0032 (fld + 512)
    else s1

/-- The lanes that failed on the link at a router's port are recorded, and a physical link that has run out of spares, or still fails, is
disabled: on a field edge the edge map moves its logical link (R422, R427). -/
def State.spare (s : State) (i : Nat) (d : Dir) (failed : List LaneEx) (good : Bool) : State :=
  match s.physLink i d with
  | none => s
  | some n =>
    let t := s.modFab (fun b => { b with lanes := addLanes b.lanes (failed.filter (fun x => x.fld == fieldOf i && x.link == n)) })
    if !good || linkWorn t.fab.lanes (fieldOf i) n then t.disableLink (fieldOf i) n else t

/-- The link at a router's port cannot come back: nothing carries it, or inside a field it failed or is worn out (R190, R427). -/
def State.linkGone (s : State) (i : Nat) (d : Dir) (good : Bool) : Bool :=
  match s.physLink i d with
  | none => true
  | some n => n < 760 && (!good || linkWorn s.fab.lanes (fieldOf i) n)

/-- LINK_RETRAIN_END (R190, R201, R419, R422, R427, R429): the lanes that failed are spared, and the link returns, or is disabled because
nothing is left to carry it or it has retrained STRIKES times within the hour. -/
def execLinkRetrainEnd (l : LinkEnd) (found : LinkFinding) (s : State) : Res :=
  let flds := (linkEnds l).map (fun k => fieldOf (k / 4))
  if !(linkEnds l).any (fun k => (s.link k).state == .training) || flds.any (fun k => (s.field k).slowNext.isSome) then .next s
  else
    let i := Site.idx l.site
    let s0 := s.spare i l.port found.failed found.good
    let strikes := ((linkEnds l).map (fun k => (recent (s.link k).strikes hourUs s.now).length)).foldl max 0
    let off := s0.linkGone i l.port found.good || s.strikeMax ≤ strikes
    let s1 := s0.modEnds l (fun k => { k with state := if off then .off else .up })
    let s2 := if off then s1.bump offLinkOff 1 else s1
    let s3 := if off || s0.fab.lanes != s.fab.lanes || s0.fab.edge != s.fab.edge then s2.mapDirty else s2
    .next (s3.mapChange.each flds State.fieldBack)

/-! ### Changes of the fabric clock -/

/-- A field's fabric clock starts to change (R248, R441): its links retrain, and timetables with entries in the field fail. -/
def State.changeFabric (s : State) (fld : Nat) (slow : Bool) : State :=
  let s1 := ((s.modField fld (fun x => { x with slowNext := some slow })).retrainField fld false).mapChange
  s1.each s1.allCfgs (fun t e => t.breakTable { field := some fld } e.1 e.2)

/-- FABRIC_BIN (R441, R459): with the clock already as asked, it completes at once; with a change in progress, it ends with that change, or
with the one that it puts in its place. (DEDUCED, log 132) -/
def execFabricBin (f : Func) (s : State) : Res :=
  let k := s.argField
  let slow := bitOf s.pwr.arg.toNat 0
  .next (s.mboxCommand f.val 1 (s.argClean && !s.isDark k) (fun t =>
    match (t.field k).slowNext with
    | none => if (t.field k).slow = slow then t.mboxSet 1 false stOk else (t.mboxSet 1 true stOk).changeFabric k slow
    | some v => if v = slow then t.mboxSet 1 true stOk else (t.mboxSet 1 true stOk).changeFabric k slow))

/-- FABRIC_CHANGE_DONE (R441): the links return at the new rate, a second map change. -/
def execFabricChangeDone (fld : FieldIx) (s : State) : Res :=
  let k := fld.val
  match (s.field k).slowNext with
  | none => .next s
  | some v =>
    let s1 := s.each (fieldLinks k) (fun t e => if (t.link e).state = .training then t.modLink e (fun x => { x with state := .up }) else t)
    let s2 := (s1.modField k (fun x => { x with slow := v, slowNext := none })).mapChange
    .next (if s2.pwr.mbox.busy && s2.pwr.mbox.field.toNat / 2 ^ 24 == 1 && s2.argField == k then s2.mboxSet 1 false stOk else s2)

/-! ### Module reset -/

/-- What a module reset leaves of a cluster: the recorded values of its monitors, which are in flash (R418, R474, R477). -/
def Cluster.afterReset (c : Cluster) : Cluster := { pdm0 := { ref := c.pdm0.ref }, pdm1 := { ref := c.pdm1.ref } }

/-- What a module reset leaves of a field: its margin plan and thermal model, which are in flash, whether its region is locked off,
the cap that the LMC applies, and that too few of its sensors worked (R418, R447, R457, R465). -/
def FieldSt.afterReset (x : FieldSt) : FieldSt :=
  { region := if x.region = .locked then .locked else .dark, plan := x.plan, capCeil := x.capCeil, gateCap := x.gateCap, held350 := x.held350,
    spCeil := if x.held350 then 14 else 28, rf := x.rf, worst := x.worst }

/-- A changed map is written to the service map (R419). -/
def State.writeMap (s : State) : State :=
  { s with boot := { s.boot with mapDue := none, map := { s.boot.map with
      sites := s.site, gen := s.boot.map.gen + 1, hours := s.mgmt.hours, edge := s.fab.edge, lanes := s.fab.lanes } } }

/-- A record waits to be signed, or is signed at once (R491, R492). -/
def State.signRecord (s : State) (x : Signing) : State :=
  { s with sec :=
      if s.sec.signing.isNone then { s.sec with signing := some x }
      else if s.sec.waiting.contains x || s.sec.signing == some x then s.sec
      else { s.sec with waiting := s.sec.waiting ++ [x] } }

/-- SERVICE_MAP_WRITE (R419, R491). (DEDUCED, log 135) -/
def execServiceMapWrite (s : State) : Res :=
  match s.boot.mapDue with
  | none => .next s
  | some _ => .next (s.writeMap.signRecord .serviceMap)

/-- The logic side is reset (R26, R513): everything on it goes back to reset; the LMC, the LSE, the supply controller, the flash, the
host's memory and the counts of R460 stay. A pending map is written first. -/
def State.clearLogic (s : State) : State :=
  let s1 := (if s.boot.mapDue.isSome then s.writeMap else s).dropConns [0, 1]
  { s1 with
    ready := false, cl := s1.cl.filterMap (fun e => if e.2.afterReset = {} then none else some (e.1, e.2.afterReset)), site := [], fab := {},
    mem := {}, part := [], media := {}, tow := {}, integ := {}, regs := [], latch := [],
    hst := { mem := s1.hst.mem, port := [(0, { perst := (s1.port 0).perst }), (1, { perst := (s1.port 1).perst })].filter
               (fun e => e.2.perst == false) },
    fld := (List.range 64).map (fun k => (k, (s1.field k).afterReset)),
    ctrs := s1.ctrs.filter (fun e => (List.range 64).any (fun k => e.1 == offRegionTrips k)),
    pwr := { s1.pwr with crustHold := [], refHold := false, mbox := {}, arg := 0 },
    boot := { s1.boot with phase := 0, active := false, fail := false, reverted := false, excluded := false, duration := 0, short := 0,
                           failed := [] },
    sec := { s1.sec with mbox := {}, addr := 0, len := 0 } }

/-- Module reset (R26, R423, R453, R509, R515): the cause is kept, and the power-up sequence resumes after a step. -/
def State.moduleReset (s : State) (cause : Nat) (quad : BitVec 4) (sensor : Nat) (warm : Bool) (step : PowerStep) : State :=
  let kind : BootKind := if warm && s.ready then .warm else .cold
  let s1 := s.clearLogic
  { s1 with
    pwr := { s1.pwr with step := step },
    boot := { s1.boot with nextKind := kind },
    mgmt := { s1.mgmt with cause := cause, causeQuad := quad, causeSensor := sensor, resetTime := s.now,
                           resets := ({ time := s.now, cause := cause, quad := quad, sensor := sensor } :: s1.mgmt.resets).take 256 } }

/-- The standby supply ends (R23, R449, R505): what the standby devices hold outside flash is lost, and a pending map with it. -/
def State.standbyLost (s : State) : State :=
  let s1 := { s with boot := { s.boot with mapDue := none } }.moduleReset 1 0 0 false .off
  { s1 with
    now := 0, ctrs := [],
    fld := s1.fld.map (fun e => (e.1, { e.2 with region := .dark, capCeil := 28, gateCap := false })),
    pwr := { feedA := { dv := s1.pwr.feedA.dv }, feedB := { dv := s1.pwr.feedB.dv } },
    thm := { rewaxCause := s1.thm.rewaxCause, rewaxHours := s1.thm.rewaxHours },
    sec := { s1.sec with conn := [], signing := none, waiting := [], recovery := false,
                         bank := s1.sec.bank.map (fun e => (e.1, { e.2 with running := none })) },
    mgmt := { s1.mgmt with busy := none, resetTime := 0, redfishUp := false, link := false, i3c := none } }

end Sys2Proof.Machine
end

