-- ==== Sys2Proof/Machine/Power.lean ====
section
/-! DEFINITION. Clocks, feeds, capping, quadrant buses, inlets and the isolator link (R24, R440 to R451, R458, R520, R526). -/
namespace Sys2Proof.Machine

/-! ### Compute clocks -/

/-- The frequency that a field's compute clock goes to (R440). -/
def FieldSt.target (x : FieldSt) : Nat := min x.bin (min x.spCeil x.capCeil)

/-- CLOCK_STEP (R440): one step of 25 MHz. A PLL in hold keeps its setting (R442), and a dark field its clock (R454). -/
def execClockStep (fld : FieldIx) (s : State) : Res :=
  let x := s.field fld.val
  if s.isDark fld.val || x.holdC then .next s
  else if x.cclk < x.target then .next (s.modField fld.val (fun x => { x with cclk := x.cclk + 1 }))
  else if x.target < x.cclk then .next (s.modField fld.val (fun x => { x with cclk := x.cclk - 1 }))
  else .next s

/-- FIELD_PLL_SLIP (R460). -/
def offPllSlip (fld : Nat) : Nat := fieldWin fld + 0x34010

/-- The quadrant converter that supplies a field (R22), and the one that supplies a crust block and its two stacks. -/
def converterOf (fld : Nat) : Fin 4 :=
  if fld / 8 < 4 then (if fld % 8 < 4 then 0 else 1) else (if fld % 8 < 4 then 3 else 2)
def blockConverter (k : Nat) : Fin 4 :=
  if 2 ≤ k ∧ k < 6 then 1 else if 6 ≤ k ∧ k < 10 then 2 else if 10 ≤ k ∧ k < 14 then 3 else 0

/-- The place of a crust PLL in the list of those in hold: controllers first, then ports. -/
def crustPll : Pll → Nat
  | .memory k => k.val
  | .port i => 32 + i.val
  | _ => 0

/-- DATA of CLOCK_FAULT (R458): E port p has index p, and H0 and H1 have 16 and 17. (DESIGN CHOICE, log 180) -/
def pllData : Pll → Nat
  | .compute f => f.val
  | .fabric f => f.val + 64
  | .memory k => k.val + 128
  | .port i => i.val + 128
  | .reference => 256

/-- Set or clear the hold bits of a PLL; the reference holds every one (R442). -/
def State.setHold (s : State) (p : Pll) (on : Bool) : State :=
  match p with
  | .compute f => s.modField f.val (fun x => { x with holdC := on })
  | .fabric f => s.modField f.val (fun x => { x with holdF := on })
  | .reference =>
    let s1 := s.each (List.range 64) (fun t k => t.modField k (fun x => { x with holdC := on, holdF := on }))
    { s1 with pwr := { s1.pwr with refHold := on, crustHold := if on then List.range 50 else [] } }
  | q => { s with pwr := { s.pwr with crustHold := (if on then [crustPll q] else []) ++ s.pwr.crustHold.filter (· != crustPll q) } }

/-- A PLL is in hold. -/
def State.held (s : State) : Pll → Bool
  | .compute f => (s.field f.val).holdC
  | .fabric f => (s.field f.val).holdF
  | .reference => s.pwr.refHold
  | q => s.pwr.crustHold.contains (crustPll q)

/-- The PLLs run: module reset has been released. -/
def State.released (s : State) : Bool := s.pwr.step == .released

/-- The field PLLs whose loss of lock is counted: one, or with the reference every field's two. -/
def pllFields : Pll → List Nat
  | .compute f => [f.val]
  | .fabric f => [f.val]
  | .memory _ => []
  | .port _ => []
  | .reference => List.range 64 ++ List.range 64

/-- PLL_LOCK_LOSS (R442, R458). -/
def execPllLockLoss (p : Pll) (s : State) : Res :=
  if !s.released || s.held p then .next s
  else .next (((s.setHold p true).each (pllFields p) (fun t k => t.bump (offPllSlip k) 1)).raiseWide 0x0033 (pllData p))

/-- PLL_RELOCK (R442, R458). -/
def execPllRelock (p : Pll) (s : State) : Res :=
  if !s.released || !s.held p then .next s else .next ((s.setHold p false).raiseWide 0x0033 (pllData p + 512))

/-! ### Feeds and the cap -/

/-- A feed. -/
def State.feed (s : State) (x : Feed) : FeedSt := match x with | .a => s.pwr.feedA | .b => s.pwr.feedB

/-- Change a feed. -/
def State.modFeed (s : State) (x : Feed) (f : FeedSt → FeedSt) : State :=
  match x with
  | .a => { s with pwr := { s.pwr with feedA := f s.pwr.feedA } }
  | .b => { s with pwr := { s.pwr with feedB := f s.pwr.feedB } }

/-- The other feed. -/
def otherFeed : Feed → Feed
  | .a => .b
  | .b => .a

/-- The logic side is on: its quadrant buses have been started (R452). -/
def State.logicOn (s : State) : Bool := !(s.pwr.step == .off || s.pwr.step == .standby || s.pwr.step == .started)

/-- A field's compute is gated, by snowplough or by the cap (R467). -/
def FieldSt.gated (x : FieldSt) : Bool := x.gateSp || x.gateCap

/-- The power cap gates some field (R447, R459). (DEDUCED, log 133) -/
def State.capGates (s : State) : Bool := s.fld.any (fun e => e.2.gateCap)

/-- The cap ceiling of every field (R447). -/
def State.capCeil (s : State) : Nat := (s.field 0).capCeil

/-- Set the cap ceiling of every field (R447). -/
def State.setCap (s : State) (n : Nat) : State := s.each (List.range 64) (fun t k => t.modField k (fun x => { x with capCeil := n }))

/-- The event PWR_CAP (R458). -/
def State.capEvent (s : State) : State :=
  s.raiseWide 0x0031 (s.pwr.capActive.toNat + 2 ^ 8 * s.capCeil + 2 ^ 16 * s.capGates.toNat)

/-- The event PWR_FEED (R458). -/
def State.feedEvent (s : State) : State :=
  s.raiseWide 0x0030 (s.pwr.feedA.present.toNat + 2 * s.pwr.feedB.present.toNat
    + 4 * (!s.pwr.feedA.present && !s.pwr.feedB.present).toNat)

/-- FEED_PRESENT (R444): its voltage has stayed within 260 V to 400 V for 1 s behind a closed switch. (DEDUCED, log 134) -/
def execFeedPresent (x : Feed) (decivolts : Nat) (s : State) : Res :=
  let f := s.feed x
  if f.tripped || f.latched || decivolts < 2600 || 4000 < decivolts then .next s
  else if f.present then .next (s.modFeed x (fun f => { f with dv := decivolts }))
  else .next (s.modFeed x (fun f => { f with dv := decivolts, present := true, presentAt := s.now, interlock := false }))

/-- A feed is judged lost (R444, R447, R449): with the other one present and the logic side on, the cap starts; with the logic side off
and no feed left, the standby supply ends. -/
def State.loseFeed (s : State) (x : Feed) : State :=
  let s1 := s.modFeed x (fun f => { f with present := false })
  if !s.logicOn then
    (if (s1.feed (otherFeed x)).present || s.pwr.step == .off then s1.feedEvent else s1.feedEvent.standbyLost)
  else if (s1.feed (otherFeed x)).present then
    ({ s1 with pwr := { s1.pwr with capActive := true, capEnding := false, capAt := s.now, capLow := none } }.setCap 14).feedEvent.capEvent
  else s1.feedEvent

/-- FEED_LOST (R444, R447, R449): below 250 V or above 410 V. -/
def execFeedLost (x : Feed) (decivolts : Nat) (s : State) : Res :=
  if !(s.feed x).present || (2500 ≤ decivolts && decivolts ≤ 4100) then .next s
  else .next ((s.modFeed x (fun f => { f with dv := decivolts })).loseFeed x)

/-- No field's clock is limited by the cap ceiling (R448). -/
def State.capFree (s : State) : Bool := (List.range 64).all (fun k => let x := s.field k; min x.bin x.spCeil ≤ x.capCeil)

/-- End the power cap once its ceiling limits no field (R448). -/
def State.capFinish (s : State) : State :=
  if s.capFree then ({ s with pwr := { s.pwr with capActive := false, capEnding := false } }.setCap 28).capEvent else s

/-- Move the ceiling by the input power, noting since when it lies above 12,000 W at the lowest step (R447). -/
def State.capMove (s : State) (n watts : Nat) : State :=
  let low := if n = 14 ∧ 12000 < watts then some (s.pwr.capLow.getD s.now) else none
  { s with pwr := { s.pwr with capLow := low } }.setCap
    (if watts < 11500 then min 28 (n + 1) else if 12000 < watts then max 14 (n - 1) else n)

/-- CAP_ADJUST (R447, R448, R450): input power, averaged over 10 ms. -/
def execCapAdjust (watts : Nat) (s : State) : Res :=
  let s0 := { s with pwr := { s.pwr with input := watts } }
  let s1 := { s0 with pwr := { s0.pwr with capAt := s.now } }
  if !s.pwr.capActive || s.pwr.linkLost || s.now < s.pwr.capAt + 10000 then .next s0
  else if !s.pwr.capEnding then .next (s1.capMove s.capCeil watts)
  else if s.capGates then .next s1
  else .next ((s1.setCap (min 28 (s.capCeil + 1))).capFinish)

/-- STATE of FIELD_THERM_STATUS (R480). -/
def FieldSt.thermState (x : FieldSt) : Nat := if x.gated then 2 else if x.spCeil < 28 then 1 else 0

/-- The event SNOWPLOUGH (R478). -/
def State.spEvent (s : State) (fld : Nat) : State :=
  let x := s.field fld
  s.fieldEvent fld 0x0040 (fld + 2 ^ 6 * x.thermState + 2 ^ 8 * x.spCeil)

/-- Change a field and raise SNOWPLOUGH where its gate closes or opens, or it leaves or returns to 700 MHz (R478). -/
def State.modGate (s : State) (fld : Nat) (f : FieldSt → FieldSt) : State :=
  let x := s.field fld
  let s1 := s.modField fld f
  let y := s1.field fld
  if x.gated != y.gated || (x.spCeil == 28) != (y.spCeil == 28) then s1.spEvent fld else s1

/-- CAP_GATE_FIELD (R447): the next field in descending index. -/
def execCapGateField (watts : Nat) (s : State) : Res :=
  let s0 := { s with pwr := { s.pwr with input := watts } }
  let due := match s.pwr.capLow with
    | some t => decide (t + 20000 ≤ s.now)
    | none => false
  if !s.pwr.capActive || s.pwr.capEnding || !due || watts ≤ 12000 || s.now < s.pwr.gateAt + 1000 then .next s0
  else
    match (List.range 64).reverse.find? (fun k => !(s.field k).gateCap && !s.isDark k) with
    | none => .next s0
    | some k => .next ({ s0 with pwr := { s0.pwr with gateAt := s.now } }.modGate k (fun x => { x with gateCap := true }))

/-- CAP_END (R448): both feeds have been present for 10 s. -/
def execCapEnd (s : State) : Res :=
  let a := s.pwr.feedA
  let b := s.pwr.feedB
  if s.pwr.capActive && !s.pwr.capEnding && a.present && b.present && decide (max a.presentAt b.presentAt + 10000000 ≤ s.now) then
    .next { s with pwr := { s.pwr with capEnding := true, capLow := none } }
  else .next s

/-- CAP_RESTORE_FIELD (R448): the next gated field in ascending index. -/
def execCapRestoreField (s : State) : Res :=
  if !s.pwr.capEnding || s.now < s.pwr.gateAt + 1000 then .next s
  else
    match (List.range 64).find? (fun k => (s.field k).gateCap) with
    | none => .next s
    | some k => .next ({ s with pwr := { s.pwr with gateAt := s.now } }.modGate k (fun x => { x with gateCap := false }))

/-! ### Quadrant buses, the isolator link and inlets -/

/-- QUAD_BUS_LOSS (R23, R24, R423, R449, R451, R453): module reset from the converter start; without a feed the standby supply ends
too. -/
def execQuadBusLoss (quads : BitVec 4) (s : State) : Res :=
  if !s.logicOn || quads = 0 then .next s
  else if !s.pwr.feedA.present && !s.pwr.feedB.present then .next s.standbyLost
  else
    let s1 := s.moduleReset 5 quads 0 false .started
    .next { s1 with pwr := { s1.pwr with quadOk := 0, quadCv := [] } }

/-- SUPPLY_LINK_LOSS (R450). -/
def execSupplyLinkLoss (s : State) : Res :=
  if s.pwr.linkLost || s.pwr.step == .off then .next s
  else .next ({ s with pwr := { s.pwr with linkLost := true } }.raiseWide 0x0034 1)

/-- SUPPLY_LINK_RESTORE (R450). -/
def execSupplyLinkRestore (s : State) : Res :=
  if s.pwr.linkLost then .next ({ s with pwr := { s.pwr with linkLost := false } }.raiseWide 0x0034 2) else .next s

/-- An inlet's switch opens (R444, R520, R526): a feed that was present is lost. -/
def State.openInlet (s : State) (x : Feed) : State := if (s.feed x).present then s.loseFeed x else s

/-- INTERLOCK_OPEN (R520). (DEDUCED, log 156) -/
def execInterlockOpen (x : Feed) (s : State) : Res := .next ((s.modFeed x (fun f => { f with interlock := true })).openInlet x)

/-- INLET_TRIP (R526): a second trip within one powered hour latches the inlet open. -/
def execInletTrip (x : Feed) (s : State) : Res :=
  let f := s.feed x
  if !f.present then .next s
  else
    let again := match f.lastTrip with
      | some t => decide (s.now < t + hourUs)
      | none => false
    .next ((s.modFeed x (fun f => { f with tripped := true, lastTrip := some s.now, latched := f.latched || again })).openInlet x)

/-- INLET_RECLOSE (R526): 10 s after a trip. -/
def execInletReclose (x : Feed) (s : State) : Res :=
  let f := s.feed x
  match f.lastTrip with
  | some t => if f.tripped && !f.latched && decide (t + 10000000 ≤ s.now) then .next (s.modFeed x (fun f => { f with tripped := false }))
      else .next s
  | none => .next s

end Sys2Proof.Machine
end

