-- ==== Sys2Proof/Machine/Thermal.lean ====
section
/-! DEFINITION. Sensors, snowplough, coolant, path-delay monitors and rewax (R463 to R479). -/
namespace Sys2Proof.Machine

/-- Degrees C in the units of the sensors. (DESIGN CHOICE, log 136) -/
def deg (n : Int) : Int := 16 * n

/-! ### Sensors -/

/-- A sample of a sensor (R464, R465, R469): its reading, or none where it does not answer; a reading outside 0 to 125 degrees counts
towards failure and is a reading all the same. (DEDUCED, log 137) -/
def Sense.sample (x : Sense) (now : Nat) (v : Option Int) : Sense :=
  match v with
  | some t =>
    let out := t < 0 || deg 125 < t
    { x with temp := t, time := now, was := (x.temp, x.time), hot := deg 100 ≤ t, bad := if out then x.bad + 1 else 0,
             failed := x.failed || (out && 10 ≤ x.bad + 1) }
  | none => { x with bad := x.bad + 1, failed := x.failed || 10 ≤ x.bad + 1, hot := false }

/-- A sensor's state, and a change of it. -/
def State.sense (s : State) : Sensor → Sense
  | .field f i => Tab.get {} (s.field f.val).sensor i.val
  | .crust k i => Tab.get {} s.thm.crust (4 * k.val + i.val)
def State.setSense (s : State) (x : Sensor) (v : Sense) : State :=
  match x with
  | .field f i => s.modField f.val (fun y => { y with sensor := Tab.put {} y.sensor i.val v })
  | .crust k i => { s with thm := { s.thm with crust := Tab.put {} s.thm.crust (4 * k.val + i.val) v } }

/-- The index of a sensor in SENSOR of MGMT_RESET_CAUSE (R515), and DATA of SENSOR_FAIL (R478). -/
def sensorIndex : Sensor → Nat
  | .field f i => 16 * f.val + i.val
  | .crust k i => 0x400 + 4 * k.val + i.val
def sensorData : Sensor → Nat
  | .field f i => f.val + 2 ^ 6 * i.val
  | .crust k i => 4 * k.val + i.val + 2 ^ 10

/-- A sensor has power: those of a dark field have none (R465). -/
def State.sensed (s : State) : Sensor → Bool
  | .field f _ => !s.isDark f.val && (s.field f.val).region != .dark && (s.field f.val).region != .locked
  | .crust _ _ => true

/-- A crust sensor at 95 degrees or more (R469, R478). -/
def State.crustCheck (s : State) (x : Sensor) (v : Sense) : State :=
  match x with
  | .field _ _ => s
  | .crust k i =>
    let n := 4 * k.val + i.val
    let hot := !v.failed && deg 95 ≤ v.temp
    if hot && !s.thm.crustHot.contains n then
      { s with thm := { s.thm with crustHot := n :: s.thm.crustHot } }.raiseWide 0x0042 (k.val + 2 ^ 4 * i.val)
    else if !hot && s.thm.crustHot.contains n then
      { s with thm := { s.thm with crustHot := s.thm.crustHot.filter (· != n) } }.raiseWide 0x0042 (k.val + 2 ^ 4 * i.val + 2 ^ 6)
    else s

/-- One reading (R464, R465). -/
def State.sampleOne (s : State) (x : Sensor) (v : Option Int) : State :=
  if !s.sensed x then s
  else
    let a := s.sense x
    let b := a.sample s.now v
    let s1 := s.setSense x b
    (if b.failed && !a.failed then s1.raiseWide 0x0043 (sensorData x) else s1).crustCheck x b

/-- The working sensors of a field, and H (R465, R466). -/
def FieldSt.working (x : FieldSt) : List Sense := ((List.range 16).map (fun i => Tab.get {} x.sensor i)).filter (fun v => !v.failed)
def FieldSt.hottest (x : FieldSt) : Int := (x.working.map Sense.temp).foldl max 0

/-- What the readings of a field mean for its ceiling and its gate (R465 to R467). -/
def FieldSt.judge (x : FieldSt) (now : Nat) : FieldSt :=
  let h := x.hottest
  let few := x.working.length < 12
  let x1 := { x with held350 := x.held350 || few, spCeil := if x.held350 || few then 14 else x.spCeil,
                     coolSince := if h < deg 79 then some (x.coolSince.getD now) else none,
                     openSince := if h < deg 88 then some (x.openSince.getD now) else none }
  if deg 92 ≤ h then { x1 with gateSp := true }
  else
    match x1.openSince with
    | some t => if x1.gateSp && decide (t + 1000 ≤ now) then { x1 with gateSp := false, spCeil := 14 } else x1
    | none => x1

/-- FIELD_SP_STEPS and FIELD_SP_GATES (R480). -/
def offSpSteps (fld : Nat) : Nat := fieldWin fld + 0x35008
def offSpGates (fld : Nat) : Nat := fieldWin fld + 0x35010

/-- Judge a field after its sensors were sampled. -/
def State.judgeField (s : State) (fld : Nat) : State :=
  if s.isDark fld then s
  else
    let closes := !(s.field fld).gateSp && ((s.field fld).judge s.now).gateSp
    let s1 := s.modGate fld (fun x => x.judge s.now)
    if closes then s1.bump (offSpGates fld) 1 else s1

/-- The first working sensor of a list that has read 100 degrees or more twice running (R469). -/
def State.trips (s : State) (before : State) (l : List Sensor) : Option Sensor :=
  l.find? (fun x => s.sensed x && (before.sense x).hot && (s.sense x).hot && !(s.sense x).failed)

/-- The fields of a list of sensors. -/
def sensorFields (l : List Sensor) : List Nat :=
  (l.filterMap (fun x => match x with | .field f _ => some f.val | .crust _ _ => none)).eraseDups

/-- The LogService's entry for the last module reset records the readings of a sensor that caused it (R515). -/
def Mgmt.record (m : Mgmt) (x : Sense) : Mgmt :=
  { m with resets := match m.resets with
      | e :: l => { e with readings := [x.was, (x.temp, x.time)] } :: l
      | [] => [] }

/-- SENSOR_SAMPLE (R464 to R469, R515): readings in 1/16 degree C. -/
def execSensorSample (readings : List (Sensor × Option Int)) (s : State) : Res :=
  if !(s.pwr.step == .regions || s.pwr.step == .released || s.pwr.step == .crust) then .next s
  else
    let s1 := s.each readings (fun t e => t.sampleOne e.1 e.2)
    match s1.trips s (readings.map Prod.fst) with
    | some x =>
      let s2 := s1.moduleReset 6 0 (sensorIndex x) false .crust
      .next { s2 with thm := { s2.thm with waitCool := true }, mgmt := s2.mgmt.record (s1.sense x) }
    | none => .next (s1.each (sensorFields (readings.map Prod.fst)) State.judgeField)

/-- SNOWPLOUGH_STEP (R466): at 82 degrees or more down every 1 ms, below 79 for 10 ms up every 10 ms. -/
def execSnowploughStep (fld : FieldIx) (s : State) : Res :=
  let k := fld.val
  let x := s.field k
  if !s.released || s.isDark k then .next s
  else if deg 82 ≤ x.hottest then
    if 14 < x.spCeil ∧ x.lowered + 1000 ≤ s.now then
      .next ((s.modGate k (fun x => { x with spCeil := x.spCeil - 1, lowered := s.now })).bump (offSpSteps k) 1)
    else .next s
  else
    match x.coolSince with
    | some t =>
      if x.spCeil < 28 ∧ !x.held350 ∧ !x.gateSp ∧ t + 10000 ≤ s.now ∧ x.raised + 10000 ≤ s.now then
        .next (s.modGate k (fun x => { x with spCeil := x.spCeil + 1, raised := s.now }))
      else .next s
    | none => .next s

/-- COOLANT_SAMPLE (R463): temperatures in 1/16 degree C, flow in 0.1 L/min. -/
def execCoolantSample (inlet outlet : Int) (flow : Nat) (s : State) : Res :=
  if s.pwr.step == .off || s.pwr.step == .standby then .next s
  else
    let t := s.thm
    let out := deg 35 < inlet || flow < 400
    let t1 := { t with inlet := inlet, outlet := outlet, flow := flow,
                       outSince := if out then some (t.outSince.getD s.now) else none,
                       inSince := if out then none else some (t.inSince.getD s.now) }
    let past (a : Option Nat) : Bool := match a with | some x => decide (x + 5000000 ≤ s.now) | none => false
    if past t1.outSince && !t.alarm then
      .next ({ s with thm := { t1 with alarm := true } }.raiseWide 0x0041 ((decide (deg 35 < inlet)).toNat + 2 * (decide (flow < 400)).toNat))
    else if past t1.inSince && t.alarm then .next ({ s with thm := { t1 with alarm := false } }.raiseWide 0x0041 4)
    else .next { s with thm := t1 }

/-! ### Monitors and the thermal model -/

/-- A monitor's new sample (R472, R514). -/
def Pdm.sampled (p : Pdm) (d : W16) : Pdm := { p with sample := p.sample + 1, delay := d }

/-- A monitor has drifted since the last rewax (R474). -/
def Pdm.drifted (p : Pdm) : Bool := p.ref.toNat + 32 ≤ p.delay.toNat

/-- PDM_SAMPLE (R471, R472, R474): `monitor` is true for monitor 1. -/
def execPdmSample (site : Site) (monitor : Bool) (raw : W16) (s : State) : Res :=
  let i := Site.idx site
  let x := s.field (fieldOf i)
  if !s.released || s.isDark (fieldOf i) || s.siteState i == .retired then .next s
  else
    let d := Config.pdmConvert i monitor raw x.volt ((List.range 16).map (fun k => (Tab.get {} x.sensor k : Sense).temp))
    let s1 := s.modClu i (fun c => if monitor then { c with pdm1 := c.pdm1.sampled d } else { c with pdm0 := c.pdm0.sampled d })
    let p := if monitor then (s1.clu i).pdm1 else (s1.clu i).pdm0
    .next { s1 with thm := { s1.thm with drift := s1.thm.drift || p.drifted } }

/-- THERMAL_MODEL_UPDATE (R473): an hour at 0.15 kW or more. -/
def execThermalModelUpdate (fld : FieldIx) (watts : Nat) (s : State) : Res :=
  if !s.released || s.isDark fld.val || watts < 150 then .next s
  else .next (s.modField fld.val (fun x => { x with rf := Config.thermalLearn fld.val x.rf watts }))

/-! ### Rewax -/

/-- PWR_REWAX_CTL (R479): GUARD, RETIRE_BIN and INTERVAL with their limits. -/
def offRewaxCtl : Nat := pwrBase + 0x70
def State.guard (s : State) : Nat := min 20 (max 3 ((s.reg offRewaxCtl).toNat / 2 ^ 24))
def State.retireBin (s : State) : Nat := min 28 (max 14 (bits (s.reg offRewaxCtl).toNat 23 16))
def State.rewaxInterval (s : State) : Nat := min 168 (max 24 ((s.reg offRewaxCtl).toNat % 65536))

/-- PWR_REWAX (R479). -/
def offRewax : Nat := pwrBase + 0x78

/-- 25 times a baseline frequency in kHz at `v` millivolts, interpolated linearly between the points 25 mV apart (R475). -/
def lerp25 (f : Nat → Nat) (v : Nat) : Int :=
  let k := (v - 700) / 25
  25 * (f k : Int) + ((v - 700) % 25 : Nat) * ((f (k + 1) : Int) - f k)

/-- The temperature of a field's plan, in 0.01 degrees C (R475). -/
def FieldSt.planTemp (x : FieldSt) : Nat := min 8200 (3500 + 28 * x.rf)

/-- fbase(f, v, t) reaches `mhz * (1 + g) * a / 1024` (R475), for guard g in per cent and a in units of 1/1,024. -/
def meetsFreq (f : Nat → Nat) (v mhz g a : Nat) : Bool := ((mhz * 1000 * (100 + g) * a * 25 : Nat) : Int) ≤ lerp25 f v * 102400

/-- The sites of a field in ascending site index. -/
def fieldSites (fld : Nat) : List Nat := (List.range 400).map (fun n => siteIdx (20 * (fld % 8) + n % 20) (20 * (fld / 8) + n / 20))

/-- The larger delay of a site's monitors (R475). -/
def Cluster.delay (c : Cluster) : Nat := max c.pdm0.delay.toNat c.pdm1.delay.toNat

/-- A site of a field is too slow to keep (R475). -/
def State.tooSlow (s : State) (fld i : Nat) : Bool :=
  let x := s.field fld
  s.siteState i != .retired
    && !meetsFreq (fun k => Config.fbase fld k x.planTemp) 850 (25 * s.retireBin) s.guard (s.clu i).delay

/-- Retire a site (R400, R416, R476): at once, or pending while it belongs to a partition. -/
def State.retireSite (s : State) (i : Nat) : State :=
  if s.siteState i = .enabled ∧ (s.clu i).owner.isSome then
    { s with thm := { s.thm with pendingSites := if s.thm.pendingSites.contains i then s.thm.pendingSites else s.thm.pendingSites ++ [i] } }
  else
    { (s.setSite i .retired).dropCaptures (· == i) with
      thm := { s.thm with pendingSites := s.thm.pendingSites.filter (· != i) } }

/-! ### Applying a plan -/

/-- The field stands at its plan. -/
def FieldSt.atPlan (x : FieldSt) : Bool :=
  match x.plan with
  | some p => x.volt == p.volt && x.bin == p.bin && (x.slow == p.slow || x.slowNext == some p.slow)
  | none => true

/-- The next change of a field towards its plan (R477), the fabric clock apart: the voltage rises before the bin changes and falls after
the clock has come down. -/
def FieldSt.towards (x : FieldSt) : FieldSt :=
  match x.plan with
  | none => x
  | some p =>
    if x.volt < p.volt then { x with volt := min p.volt (x.volt + 5) }
    else if x.bin ≠ p.bin then { x with bin := p.bin }
    else if p.volt < x.volt ∧ x.cclk ≤ p.bin then { x with volt := max p.volt (x.volt - 5) }
    else x

/-- One step of a field towards its plan; last, the fabric clock (R441, R477). -/
def State.planStep (s : State) (fld : Nat) : State :=
  let x := s.field fld
  let y := x.towards
  match x.plan with
  | none => s
  | some p =>
    if y ≠ x then s.modField fld (fun _ => y)
    else if x.volt = p.volt ∧ x.slow ≠ p.slow ∧ x.slowNext = none then s.changeFabric fld p.slow
    else s

/-- The plan of a field has been applied. -/
def State.endPlan (s : State) (fld : Nat) : State :=
  if (s.field fld).atPlan then s.modField fld (fun x => { x with applying := false }) else s

/-- A field begins to apply its plan, unless it is dark, applies one already or stands at it (R477): if the voltage rises it rises first. -/
def State.beginPlan (s : State) (fld : Nat) : State :=
  if s.isDark fld || (s.field fld).applying || (s.field fld).atPlan then s
  else
    let s1 := s.modField fld (fun x => { x with applying := true })
    (match (s1.field fld).plan with
      | some p => if (s1.field fld).volt < p.volt then s1 else s1.planStep fld
      | none => s1).endPlan fld

/-- The stream contexts whose bound programs have clusters in a field (R29, R477). -/
def State.framed (s : State) (fld : Nat) : List Nat :=
  s.media.ctx.filterMap (fun e => match e.2.bound with
    | some b => if (s.cfg b.func b.cfgid).clusters.any (fun i => fieldOf i == fld) then some e.1 else none
    | none => none)

/-- A frame-slot start of a context has come since an uptime (R354, R477). -/
def State.slotSince (s : State) (c t : Nat) : Bool :=
  let x := s.ctx c
  x.slotAt (x.firstSlot ((s.mport x.tport).base + 2000 * t)) ≤ s.ptpTime x.tport

/-! ### Rewax -/

/-- The plan of a field (R475), and whether it is unsafe. -/
def planOf (base fab : Nat → Nat) (g a : Nat) : Plan × Bool :=
  let vs := (List.range 31).map (fun n => 700 + 5 * n)
  let r : Nat × Nat := match vs.find? (fun v => meetsFreq base v 700 g a) with
    | some v => (v, 28)
    | none => (850, match ((List.range 29).reverse.find? (fun n => meetsFreq base 850 (25 * n) g a)) with
        | some n => max 14 n
        | none => 14)
  let fast := meetsFreq fab r.1 1200 g a
  ({ volt := r.1, bin := r.2, slow := !fast }, !fast && !meetsFreq fab r.1 900 g a)

/-- Rewax of one field that is not dark (R475): the state, and whether the plan is unsafe. -/
def State.rewaxField (s : State) (fld : Nat) : State × Bool :=
  let x := s.field fld
  let s1 := s.each ((fieldSites fld).filter (s.tooSlow fld)) State.retireSite
  let a := ((fieldSites fld).filter (fun i => s1.siteState i == .enabled)).foldl (fun m i => max m (s1.clu i).delay) 0
  let af := if a = 0 then 1024 else a
  let r := planOf (fun k => Config.fbase fld k x.planTemp) (fun k => Config.ffab fld k x.planTemp) s.guard af
  let s2 := s1.modField fld (fun x => { x with plan := some r.1, planAt := s.now, worst := af })
  (s2.each ((fieldSites fld).filter (fun i => s2.siteState i != .retired)) (fun t i => t.modClu i (fun c =>
    { c with pdm0 := { c.pdm0 with ref := c.pdm0.delay }, pdm1 := { c.pdm1 with ref := c.pdm1.delay } })), r.2)

/-- Sites in the retired state. -/
def State.retiredCount (s : State) : Nat := (s.site.filter (fun e => e.2 == .retired)).length

/-- One field's turn in a rewax, with whether a plan so far is unsafe. -/
def rewaxStep (a : State × Bool) (fld : Nat) : State × Bool := ((a.1.rewaxField fld).1, a.2 || (a.1.rewaxField fld).2)

/-- A rewax (R418, R473 to R478, R491, R492): every field that is not dark is planned, and one without a
frame-bound program applies its plan at once. (DEDUCED, log 138) -/
def State.rewaxAll (s : State) (cause : Nat) : State :=
  let flds := (List.range 64).filter (fun k => !s.isDark k)
  let r := flds.foldl rewaxStep (s, false)
  let s1 := r.1
  let changed := (flds.filter (fun k => (s1.field k).plan != (s.field k).plan)).length
  let retired := s1.retiredCount - s.retiredCount
  let s2 := if retired = 0 then s1 else s1.assignCheckers.mapDirty
  let s3 := { s2 with thm := { s2.thm with drift := false, rewaxCause := cause, rewaxHours := s.mgmt.hours.toNat } }
  let s4 := ((s3.signRecord .marginRecord).bump offRewax 1).raiseWide 0x0044
    (cause + 4 * r.2.toNat + 2 ^ 8 * changed + 2 ^ 16 * retired + 2 ^ 32 * s3.thm.pendingSites.length)
  if s.ready then s4.each (flds.filter (fun k => (s4.framed k).isEmpty)) State.beginPlan else s4

/-- REWAX (R474): by schedule or drift. -/
def execRewax (s : State) : Res :=
  if !s.ready then .next s
  else if s.thm.drift then .next (s.rewaxAll 1)
  else if s.thm.rewaxHours + s.rewaxInterval ≤ s.mgmt.hours.toNat then .next (s.rewaxAll 0)
  else .next s

/-- REWAX_NOW (R474, R479): PWR_MBOX_ARG must be 0. -/
def execRewaxNow (f : Func) (s : State) : Res :=
  .next (s.mboxCommand f.val 3 (s.pwr.arg == 0) (fun t => (t.rewaxAll 2).mboxSet 3 false stOk))

/-- PLAN_APPLY (R29, R477): a field that is not dark begins to apply its plan at the first slot start after its rewax of a bound program
with clusters there, or at once where there is none. (DEDUCED, log 139) -/
def execPlanApply (fld : FieldIx) (s : State) : Res :=
  let k := fld.val
  let l := s.framed k
  if s.released && (l.isEmpty || l.any (fun c => s.slotSince c (s.field k).planAt)) then .next (s.beginPlan k) else .next s

/-- VOLTAGE_STEP (R477): 5 mV, and what follows the voltage. -/
def execVoltageStep (fld : FieldIx) (s : State) : Res :=
  let k := fld.val
  if !s.released || s.isDark k || !(s.field k).applying then .next s else .next ((s.planStep k).endPlan k)

end Sys2Proof.Machine
end

