-- ==== Sys2Proof/Machine/Security.lean ====
section
/-! DEFINITION. Firmware images, anti-rollback, staging, the recovery endpoint, measurements, SPDM and the attestation report (R481 to
R500). -/
namespace Sys2Proof.Machine

/-! ### Images and their checks -/

/-- `n` little-endian bytes of an image. -/
def imgField (img : List W8) (off n : Nat) : Nat := leNat ((img.drop off).take n)

/-- TYPE, KEYSLOT, SVN, RELEASE and BODYLEN of an image (R482). -/
def imgType (img : List W8) : Nat := imgField img 4 1
def imgSlot (img : List W8) : Nat := imgField img 5 1
def imgSvn (img : List W8) : W32 := BitVec.ofNat 32 (imgField img 8 4)
def imgBodyLen (img : List W8) : Nat := imgField img 16 4

/-- The signed area, the keys and the body of an image (R482, R483). -/
def imgSigned (img : List W8) : List W8 := img.take 512
def imgKeys (img : List W8) : List W8 := (img.drop 80).take 432
def imgBody (img : List W8) : List W8 := img.drop 17120

/-- The largest body of a type (R481); 0 for a type that is not listed. -/
def bodyLimit (ty : Nat) : Nat := if ty = 1 then 16777216 else if ty = 2 then 67108864 else if ty = 3 then 4194304 else 0

/-- Every byte of a part of an image is zero. -/
def zeroAt (img : List W8) (off n : Nat) : Bool := ((img.drop off).take n).all (· == 0)

/-- The anti-rollback counter of a type (R485). -/
def State.svnCounter (s : State) (ty : Nat) : W32 := (Tab.get none s.sec.counter ty).getD (Config.shippedSvn ty)

/-- The cause of an image's rejection, 0 if every check passes (R483). While the replay-protected partition has not authenticated, no
image passes the check of its counter (R485). (DEDUCED, log 141) -/
def State.imageCause (s : State) (img : List W8) : Nat :=
  let ty := imgType img
  if imgField img 0 4 ≠ 0x57465753 ∨ bodyLimit ty = 0 ∨ bodyLimit ty < imgBodyLen img ∨ img.length ≠ 17120 + imgBodyLen img
      ∨ !(zeroAt img 6 2 && zeroAt img 14 2 && zeroAt img 20 12) then 1
  else if 3 < imgSlot img ∨ s.sec.revoked.getLsbD (imgSlot img) ∨ Config.sha384 (imgKeys img) ≠ Config.slotDigest (imgSlot img) then 2
  else if !s.sec.rpfOk ∨ imgSvn img < s.svnCounter ty then 3
  else if BitVec.ofNat 384 (imgField img 32 48) ≠ Config.sha384 (imgBody img) then 4
  else if !Config.rsaVerify ((img.drop 128).take 384) (imgSigned img) ((img.drop 512).take 384) then 5
  else if !Config.slhVerify ((img.drop 80).take 48) (imgSigned img) ((img.drop 896).take 16224) then 6
  else 0

/-- The banks of a type. -/
def State.banks (s : State) (ty : Nat) : Banks := Tab.get {} s.sec.bank ty

/-- Change the banks of a type. -/
def State.modBanks (s : State) (ty : Nat) (f : Banks → Banks) : State :=
  { s with sec := { s.sec with bank := Tab.put {} s.sec.bank ty (f (s.banks ty)) } }

/-- The image in a bank (false: A), which at shipment holds the shipped image (R533). -/
def State.bankImage (s : State) (ty : Nat) (b : Bool) : List W8 :=
  if b then (s.banks ty).b else (s.banks ty).a.getD (Config.shippedImage ty)

/-- The event SEC_IMAGE (R500). -/
def State.imageEvent (s : State) (cause ty src : Nat) (svn : W32) : State :=
  s.raiseWide 0x0050 (cause + 16 * (ty % 16) + 256 * src + 65536 * svn.toNat)

/-- An image is rejected (R499, R500): by STAGE (0), at boot (1) or in recovery (2). -/
def State.rejectImage (s : State) (src cause ty : Nat) (img : List W8) : State :=
  { s with sec := { s.sec with reject := { valid := true, source := src, typ := ty % 16, cause := cause } } }.imageEvent cause ty src (imgSvn img)

/-! ### The choice of banks -/

/-- The first half of the choice (R488): a pending bank loses its mark, and runs on trial if its image passes. -/
def State.tryPending (s : State) (ty : Nat) : State :=
  let s0 := s.modBanks ty (fun k => { k with pending := none, trial := none, running := none })
  match (s.banks ty).pending with
  | none => s0
  | some b =>
    let c := s0.imageCause (s0.bankImage ty b)
    if c = 0 then s0.modBanks ty (fun k => { k with trial := some b, running := some b }) else s0.rejectImage 1 c ty (s0.bankImage ty b)

/-- The second half: if no bank runs, the active bank runs if its image passes (R488). -/
def State.tryActive (s : State) (ty : Nat) : State :=
  if (s.banks ty).running.isSome then s
  else
    let b := (s.banks ty).active
    let c := s.imageCause (s.bankImage ty b)
    if c = 0 then s.modBanks ty (fun k => { k with running := some b }) else s.rejectImage 1 c ty (s.bankImage ty b)

/-- The choice of a type's bank (R488). -/
def State.chooseBank (s : State) (ty : Nat) : State := (s.tryPending ty).tryActive ty

/-- A bank of the type runs. -/
def State.runs (s : State) (ty : Nat) : Bool := (s.banks ty).running.isSome

/-! ### The replay-protected partition -/

/-- The bytes that the LSE's digest covers: the counters and the write count (R485). -/
def rpfBytes (c : Tab (Option W32)) (writes : W64) : List W8 :=
  [1, 2, 3].flatMap (fun t => leBytes 4 ((Tab.get none c t).getD (Config.shippedSvn t)).toNat) ++ leBytes 8 writes.toNat

/-- The digest in the LSE's own storage (R485). -/
def Sec.ownDigest (x : Sec) : BitVec 384 := x.digest.getD (Config.sha384 (rpfBytes [] 0))

/-- A copy authenticates, and its write count and digest equal the LSE's own (R485). -/
def Sec.good (x : Sec) (c : Rpf) : Bool :=
  c.authentic && c.writes == x.writes && Config.sha384 (rpfBytes c.counter c.writes) == x.ownDigest

/-- At each start, a good copy gives the counters; without one, RPF_OK reads 0 (R485). -/
def Sec.readRpf (x : Sec) : Sec :=
  match [x.copy1, x.copy2].find? x.good with
  | some c => { x with rpfOk := true, counter := c.counter }
  | none => { x with rpfOk := false }

/-- Write both copies with counters and a write count (R485). -/
def Sec.writeRpf (x : Sec) (c : Tab (Option W32)) (writes : W64) : Sec :=
  { x with counter := c, writes := writes, digest := some (Config.sha384 (rpfBytes c writes)),
           copy1 := { counter := c, writes := writes }, copy2 := { counter := c, writes := writes } }

/-- The LSE reads the partition, and chooses the LMC's bank if it authenticates (R485, R488). -/
def State.chooseLmc (s : State) : State :=
  let s1 := { s with sec := s.sec.readRpf }
  if s1.sec.rpfOk then s1.chooseBank 1 else s1.modBanks 1 (fun k => { k with running := none })

/-- The LMC starts: the management port and the sideband serve requests (R345, R452). -/
def State.lmcStarts (s : State) : State :=
  { s with pwr := { s.pwr with step := .started, wantOn := s.mgmt.autoOn }, sec := { s.sec with recovery := false },
           mgmt := { s.mgmt with redfishUp := true, busy := none } }

/-- The start of the standby devices (R452, R485, R488, R489): the LMC starts, or the LSE serves its recovery endpoint and the engine
stays in standby. -/
def State.startLmc (s : State) : State :=
  let s1 := s.chooseLmc
  if s1.runs 1 then s1.lmcStarts else { s1 with sec := { s1.sec with recovery := true } }

/-! ### What reaching ready changes -/

/-- A trial bank that reached ready becomes active (R488, R500). -/
def State.activate (s : State) (ty : Nat) : State :=
  match (s.banks ty).trial with
  | none => s
  | some b => (s.modBanks ty (fun k => { k with active := b, trial := none })).imageEvent 0 ty 1 (imgSvn (s.bankImage ty b))

/-- The SVN of the image of a type that runs. -/
def State.runningSvn (s : State) (ty : Nat) : Option W32 := (s.banks ty).running.map (fun b => imgSvn (s.bankImage ty b))

/-- The counters rise to the SVNs of the images that run (R486). (DEDUCED, log 143) -/
def State.raiseCounters (s : State) : State :=
  let up := [1, 2, 3].filter (fun t => match s.runningSvn t with | some v => decide (s.svnCounter t < v) | none => false)
  if up.isEmpty then s
  else
    let c := up.foldl (fun c t => Tab.put none c t (s.runningSvn t)) s.sec.counter
    { s with sec := s.sec.writeRpf c (s.sec.writes + 1) }

/-- A revocation record in the body of the LMC image that runs takes effect (R484): not for the slot that signed the image, nor for
the last slot that is not revoked. -/
def State.revokeSlot (s : State) : State :=
  match (s.banks 1).running with
  | none => s
  | some b =>
    let img := s.bankImage 1 b
    match Config.revocation (imgBody img) with
    | none => s
    | some n =>
      if 3 < n ∨ n = imgSlot img ∨ ((List.range 4).all (fun k => k == n || s.sec.revoked.getLsbD k)) then s
      else { s with sec := { s.sec with revoked := s.sec.revoked ||| BitVec.ofNat 4 (2 ^ n) } }

/-! ### The mailbox and the recovery endpoint -/

/-- The SEC mailbox holds a command's result (R499). -/
def State.secDone (s : State) (op ty : Nat) (st : W16) : State :=
  { s with sec := { s.sec with mbox := { field := BitVec.ofNat 32 (2 ^ 24 * op + 2 ^ 20 * ty), busy := false, status := st } } }

/-- TYPE as SEC_MBOX_CMD holds it (R4, R499). -/
def State.heldType (s : State) : Nat := bits s.sec.mbox.field.toNat 23 20

/-- IMAGE_REJECTED (R499). -/
def stRejected : W16 := 0x8010

/-- STAGE (R487, R499): a range outside the pages of the function, or with an uncorrectable line, is ILLEGAL_DESCRIPTOR.
(DEDUCED, log 142; DEDUCED, log 155) -/
def execStage (f : Func) (s : State) : Res :=
  if !s.reachesPF f.val || s.sec.mbox.busy then .next s
  else
    let a := s.sec.addr.toNat
    let n := s.sec.len.toNat
    let h := s.heldType
    if !s.owns f.val a n then .next (s.secDone 1 h stIllegal)
    else
      let s0 := s.demand none a n false none
      let bad := s.badRead none a n
      if !bad.isEmpty then .next ((s0.memUEs 2 bad).secDone 1 h stIllegal)
      else
        let img := s.devRead none a n
        let ty := imgType img
        let c := s.imageCause img
        if c ≠ 0 then .next ((s0.rejectImage 0 c ty img).secDone 1 h stRejected)
        else
          .next ((s0.modBanks ty (fun k =>
            if k.active then { k with a := some img, pending := some false } else { k with b := img, pending := some true })).secDone 1 h stOk)

/-- CANCEL (R487, R499). -/
def execCancel (f : Func) (ty : Fin 16) (s : State) : Res :=
  if !s.reachesPF f.val || s.sec.mbox.busy then .next s
  else if bodyLimit ty.val = 0 then .next (s.secDone 2 ty.val stIllegal)
  else .next ((s.modBanks ty.val (fun k => { k with pending := none })).secDone 2 ty.val stOk)

/-- The recovery endpoint is served on the I3C sideband (R489). -/
def State.inRecovery (s : State) : Bool := s.sec.recovery && s.mgmt.i3c.isSome

/-- RESTORE_RPF (R489): the three counters and the write count, whose digest must equal the LSE's own. -/
def execRestoreRpf (counters : List W32) (count : W64) (s : State) : Res :=
  let c : Tab (Option W32) := (counters.zipIdx 1).map (fun e => (e.2, some e.1))
  if !s.inRecovery || s.sec.rpfOk || counters.length ≠ 3 then .next s
  else if Config.sha384 (rpfBytes c count) ≠ s.sec.ownDigest then .next s
  else .next { s with sec := { s.sec.writeRpf c count with rpfOk := true, recovery := false } }

/-- RECOVERY_IMAGE (R489): an LMC image that passes is written to bank A, and the start is made again. (DEDUCED, log 144) -/
def execRecoveryImage (image : List W8) (s : State) : Res :=
  if !s.inRecovery then .next s
  else
    let c := s.imageCause image
    let cause := if c = 0 ∧ imgType image ≠ 1 then 1 else c
    if cause ≠ 0 then .next (s.rejectImage 2 cause (imgType image) image)
    else
      let s1 := s.modBanks 1 (fun k => { k with a := some image, active := false, pending := if k.pending = some false then none else k.pending })
      .next { s1 with sec := { s1.sec with recovery := false } }

/-! ### Measurements -/

/-- SEC_STATE (R499). -/
def State.secState (s : State) : Nat := 2 ^ 31 + 2 ^ 29 + 2 ^ 28 * s.sec.rpfOk.toNat + 2 ^ 24 * s.sec.revoked.toNat

/-- The code of a site state in a map (R421). -/
def SiteState.code : SiteState → Nat
  | .enabled => 0
  | .spare => 1
  | .quarantined => 2
  | .retired => 3

/-- SITES of a field record (R421). -/
def ServiceMap.siteBytes (m : ServiceMap) (fld : Nat) : List W8 :=
  let c (k : Nat) : Nat := (Tab.get .spare m.sites ((fieldSites fld).getD k 0)).code
  (List.range 100).map (fun i => BitVec.ofNat 8 (c (4 * i) + 4 * c (4 * i + 1) + 16 * c (4 * i + 2) + 64 * c (4 * i + 3)))

/-- The bytes of the service map before its signatures (R421). -/
def ServiceMap.bytes (m : ServiceMap) : List W8 :=
  leBytes 2 1 ++ leBytes 1 1 ++ leBytes 1 m.reserve ++ leBytes 4 Config.serial.toNat ++ leBytes 4 m.gen.toNat ++ leBytes 4 m.hours.toNat
    ++ leBytes 4 m.lanes.length ++ leBytes 4 m.excluded.length ++ List.replicate 40 0
    ++ (List.range 64).flatMap (fun k => m.siteBytes k ++ edgeBytes m.edge k ++ List.replicate 4 0)
    ++ m.lanes.flatMap (fun x => leBytes 4 (laneWord x)) ++ m.excluded.flatMap (fun e => leBytes 8 (2 ^ 59 * e.1 + e.2))

/-- The measurement of an image: of its signed area, or a free value before an image of the type has been loaded (R493). -/
def State.imageDigest (s : State) (ty : Nat) : BitVec 384 :=
  match (s.banks ty).running with
  | some b => Config.sha384 (imgSigned (s.bankImage ty b))
  | none => (Config.freeValue (s.free + ty)).zeroExtend 384

/-- The measurement with an index (R493). -/
def State.measure (s : State) (i : Nat) : BitVec 384 :=
  if i = 1 then Config.romDigest false
  else if 2 ≤ i ∧ i ≤ 4 then s.imageDigest (i - 1)
  else if i = 5 then Config.romDigest true
  else if i = 6 then Config.sha384 (leBytes 4 s.secState ++ [1, 2, 3].flatMap (fun t => leBytes 4 (s.svnCounter t).toNat))
  else if i = 7 then Config.factoryMapDigest
  else Config.sha384 s.boot.map.bytes

/-- The value type of a measurement (R493). (PRESUMED, log 145) -/
def measureType (i : Nat) : Nat := if i = 1 ∨ i = 5 then 0 else if i ≤ 4 then 1 else if i = 6 then 2 else 3

/-- A measurement block. -/
def State.block (s : State) (i : Nat) : Nat × Nat × BitVec 384 := (i, measureType i, s.measure i)

/-- The measurement blocks that an operation asks for. -/
def State.blocks (s : State) (op : W8) : List (Nat × Nat × BitVec 384) :=
  if op = 0xFF then (fromTo 1 8).map s.block else if op = 0 then [] else [s.block op.toNat]

/-- SVN of a measured item in a report (R496). -/
def State.measureSvn (s : State) (i : Nat) : Nat :=
  if 2 ≤ i ∧ i ≤ 4 then (match s.runningSvn (i - 1) with | some v => v.toNat | none => 0) else 0

/-- The signed part of the attestation report (R496). -/
def State.reportBytes (s : State) (nonce : List W8) : List W8 :=
  leBytes 2 1 ++ leBytes 1 8 ++ leBytes 1 0 ++ leBytes 4 Config.serial.toNat ++ leBytes 8 s.now ++ nonce
    ++ leBytes 4 s.boot.map.gen.toNat ++ List.replicate 12 0
    ++ (fromTo 1 8).flatMap (fun i => leBytes 1 i ++ leBytes 1 (measureType i) ++ leBytes 2 0 ++ leBytes 4 (s.measureSvn i)
      ++ leBytes 48 (s.measure i).toNat)

/-! ### Signing -/

/-- The answer to a signed request once the LSE has signed it (R493, R494, R496). -/
def State.signedAnswer (s : State) : SignReq → SpdmAnswer
  | .challenge n => .challengeAuth 0 (Config.sha384 Config.rsaChain) (Config.spdmSign n [Config.sha384 Config.rsaChain])
  | .measurements op n =>
    let sig := Config.spdmSign n ((s.blocks op).map (fun b => b.2.2))
    if op = 0 then .measurementCount 8 (some sig) else .measurements (s.blocks op) (some sig)
  | .report n =>
    let r := s.reportBytes n
    .vendor (r ++ leBytes 384 (Config.rsaSign r).toNat ++ leBytes 16224 (Config.slhSign r).toNat)

/-- What is signed is a record of R491. -/
def Signing.isRecord : Signing → Bool
  | .answer _ _ _ => false
  | _ => true

/-- A connection. -/
def State.spdm (s : State) (c : Nat) : SpdmConn := Tab.get {} s.sec.conn c

/-- Change a connection. -/
def State.modSpdm (s : State) (c : Nat) (f : SpdmConn → SpdmConn) : State :=
  { s with sec := { s.sec with conn := Tab.put {} s.sec.conn c (f (s.spdm c)) } }

/-- The LSE takes what it signs next: a record before any request (R492). -/
def Sec.takeNext (x : Sec) : Sec :=
  match x.waiting.find? Signing.isRecord, x.waiting with
  | some r, l => { x with signing := some r, waiting := l.erase r }
  | none, r :: l => { x with signing := some r, waiting := l }
  | none, [] => { x with signing := none }

/-- What has been signed is sent, or held for RESPOND_IF_READY (R498). -/
def State.signed (s : State) : Signing → State
  | .answer c r true =>
    let a := s.signedAnswer r
    ({ s with free := s.free + 4 }).modSpdm c (fun k => { k with held := some a })
  | .answer c r false => ({ s with free := s.free + 4 }).emit (.spdm c (s.signedAnswer r))
  | _ => s

/-- SIGNING_DONE (R492, R498). -/
def execSigningDone (s : State) : Res :=
  match s.sec.signing with
  | none => .next s
  | some x =>
    let s1 := s.signed x
    .next { s1 with sec := s1.sec.takeNext }

/-! ### The SPDM responder -/

/-- The number of a connection. -/
def connKey : Conn → Nat
  | .doe h => h.val
  | .mctp => 2

/-- A request reaches the responder (R294, R345, R494): on the DOE of a port that answers configuration space, or over MCTP.
(DEDUCED, log 147) -/
def State.spdmUp (s : State) : Conn → Bool
  | .doe h => s.pwr.step == .released && !(s.port h.val).perst
  | .mctp => !(s.pwr.step == .off || s.pwr.step == .standby) && s.mgmt.i3c.isSome

/-- Answer at once. -/
def State.reply (s : State) (c : Conn) (a : SpdmAnswer) : State := s.emit (.spdm (connKey c) a)

/-- A request that needs the negotiation to be complete (R494): otherwise it is unexpected. -/
def State.negotiated (s : State) (c : Conn) (f : State → State) : State :=
  if !s.spdmUp c then s
  else if (s.spdm (connKey c)).algs then f s
  else s.reply c .unexpectedRequest

/-- What is signed is not the answer to a connection. -/
def Signing.notOf (k : Nat) : Signing → Bool
  | .answer n _ _ => n != k
  | _ => true

/-- A request that the LSE signs (R492, R498): it starts if the LSE is free; otherwise the requester is told to ask again, and the answer
will be held. (DEDUCED, log 146) -/
def State.askSigned (s : State) (c : Conn) (r : SignReq) : State :=
  let k := connKey c
  let s0 := s.modSpdm k (fun x => { x with held := none })
  if s0.sec.signing.isNone then { s0 with sec := { s0.sec with signing := some (.answer k r false) } }
  else
    ({ s0 with sec := { s0.sec with waiting := s0.sec.waiting.filter (Signing.notOf k) ++ [Signing.answer k r true] } }).reply c (.notReady 20 1)

/-- GET_VERSION (R494): 1.3 only; the connection starts afresh. -/
def execGetVersion (c : Conn) (s : State) : Res :=
  if s.spdmUp c then .next ((s.modSpdm (connKey c) (fun _ => { version := true })).reply c (.version 0x13)) else .next s

/-- GET_CAPABILITIES (R494). -/
def execGetCapabilities (c : Conn) (s : State) : Res :=
  if !s.spdmUp c then .next s
  else if (s.spdm (connKey c)).version then
    .next ((s.modSpdm (connKey c) (fun k => { k with caps := true })).reply c (.capabilities true true true))
  else .next (s.reply c .unexpectedRequest)

/-- NEGOTIATE_ALGORITHMS (R494). -/
def execNegotiateAlgorithms (c : Conn) (s : State) : Res :=
  if !s.spdmUp c then .next s
  else if (s.spdm (connKey c)).caps then
    .next ((s.modSpdm (connKey c) (fun k => { k with algs := true })).reply c (.algorithms true true))
  else .next (s.reply c .unexpectedRequest)

/-- GET_DIGESTS (R494): slot 0 alone. -/
def execGetDigests (c : Conn) (s : State) : Res :=
  .next (s.negotiated c (fun t => t.reply c (.digests 1 (Config.sha384 Config.rsaChain))))

/-- GET_CERTIFICATE (R490, R494): a portion of the chain of slot 0 that the largest message holds. -/
def execGetCertificate (c : Conn) (slot : W8) (off len : W16) (s : State) : Res :=
  .next (s.negotiated c (fun t =>
    let n := Config.rsaChain.length
    if slot ≠ 0 ∨ n ≤ off.toNat then t.reply c .invalidRequest
    else
      let p := (Config.rsaChain.drop off.toNat).take (min len.toNat 20472)
      t.reply c (.certificate 0 p (n - off.toNat - p.length))))

/-- CHALLENGE (R494, R498). -/
def execChallenge (c : Conn) (slot : W8) (nonce : List W8) (s : State) : Res :=
  .next (s.negotiated c (fun t => if slot ≠ 0 then t.reply c .invalidRequest else t.askSigned c (.challenge nonce)))

/-- GET_MEASUREMENTS (R493, R494, R498). -/
def execGetMeasurements (c : Conn) (op : W8) (sgn : Bool) (nonce : List W8) (s : State) : Res :=
  .next (s.negotiated c (fun t =>
    if 8 < op.toNat ∧ op ≠ 0xFF then t.reply c .invalidRequest
    else if sgn then t.askSigned c (.measurements op nonce)
    else ({ t with free := t.free + 4 }).reply c (if op = 0 then .measurementCount 8 none else .measurements (t.blocks op) none)))

/-- RESPOND_IF_READY (R498). -/
def execRespondIfReady (c : Conn) (s : State) : Res :=
  .next (s.negotiated c (fun t =>
    let k := connKey c
    match (t.spdm k).held with
    | some a => (t.modSpdm k (fun x => { x with held := none })).reply c a
    | none =>
      let mine : Signing → Bool := fun x => match x with | .answer n _ h => n == k && h | _ => false
      if t.sec.waiting.any mine || t.sec.signing.any mine then t.reply c (.notReady 20 1) else t.reply c .unexpectedRequest))

/-- REPORT (R495, R496, R498). -/
def execReport (c : Conn) (nonce : List W8) (s : State) : Res := .next (s.negotiated c (fun t => t.askSigned c (.report nonce)))

/-- SLHCHAIN (R490, R495). -/
def execSlhchain (c : Conn) (s : State) : Res := .next (s.negotiated c (fun t => t.reply c (.vendor Config.slhChain)))

end Sys2Proof.Machine
end

