-- ==== Sys2Proof/Machine/Bringup.lean ====
section
/-! DEFINITION. The power-up sequence and bring-up (R416 to R428, R435, R436, R452, R453). -/
namespace Sys2Proof.Machine

/-! ### The power-up sequence -/

/-- Some feed is present. -/
def State.fed (s : State) : Bool := s.pwr.feedA.present || s.pwr.feedB.present

/-- Set the step of the sequence. -/
def State.toStep (s : State) (x : PowerStep) : State := { s with pwr := { s.pwr with step := x } }

/-- The baseline voltage and compute clock of a field, within the ranges of R18 and R22. -/
def baseVoltOf (fld : Nat) : Nat := min 850 (max 700 (Config.baseVolt fld))
def baseBinOf (fld : Nat) : Nat := min 28 (max 14 (Config.baseBin fld))

/-- The voltage and bin at which a field starts: planned, or baseline (R424, R452). -/
def FieldSt.startVolt (x : FieldSt) (fld : Nat) : Nat := match x.plan with | some p => p.volt | none => baseVoltOf fld
def FieldSt.startBin (x : FieldSt) (fld : Nat) : Nat := match x.plan with | some p => p.bin | none => baseBinOf fld

/-- A field region is switched on at its voltage (R452); one that is locked off stays dark until the next cold bring-up (R453, R457).
(DEDUCED, log 131) -/
def FieldSt.powerOn (x : FieldSt) (fld : Nat) (kind : BootKind) : FieldSt :=
  if x.region = .locked ∧ kind = .warm then x else { x with region := .on, volt := x.startVolt fld }

/-- The field regions are switched on, in ascending field index (R452). -/
def State.regionsOn (s : State) : State :=
  let s1 := s.each (List.range 64) (fun t k => t.modField k (fun x => x.powerOn k s.boot.nextKind))
  (List.range 64).foldl (fun t k =>
    if (t.field k).region = .locked then t.modFab (fun b => { b with dark := setBit64 b.dark k true }) else t) s1

/-- The release of a module reset after the wafer thermal trip can go on (R461, R469): every crust sensor reads below 60 degrees and the
inlet is within its limits. -/
def State.coolEnough (s : State) : Bool :=
  s.thm.crust.all (fun e => e.2.failed || decide (e.2.temp < deg 60))
    && decide (deg 20 ≤ s.thm.inlet) && decide (s.thm.inlet ≤ deg 35) && decide (400 ≤ s.thm.flow)

/-- POWER_UP_STEP (R23, R452, R453, R469, R485, R488): the next step of the sequence, if what it needs is there. -/
def execPowerUpStep (s : State) : Res :=
  match s.pwr.step with
  | .off => if s.fed then .next { s.toStep .standby with now := 0 } else .next s
  | .standby => if s.sec.recovery then .next s else .next s.startLmc
  | .started =>
    if s.pwr.wantOn && s.fed then
      let s1 := s.toStep .converters
      .next { s1 with pwr := { s1.pwr with quadOk := 0xF, quadCv := [(0, 4800), (1, 4800), (2, 4800), (3, 4800)] } }
    else .next s
  | .converters => .next (s.toStep .crust)
  | .crust => .next (s.regionsOn.toStep .regions)
  | .regions =>
    if s.thm.waitCool && !s.coolEnough then .next s
    else .next { s.toStep .released with thm := { s.thm with waitCool := false } }
  | .released => .next s

/-! ### Bring-up -/

/-- Bring-up ends without reaching ready (R427, R503). -/
def State.bringupFails (s : State) : State :=
  { s with boot := { s.boot with fail := true, active := false }, mgmt := { s.mgmt with busy := none } }

/-- BRINGUP_START (R423, R424, R488, R489): module reset has been released. The CRUST and SERDES images are chosen. -/
def execBringupStart (s : State) : Res :=
  if s.pwr.step ≠ .released ∨ s.ready ∨ s.boot.active ∨ s.boot.phase ≠ 0 then .next s
  else
    let s1 := { s with boot := { s.boot with kind := s.boot.nextKind, nextKind := .cold, phase := 1, active := true, releasedAt := s.now } }
    let s2 := (s1.chooseBank 2).chooseBank 3
    if s2.runs 2 && s2.runs 3 then .next s2 else .next s2.bringupFails

/-- Every site that a test selects is retired. -/
def State.retireAll (s : State) (p : Nat → Bool) : State := s.each (allSites.filter p) (fun t i => t.setSite i .retired)

/-- The factory map shows a site as retired (R11, R420): at most 16 of a field, since as shipped at least 384 are enabled. -/
def factoryGone (i : Nat) : Bool := (((fieldSites (fieldOf i)).filter Config.factoryRetired).take 16).contains i

/-- Phase 1 (R420): the site states are those of the service map, or, if it does not verify, of the factory map alone. -/
def State.loadMaps (s : State) (good : Bool) : State :=
  let s1 := if good then { s with site := s.boot.map.sites }
    else { s with site := [], boot := { s.boot with reverted := true, map := { gen := s.boot.map.gen, hours := s.boot.map.hours } } }
  s1.retireAll factoryGone

/-- Phase 2: the fabric clocks at 1.2 GHz, and the compute clocks at the planned or baseline bins (R424, R440, R466). -/
def FieldSt.startClocks (x : FieldSt) (fld : Nat) : FieldSt :=
  let y := { x with bin := x.startBin fld, slow := false, spCeil := if x.held350 then 14 else 28 }
  { y with cclk := y.target }

/-- The fields and numbers of the physical links at link ends (R421). -/
def State.linkNos (s : State) (l : List LinkEnd) : List (Nat × Nat) :=
  l.filterMap (fun x => (s.physLink (Site.idx x.site) x.port).map (fun n => (fieldOf (Site.idx x.site), n)))

/-- Phase 4 (R420, R422, R427): the link tests and the sparing. -/
def State.testLinks (s : State) (x : PhaseFinding) : State :=
  let fresh := s.boot.kind == .cold || s.boot.reverted
  let lanes := addLanes (if fresh then [] else s.boot.map.lanes) (Config.factoryLanes.map laneOfWord)
  let edge := if fresh then factoryEdge else s.boot.map.edge
  s.sparing lanes edge x.failedLanes ((s.modFab (fun b => { b with edge := edge })).linkNos x.failedLinks)

/-- Phase 6 (R420, R425): proofing adds exclusions when it is cold, and those of both maps apply. -/
def State.exclude (s : State) (new : List (StackIx × Nat)) : State :=
  let add := Config.factoryExcluded ++ (if s.boot.kind = .cold then new.map (fun e => (e.1.val, e.2)) else [])
  let l := s.boot.map.excluded ++ add.filter (fun e => !s.boot.map.excluded.contains e)
  let s1 := { s with boot := { s.boot with map := { s.boot.map with excluded := l }, excluded := !l.isEmpty } }
  s1.each (List.range 32) (fun t n => t.modCtl n (fun c => { c with excluded := (l.filter (fun e => e.1 == n)).map Prod.snd }))

/-- The selection of sites in a field (R417): the sites to enable and to hold back. -/
def State.selection (s : State) (fld : Nat) : List Nat × List Nat :=
  let pass := (fieldSites fld).filter (fun i => s.siteState i == .enabled || s.siteState i == .spare)
  let on := pass.filter (fun i => s.siteState i == .enabled)
  let off := pass.filter (fun i => s.siteState i == .spare)
  let e := max (min pass.length 384) (pass.length - s.boot.map.reserve)
  (off.take (e - on.length), on.drop e)

/-- Select the sites of every field (R417). -/
def State.selectSites (s : State) : State :=
  s.each (List.range 64) (fun t k =>
    let x := t.selection k
    (t.each x.1 (fun u i => u.setSite i .enabled)).each x.2 (fun u i => u.setSite i .spare))

/-- GEN_SHORT (R417, R436). -/
def State.shortFields (s : State) : W64 :=
  (List.range 64).foldl (fun v k => setBit64 v k (decide (((fieldSites k).filter (fun i => s.siteState i == .enabled)).length < 384))) 0

/-- Phase 7 (R197, R400, R417): sites are selected at a cold bring-up, or where the factory map was used alone; routes and checkers follow. -/
def State.merge (s : State) : State :=
  let s1 := if s.boot.kind = .cold ∨ s.boot.reverted then s.selectSites else s
  let s2 := (s1.modFab (fun b => { b with installed := s1.liveMap })).assignCheckers
  { s2 with boot := { s2.boot with short := s2.shortFields } }

/-- A plan applies at once during bring-up (R477). (DEDUCED, log 128) -/
def FieldSt.applyPlan (x : FieldSt) : FieldSt :=
  match x.plan with
  | none => x
  | some p => let y := { x with volt := p.volt, bin := p.bin, slow := p.slow }
    { y with cclk := y.target }

/-- A cold bring-up that finds 12 or more working sensors no longer holds the snowplough ceiling (R465). -/
def FieldSt.recheck (x : FieldSt) : FieldSt :=
  if x.working.length < 12 then x else { x with held350 := false, spCeil := 28 }

/-- Phase 8 (R424, R474, R476): a cold bring-up runs a rewax, and enables spares for the sites that it retires; a warm one runs it if a
monitor has drifted. -/
def State.margins (s : State) : State :=
  let s1 :=
    if s.boot.kind = .cold then
      let s2 := (s.each (List.range 64) (fun t k => t.modField k FieldSt.recheck)).rewaxAll 3
      (s2.selectSites).assignCheckers
    else if s.thm.drift then s.rewaxAll 1
    else s
  let s3 := s1.each ((List.range 64).filter (fun k => !s1.isDark k)) (fun t k => t.modField k FieldSt.applyPlan)
  { s3 with boot := { s3.boot with short := s3.shortFields } }

/-- The code of KIND (R436). -/
def BootKind.code : BootKind → Nat
  | .cold => 1
  | .warm => 2

/-- Phase 9 (R419, R424, R436, R484, R486, R488, R503, R509): the service map is written and GEN_READY is set. -/
def State.commitReady (s : State) : State :=
  let s1 := s.writeMap.signRecord .serviceMap
  let s2 := { s1 with
    ready := true,
    boot := { s1.boot with active := false, duration := min 65535 ((s1.now - s1.boot.releasedAt) / 1000000) },
    mem := { s1.mem with winStart := s1.now, winSeen := false },
    mgmt := { s1.mgmt with busy := none } }
  let s3 := (s2.each [1, 2, 3] State.activate).raiseCounters.revokeSlot
  s3.raiseWide 0x0061 (s.mgmt.cause + 16 * s.boot.kind.code + 256 * s.mgmt.causeSensor)

/-- What the end of a phase changes (R424). -/
def State.endPhase (s : State) (x : PhaseFinding) : State :=
  match s.boot.phase with
  | 1 => s.loadMaps x.serviceMapGood
  | 2 => s.each ((List.range 64).filter (fun k => !s.isDark k)) (fun t k => t.modField k (fun y => y.startClocks k))
  | 4 => s.testLinks x
  | 5 =>
    let l := x.failedSites.map Site.idx
    let s1 := s.each l (fun t i => t.setSite i .retired)
    { s1 with boot := { s1.boot with failed := l } }
  | 6 => s.exclude x.excluded
  | 7 => s.merge
  | 8 => s.margins
  | _ => s

/-- BRINGUP_PHASE_END (R424, R427): a phase completes and the next begins; after the last, the engine is ready. -/
def execBringupPhaseEnd (found : PhaseFinding) (s : State) : Res :=
  if !s.boot.active then .next s
  else if !found.ok then .next s.bringupFails
  else if s.boot.phase = 9 then .next s.commitReady
  else
    let s1 := s.endPhase found
    .next { s1 with boot := { s1.boot with phase := s.boot.phase + 1 } }

end Sys2Proof.Machine
end

