-- ==== Sys2Proof/Machine/Manage.lean ====
section
/-! DEFINITION. The management controller: commands, powered hours and its interfaces (R417, R423, R449, R452, R488, R501 to R509, R515). -/
namespace Sys2Proof.Machine

/-- The LMC runs: its firmware has been verified and started (R452). -/
def State.lmcUp (s : State) : Bool := !(s.pwr.step == .off || s.pwr.step == .standby)

/-- A command comes over MCTP. -/
def overMctp : MgmtSource → Bool
  | .mctp => true
  | _ => false

/-- A command reaches the LMC from a source that may give it (R502): over the management port with link, or over the sideband with an
address. (DEDUCED, log 148) -/
def State.mgmtHears (s : State) : MgmtSource → Bool
  | .redfishReadOnly => false
  | .mctp => s.lmcUp && s.mgmt.i3c.isSome
  | _ => s.lmcUp && s.mgmt.redfishUp && s.mgmt.link

/-- A command that arrives while another is in progress is refused (R503). -/
def State.mgmtRefuse (s : State) (src : MgmtSource) : State := s.emit (if (overMctp src) then .mctpNotReady else .http 503)

/-- The event MGMT_CMD (R503, R509). -/
def State.mgmtEvent (s : State) (src : MgmtSource) (code arg : Nat) : State :=
  s.raiseWide 0x0062 (code + 256 * (overMctp src).toNat + 65536 * arg)

/-- A command of R502: one at a time, refused without an effect where its column says so. -/
def State.mgmtCommand (s : State) (src : MgmtSource) (code arg : Nat) (anyTime refused : Bool) (eff : State → State) : State :=
  if !s.mgmtHears src then s
  else if s.mgmt.busy.isSome && !anyTime then s.mgmtRefuse src
  else if refused then s
  else eff (s.mgmtEvent src code arg)

/-- A command is in progress, or none. -/
def State.setBusy (s : State) (b : Option Nat) : State := { s with mgmt := { s.mgmt with busy := b } }

/-- The step from which power-up goes on after a module reset that keeps the rails up (R453). -/
def State.keptStep (s : State) : PowerStep := if s.pwr.step = .converters then .converters else .crust

/-- RESET_COLD (R423, R453, R502). -/
def execResetCold (src : MgmtSource) (s : State) : Res :=
  .next (s.mgmtCommand src 1 0 false (!s.logicOn) (fun t => (t.moduleReset 2 0 0 false t.keptStep).setBusy (some 1)))

/-- RESET_WARM (R423, R453, R502). -/
def execResetWarm (src : MgmtSource) (s : State) : Res :=
  .next (s.mgmtCommand src 2 0 false (!s.logicOn) (fun t => (t.moduleReset 3 0 0 true t.keptStep).setBusy (some 2)))

/-- The standby devices restart as if power had just arrived (R488): the LMC, the LSE and the supply controller. -/
def State.standbyRestart (s : State) : State :=
  let open1 (f : FeedSt) : FeedSt := { f with latched := false, tripped := f.tripped && !f.latched }
  { s with
    fld := s.fld.map (fun e => (e.1, { e.2 with region := .dark, capCeil := 28, gateCap := false })),
    pwr := { feedA := open1 s.pwr.feedA, feedB := open1 s.pwr.feedB, step := .standby },
    thm := { rewaxCause := s.thm.rewaxCause, rewaxHours := s.thm.rewaxHours, pendingSites := s.thm.pendingSites },
    sec := { s.sec with conn := [], signing := none, waiting := [], recovery := false,
                        bank := s.sec.bank.map (fun e => (e.1, { e.2 with running := none })) },
    mgmt := { s.mgmt with redfishUp := false, link := false, i3c := none } }

/-- FULL_RESTART (R488, R503): the command ends when the standby devices have started again. (DEDUCED, log 150) -/
def execFullRestart (src : MgmtSource) (s : State) : Res :=
  .next (s.mgmtCommand src 3 0 true false (fun t => ((t.moduleReset 4 0 0 false .standby).standbyRestart).setBusy (some 3)))

/-- POWER_OFF (R453, R502, R503). (DEDUCED, log 149) -/
def execPowerOff (src : MgmtSource) (s : State) : Res :=
  .next (s.mgmtCommand src 4 0 true false (fun t =>
    let t1 := (t.clearLogic.toStep .started).setBusy none
    { t1 with pwr := { t1.pwr with wantOn := false, quadOk := 0, quadCv := [] } }))

/-- POWER_ON (R452, R502, R503). -/
def execPowerOn (src : MgmtSource) (s : State) : Res :=
  .next (s.mgmtCommand src 5 0 false s.logicOn (fun t =>
    let t1 := (t.moduleReset 4 0 0 false .started).setBusy (some 5)
    { t1 with pwr := { t1.pwr with wantOn := true } }))

/-- SET_AUTO_ON (R452, R502). -/
def execSetAutoOn (src : MgmtSource) (on : Bool) (s : State) : Res :=
  .next (s.mgmtCommand src 6 on.toNat false false (fun t => { t with mgmt := { t.mgmt with autoOn := on } }))

/-- SET_RESERVE (R417, R502): kept in the service map. (DEDUCED, log 129) -/
def execSetReserve (src : MgmtSource) (value : W8) (s : State) : Res :=
  .next (s.mgmtCommand src 7 value.toNat false (decide (16 < value.toNat)) (fun t =>
    { t with boot := { t.boot with map := { t.boot.map with reserve := value.toNat } } }.signRecord .serviceMap))

/-- HOURS_UPDATE (R506): powered hours are written to flash. (DEDUCED, log 151) -/
def execHoursUpdate (hours : W32) (s : State) : Res :=
  if s.logicOn && decide (s.mgmt.hours ≤ hours) then .next { s with mgmt := { s.mgmt with hours := hours } } else .next s

/-- I3C_ENTDAA (R345, R501, R515). -/
def execI3cEntdaa (addr : BitVec 7) (s : State) : Res :=
  if s.lmcUp || (s.pwr.step == .standby && s.sec.recovery) then .next { s with mgmt := { s.mgmt with i3c := some addr } } else .next s

/-- MGMT_PORT_LINK (R345, R515). -/
def execMgmtPortLink (up : Bool) (s : State) : Res :=
  if s.lmcUp then .next { s with mgmt := { s.mgmt with link := up } } else .next s

end Sys2Proof.Machine
end

