-- ==== Sys2Proof/Machine/Reads.lean ====
section
/-! DEFINITION. What the registers of BAR0 show that are no counter pairs: each block's words, from the state (R118, R139, R188, R223,
R224, R249,
R250, R292, R300 to R305, R308, R335, R365, R394, R415, R436, R459, R460, R479, R480, R499, R515). -/
namespace Sys2Proof.Machine

/-! ### Shared forms -/

/-- A bit of a register. -/
def flagBit (b : Bool) (k : Nat) : Nat := 2 ^ k * b.toNat

/-- The word at offset 0 or 4 of a 64-bit register. -/
def halfOf (v o : Nat) : Nat := if o = 0 then v % 2 ^ 32 else v / 2 ^ 32 % 2 ^ 32

/-- A register with bit 8y + x for each field F(x,y). -/
def fieldBits (p : Nat → Bool) : Nat := ((List.range 64).map (fun k => flagBit (p k) k)).sum

/-- A signed field of `n` bits. -/
def signedBits (n : Nat) (v : Int) : Nat := (v % (2 ^ n : Int)).toNat

/-- A command register (R536): its command fields, BUSY and STATUS. -/
def CmdReg.word (c : CmdReg) : Nat := c.field.toNat + flagBit c.busy 16 + c.status.toNat

/-- The largest of some numbers. -/
def largest (l : List Nat) : Nat := l.foldl max 0

/-! ### GEN, HIF, RING and PART -/

/-- RELEASE of the running image of a type (R482). -/
def State.runningRelease (s : State) (ty : Nat) : Nat :=
  match (s.banks ty).running with
  | some b => imgField (s.bankImage ty b) 12 2
  | none => 0

/-- The IDs that a function's configuration header shows (R296): device ID, vendor ID and class code. -/
def deviceId (f : Nat) : Nat := if isPF f then 0xD064 else 0xD065
def vendorId : Nat := Config.vendor.toNat
def classCode : Nat := 0x120000

/-- A field has enabled clusters (R300). -/
def State.hasEnabled (s : State) (fld : Nat) : Bool := (fieldSites fld).any (fun i => s.siteState i == .enabled)

/-- GEN_BRINGUP (R436). -/
def State.bringupWord (s : State) : Nat :=
  let b := s.boot
  2 ^ 30 * (match b.kind with | .cold => 1 | .warm => 2) + flagBit b.fail 29 + flagBit b.reverted 28 + flagBit b.excluded 27
    + 2 ^ 20 * (b.phase % 16) + min b.duration 65535

/-- The GEN block (R300, R436, R482). -/
def State.genWord (s : State) (o : Nat) : Nat :=
  if o = 0x00 then 2 ^ 16 * 0xD064 + vendorId
  else if o = 0x04 then 2 ^ 24 * 0xA1 + s.runningRelease 2
  else if o = 0x08 then Config.serial.toNat
  else if o = 0x18 then flagBit s.ready 31
  else if o = 0x20 ∨ o = 0x24 then halfOf (fieldBits s.hasEnabled) (o - 0x20)
  else if o = 0x30 then s.bringupWord
  else if o = 0x34 then s.boot.map.gen.toNat
  else if o = 0x38 ∨ o = 0x3C then halfOf s.boot.short.toNat (o - 0x38)
  else 0

/-- HIF_FUNC_STATUS (R301). -/
def State.funcStatus (s : State) (f : Nat) : Nat :=
  flagBit (s.ready && s.exists f && !s.resetting f) 31 + flagBit (s.resetting f) 30

/-- A function's MSI-X vectors (R294), and a word of its MSI-X table. (PRESUMED, log 157) -/
def vectorsOf (f : Nat) : Nat := if isPF f then 2048 else 64
def State.msixWord (s : State) (f k : Nat) : W32 := Tab.get (msixReset k) s.hst.msix (8192 * f + k)

/-- A word of a function's pending-bit array (R294). -/
def State.pendingWord (s : State) (f k : Nat) : Nat :=
  ((List.range 32).map (fun j => flagBit (Tab.get false s.hst.pba (2048 * f + 32 * k + j)) j)).sum

/-- The HIF block, as function f reads it (R294, R301). -/
def State.hifWord (s : State) (f o : Nat) : Nat :=
  if o = 0 then (if isPF f then flagBit (s.port (portOf f)).lock 31 else 0)
  else if 0x1000 ≤ o ∧ o < 0x2000 then
    let g := (o - 0x1000) / 64
    let k := (o - 0x1000) % 64
    let e := s.fent g
    if k = 0x00 then s.funcStatus g
    else if k = 0x08 ∨ k = 0x0C then halfOf (e.base + 2 ^ 32 * e.count + flagBit e.bad 63) (k - 0x08)
    else if k = 0x10 then e.evring
    else if k = 0x18 ∨ k = 0x1C then halfOf e.bar4Base (k - 0x18)
    else 0
  else if 0x80000 ≤ o ∧ o < 0x80000 + 16 * vectorsOf f then (s.msixWord f ((o - 0x80000) / 4)).toNat
  else if 0x90000 ≤ o ∧ o < 0x90000 + vectorsOf f / 8 then s.pendingWord f ((o - 0x90000) / 4)
  else 0

/-- The RING block of function f (R305). -/
def State.ringWord (s : State) (f o : Nat) : Nat :=
  let w := s.rwin f
  if o = 0 then w.sel.toNat
  else if o = 8 then w.cmd.word
  else if 0x40 ≤ o ∧ o < 0x80 then dataField w.data (o - 0x40) 4
  else 0

/-- What a read of a doorbell returns (R308): HEAD and CPROD; zero outside the function's range and for a disabled ring. -/
def State.doorbellRead (s : State) (f i : Nat) : W64 :=
  let g := s.ring (s.absRing f i)
  if s.inRange f i && g.kind != .disabled then g.cprod ++ g.head else 0

/-- The register set of partition t (R335). -/
def State.partRegs (s : State) (t o : Nat) : Nat :=
  let p := s.prt t
  if o = 0x00 then
    flagBit p.reset.isSome 31 + flagBit p.quiesced 30 + (s.cl.filter (fun e => e.2.owner == some t && s.siteState e.1 == .enabled)).length
  else if o = 0x08 then p.cmd.word
  else if o = 0x10 then p.rect.toNat
  else if o = 0x30 then p.lastRing
  else if o = 0x34 then p.lastTag.toNat
  else 0

/-! ### FAB and MEM -/

/-- The FAB block (R208, R223). -/
def State.fabWord (s : State) (o : Nat) : Nat :=
  if o = 0x00 then flagBit s.fab.recomputing 31 + s.fab.generation.toNat
  else if o = 0x08 ∨ o = 0x0C then halfOf s.fab.dark.toNat (o - 0x08)
  else if o = 0x10 ∨ o = 0x14 then halfOf s.fab.oos.toNat (o - 0x10)
  else if o = 0x18 then s.fab.fieldCmd.word
  else if o = 0x28 then 2 ^ 24 * 10 + 2 ^ 16 * 32 + 2 ^ 8 * 10 + 5
  else if 0x100 ≤ o ∧ o < 0x300 ∧ o % 8 = 0 then Tab.get 0 s.fab.inflight ((o - 0x100) / 8) % 2 ^ 32
  else 0

/-- MEM_UE_LOG (R292). -/
def UeLog.word (l : UeLog) : Nat := flagBit l.valid 63 + 2 ^ 57 * l.func + 2 ^ 52 * l.stack + 2 ^ 48 * l.source + l.addr

/-- Free page units (R254, R292). -/
def State.freeUnits (s : State) : Nat := ((List.range 32).map s.freeOn).sum / 32

/-- The registers of controller n that are no counters (R292). -/
def State.ctlWord (s : State) (n o : Nat) : Nat :=
  let c := s.ctl n
  if o = 0x00 then flagBit s.ready 31 + flagBit c.scrubbing 30 + s.freeOn n
  else if o = 0x30 then (c.stream.filter (fun x => x.2.isSome)).length
  else 0

/-- MEM_VGROUP of group g (R292). -/
def State.groupWord (s : State) (g o : Nat) : Nat :=
  let x := s.group g
  let st := match x.state with | .unused => 0 | .openG => 1 | .sealed => 2
  if o = 0 then 2 ^ 30 * st + 2 ^ 24 * x.owner + x.pages else x.vg.toNat

/-- The MEM block (R292). -/
def State.memWord (s : State) (o : Nat) : Nat :=
  if o = 0x00 then flagBit s.ready 31 + s.freeUnits
  else if o = 0x10 then s.mem.sel
  else if o = 0x18 ∨ o = 0x1C then halfOf s.mem.entry.toNat (o - 0x18)
  else if o = 0x20 then s.mem.cmd.word
  else if o = 0x28 ∨ o = 0x2C then halfOf s.mem.ueLog.word (o - 0x28)
  else if 0x100 ≤ o ∧ o < 0x500 ∧ o % 16 = 4 then s.usedUnits ((o - 0x100) / 16)
  else if 0x800 ≤ o ∧ o < 0x1000 then s.ctlWord ((o - 0x800) / 64) ((o - 0x800) % 64)
  else if 0x1000 ≤ o ∧ o < 0x1800 then s.groupWord ((o - 0x1000) / 8) (o % 8)
  else 0

/-! ### MEDIA and TOW -/

/-- Codes of LINK, MODE and the states of a Tow link (R365, R394). -/
def LinkUp.code : LinkUp → Nat | .down => 0 | .training => 1 | .up => 2
def PortMode.code : PortMode → Nat | .off => 0 | .media => 1 | .tow => 2
def TowState.code : TowState → Nat | .down => 0 | .training => 1 | .up => 2

/-- The registers of E port p in the MEDIA block (R365); MEDIA_PTP_OFFSET saturates. -/
def State.mportWord (s : State) (p o : Nat) : Nat :=
  let m := s.mport p
  if o = 0x00 then 2 ^ 30 * m.mode.code + 2 ^ 28 * m.speed + flagBit m.vlanEn 27 + 2 ^ 24 * m.pcp + 2 ^ 12 * m.vid
  else if o = 0x04 then 2 ^ 30 * m.link.code + flagBit m.refused 29
  else if o = 0x20 then flagBit m.ptpEn 31 + 2 ^ 24 * m.domain + flagBit m.ptpV6 23 + 2 ^ 16 * m.annTo + m.holdmax
  else if o = 0x24 then 2 ^ 30 * m.state.code
  else if o = 0x28 then signedBits 32 (max (-2147483648) (min 2147483647 m.offset))
  else 0

/-- MEDIA_CTX_STATUS (R365). -/
def Ctx.statusWord (x : Ctx) : Nat :=
  flagBit x.bound.isSome 31 + flagBit x.bad 30 + (match x.bound with | some b => b.level | none => 0)

/-- The MEDIA block (R349, R365). -/
def State.mediaWord (s : State) (o : Nat) : Nat :=
  if o = 0 then flagBit s.media.lock 31
  else if 0x1000 ≤ o ∧ o < 0x2000 then s.mportWord ((o - 0x1000) / 0x100) (o % 0x100)
  else if 0x10000 ≤ o ∧ o < 0x30000 then (s.ctx ((o - 0x10000) / 128)).field ((o - 0x10000) % 128) 4
  else if 0x30000 ≤ o ∧ o < 0x40000 ∧ o % 64 = 0 then (s.ctx ((o - 0x30000) / 64)).statusWord
  else 0

/-- The registers of a Tow port (R394). -/
def State.tportWord (s : State) (p o : Nat) : Nat :=
  let t := s.tport p
  if o = 0x00 then flagBit t.dim 31 + flagBit t.dateline 30
  else if o = 0x04 then 2 ^ 30 * t.state.code
  else if o = 0x08 ∨ o = 0x0C then halfOf (t.portMac p).toNat (o - 0x08)
  else 0

/-- The registers of a version group's training state (R394). -/
def State.vgWord (s : State) (g o : Nat) : Nat :=
  let x := s.tgroup g
  if o = 0x00 ∨ o = 0x04 then halfOf x.table.toNat o
  else if o = 0x08 then x.nelem.toNat
  else if o = 0x0C then x.cmd.word + flagBit x.loaded 17
  else if o = 0x10 then 2 ^ 16 * x.lastDone.toNat + x.lastOk.toNat
  else if o = 0x14 then x.ended.toNat
  else 0

/-- The TOW block (R394). -/
def State.towWord (s : State) (o : Nat) : Nat :=
  if o = 0 then flagBit s.tow.lock 31
  else if o = 0x08 then 2 ^ 28 * s.tow.engineId + s.tow.etype.toNat
  else if 0x40 ≤ o ∧ o < 0x80 then (Tab.get 0 s.tow.route ((o - 0x40) / 4)).toNat
  else if 0x100 ≤ o ∧ o < 0x900 then s.tportWord ((o - 0x100) / 0x80) ((o - 0x100) % 0x80)
  else if 0x1000 ≤ o ∧ o < 0x3000 then s.vgWord ((o - 0x1000) / 32) (o % 32)
  else 0

/-! ### INTEG, PWR, SEC and MGMT -/

/-- The cluster that a function's INTEG_LIN_SEL names, if it may see it (R415). -/
def State.linSite (s : State) (f : Nat) : Option Nat :=
  let v := (Tab.get 0 s.integ.linSel f).toNat
  let i := siteIdx (bits v 15 8) (bits v 7 0)
  if bits v 15 8 < 160 ∧ bits v 7 0 < 160 ∧ (isPF f ∨ (s.clu i).owner = some f) then some i else none

/-- INTEG_FIELD_CHK of a field (R415). -/
def State.checkWord (s : State) (fld : Nat) : Nat :=
  let l := (fieldSites fld).filter (fun i => s.siteState i == .enabled)
  2 ^ 8 * min 255 ((l.filterMap (fun i => (s.clu i).checker)).eraseDups).length
    + min 255 (l.filter (fun i => (s.clu i).checker.isNone)).length

/-- The INTEG block, as function f reads it (R408, R415). -/
def State.integWord (s : State) (f o : Nat) : Nat :=
  if o = 0x34 then s.integ.quar.word
  else if o = 0x40 then (Tab.get 0 s.integ.linSel f).toNat
  else if o = 0x44 then
    match s.linSite f with
    | some i => flagBit (s.clu i).linOvf 31 + flagBit (s.clu i).linFrozen 30 + (s.clu i).lineage.length
    | none => 0
  else if 0x100 ≤ o ∧ o < 0x500 ∧ o % 16 = 0 then
    (s.reg (integBase + o)).toNat + flagBit ((s.prt ((o - 0x100) / 16)).cfg.any (fun e => e.2.loaded && e.2.paired)) 30
  else if 0x800 ≤ o ∧ o < 0x900 then s.checkWord ((o - 0x800) / 4)
  else if 0x8000 ≤ o ∧ o < 0x10000 then
    match s.linSite f with
    | some i => halfOf ((s.clu i).lineage.getD ((o - 0x8000) / 8) 0).toNat (o % 8)
    | none => 0
  else 0

/-- PWR_FEED of a feed (R459). -/
def FeedSt.word (x : FeedSt) : Nat := flagBit x.present 31 + x.dv % 65536

/-- The hottest working sensor of crust block k (R479). -/
def State.crustTemp (s : State) (k : Nat) : Int :=
  ((((List.range 4).map (fun i => (Tab.get {} s.thm.crust (4 * k + i) : Sense))).filter (fun v => !v.failed)).map Sense.temp).foldl max 0

/-- The PWR block (R459, R479). -/
def State.pwrWord (s : State) (o : Nat) : Nat :=
  if o = 0x00 then s.pwr.mbox.word
  else if o = 0x08 then s.pwr.arg.toNat
  else if o = 0x40 then s.pwr.feedA.word
  else if o = 0x44 then s.pwr.feedB.word
  else if o = 0x48 then s.pwr.input % 65536
  else if o = 0x4C then flagBit s.pwr.capActive 31 + flagBit s.capGates 30 + s.capCeil
  else if 0x50 ≤ o ∧ o < 0x60 then flagBit (s.pwr.quadOk.getLsbD ((o - 0x50) / 4)) 31 + Tab.get 0 s.pwr.quadCv ((o - 0x50) / 4) % 65536
  else if o = 0x60 then signedBits 16 s.thm.inlet
  else if o = 0x64 then signedBits 16 s.thm.outlet
  else if o = 0x68 then s.thm.flow % 65536
  else if o = 0x74 then 2 ^ 30 * s.thm.rewaxCause + s.thm.rewaxHours % 2 ^ 24
  else if 0x80 ≤ o ∧ o < 0xC0 then signedBits 16 (s.crustTemp ((o - 0x80) / 4))
  else 0

/-- SEC_REJECT (R499). -/
def Reject.word (r : Reject) : Nat := flagBit r.valid 31 + 2 ^ 8 * r.source + 2 ^ 4 * (r.typ % 16) + r.cause

/-- The code of a bank (R499). -/
def bankCode : Option Bool → Nat | none => 0 | some false => 1 | some true => 2

/-- SEC_IMAGE of a type (R499). -/
def State.imageWord (s : State) (ty o : Nat) : Nat :=
  let k := s.banks ty
  if bodyLimit ty = 0 then 0
  else if o = 0 then 2 ^ 30 * bankCode (some k.active) + 2 ^ 28 * bankCode k.pending + s.runningRelease ty
  else if o = 4 then (s.svnCounter ty).toNat
  else if o = 8 then (match s.runningSvn ty with | some v => v.toNat | none => 0)
  else 0

/-- The SEC block (R499). -/
def State.secWord (s : State) (o : Nat) : Nat :=
  if o = 0x00 then s.secState
  else if o = 0x08 then s.sec.mbox.word
  else if o = 0x10 ∨ o = 0x14 then halfOf s.sec.addr.toNat (o - 0x10)
  else if o = 0x18 then s.sec.len.toNat
  else if o = 0x20 then s.sec.reject.word
  else if 0x40 ≤ o ∧ o < 0x140 then s.imageWord ((o - 0x40) / 16) (o % 16)
  else 0

/-- The MGMT block (R515). -/
def State.mgmtWord (s : State) (o : Nat) : Nat :=
  let m := s.mgmt
  if o = 0x00 then
    flagBit m.redfishUp 31 + flagBit m.link 30 + flagBit m.i3c.isSome 29 + flagBit m.autoOn 28 + flagBit m.busy.isSome 27
      + 2 ^ 16 * s.boot.map.reserve + s.runningRelease 1
  else if o = 0x08 then 2 ^ 28 * m.cause + 2 ^ 24 * m.causeQuad.toNat + 2 ^ 12 * m.causeSensor
  else if o = 0x18 then m.hours.toNat
  else if o = 0x20 then m.ip4.toNat
  else if 0x100 ≤ o ∧ o < 0x180 then signedBits 16 (Tab.get 0 m.stackTemp ((o - 0x100) / 4))
  else 0

/-! ### Field windows and cluster pages -/

/-- FIELD_TT_STATUS (R250). -/
def State.ttStatus (s : State) (fld : Nat) : Nat :=
  let sites := fieldSites fld
  let ent (i : Nat) : Nat := (s.fab.entries.filter (fun e => e.site == i)).length
  let fold (i : Nat) : Nat := (s.allCfgs.flatMap (fun e => (s.cfg e.1 e.2).trees.filter (fun t => t.nodes.any (fun n => n.site == i)))).length
  let buf (i : Nat) : Nat := (s.fab.segs.filter (fun e => e.site == i)).length
  flagBit (s.fab.entries.any (fun e => fieldOf e.site == fld)) 31 + 2 ^ 16 * largest (sites.map ent) + 2 ^ 8 * largest (sites.map fold)
    + largest (sites.map buf)

/-- REGION (R460). -/
def Region.code : Region → Nat | .on => 0 | .dark => 1 | .locked => 2 | .starting => 3

/-- FIELD_THERM_STATUS (R480). -/
def FieldSt.thermWord (x : FieldSt) : Nat :=
  2 ^ 30 * (if x.gateSp then 2 else if x.spCeil < 28 then 1 else 0) + 2 ^ 16 * x.spCeil + 2 ^ 8 * min 255 (x.hottest / 16).toNat
    + (16 - x.working.length)

/-- The registers of a field's window past its cluster pages (R224, R250, R460, R480). -/
def State.fieldWord (s : State) (fld o : Nat) : Nat :=
  let x := s.field fld
  if o = 0x32000 then flagBit (s.isOos fld) 31 + flagBit (s.isDark fld) 30 + flagBit x.slow 29
  else if 0x32100 ≤ o ∧ o < 0x32100 + 352 then s.edgeWord fld (dirOf ((o - 0x32100) / 88)) ((o - 0x32100) / 4 % 22)
  else if o = 0x33000 then s.ttStatus fld
  else if o = 0x34000 then flagBit x.slow 31 + flagBit x.holdC 30 + flagBit x.holdF 29 + 2 ^ 16 * x.cclk + 2 ^ 8 * x.capCeil
  else if o = 0x34008 then 2 ^ 30 * x.region.code + x.volt
  else if o = 0x35000 then x.thermWord
  else if 0x35040 ≤ o ∧ o < 0x35080 then
    let v : Sense := Tab.get {} x.sensor ((o - 0x35040) / 4)
    flagBit v.failed 31 + signedBits 16 v.temp
  else if o = 0x35080 then
    flagBit (s.thm.pendingSites.any (fun i => fieldOf i == fld)) 31
      + 2 ^ 16 * signedBits 8 (((match x.plan with | some p => (p.volt : Int) | none => baseVoltOf fld) - baseVoltOf fld) / 5) + x.worst
  else 0

/-- FIELD_CL_STATUS (R139). -/
def State.clusterStatus (s : State) (i : Nat) : Nat :=
  let c := s.clu i
  2 ^ 30 * (s.siteState i).code + 2 ^ 18 * c.owner.getD 0 + flagBit c.owner.isSome 17 + flagBit c.resetting 16
    + 2 ^ 8 * (c.slot.filter (fun e => e.2.isSome)).length

/-- FIELD_CL_DMA_ERR (R139). -/
def DmaErr.word (e : DmaErr) : Nat := flagBit e.valid 31 + 2 ^ 24 * e.cause.toNat + 2 ^ 20 * e.core.toNat + e.op.toNat

/-- FIELD_CL_PDM0 and FIELD_CL_PDM1 (R139). -/
def Pdm.word (p : Pdm) : Nat := 2 ^ 16 * p.sample.toNat + p.delay.toNat

/-- FIELD_CORE_FAULT and FIELD_CORE_STATUS (R118). -/
def FaultReg.word (r : FaultReg) : Nat := flagBit r.valid 31 + 2 ^ 24 * r.cause.toNat + 2 ^ 12 * r.pc.toNat + 2 ^ 6 * r.opcode.toNat
def SeqState.code : SeqState → Nat | .unloaded => 0 | .loaded => 1 | .running => 2 | .halted => 3
def Core.statusWord (k : Core) : Nat :=
  2 ^ 30 * k.seq.code + 2 ^ 25 * k.block.toNat + flagBit k.done 24 + 2 ^ 12 * k.pc.toNat + 2 ^ 8 * k.flags.toNat

/-- A cluster's page (R118, R139). -/
def State.clusterWord (s : State) (i o : Nat) : Nat :=
  let c := s.clu i
  if o = 0x00 then s.clusterStatus i
  else if o = 0x28 then c.dmaErr.word
  else if o = 0x40 then c.pdm0.word
  else if o = 0x44 then c.pdm1.word
  else if 0x100 ≤ o ∧ o % 16 = 0 then (c.getCore ((o - 0x100) / 16)).fault.word
  else if 0x100 ≤ o ∧ o % 16 = 4 then (c.getCore ((o - 0x100) / 16)).statusWord
  else 0

end Sys2Proof.Machine
end

