-- ==== Sys2Proof/Machine/Registers.lean ====
section
/-! DEFINITION. Reads of registers and writes by their access codes, counter pairs and their latches (R4, R139, R140, R299, R305, R510 to
R513, R534,
R536, R537). -/
namespace Sys2Proof.Machine

/-! ### Where a counter pair lies -/

/-- The cluster site and the offset in its page that an offset names (R139). -/
def clusterAt (off : Nat) : Option (Nat × Nat) :=
  let fld := (off - 0x2800000) / 0x40000
  let o := (off - 0x2800000) % 0x40000
  if 0x2800000 ≤ off ∧ off < 0x3800000 ∧ o < 400 * 0x200 then
    some (siteIdx (20 * (fld % 8) + o / 0x200 % 20) (20 * (fld / 8) + o / 0x200 / 20), o % 0x200)
  else none

/-- The offset in a field's window (R139). -/
def fieldOff (off : Nat) : Option (Nat × Nat) :=
  if 0x2800000 ≤ off ∧ off < 0x3800000 then some ((off - 0x2800000) / 0x40000, (off - 0x2800000) % 0x40000) else none

/-- The offset in a block of `size` bytes. -/
def blockOff (base size off : Nat) : Option Nat := if base ≤ off ∧ off < base + size then some (off - base) else none

/-- An entry of a table of `n` entries of `size` bytes: its number and the offset in it. -/
def entryOff (base size n off : Nat) : Option (Nat × Nat) :=
  if base ≤ off ∧ off < base + n * size then some ((off - base) / size, (off - base) % size) else none

/-- An offset in a cluster page is the low word of a counter pair (R139). -/
def clusterCtr (o : Nat) : Bool :=
  [0x08, 0x10, 0x18, 0x20, 0x30].contains o || (0x80 ≤ o && o < 0x100 && o % 8 == 0) || (0x108 ≤ o && o < 0x200 && o % 16 == 8)

/-- An offset in a field's window past its cluster pages is the low word of a counter pair (R224, R250, R460, R480). -/
def fieldCtr (o : Nat) : Bool := [0x32010, 0x32018, 0x32020, 0x33008, 0x33010, 0x34010, 0x34018, 0x35008, 0x35010].contains o

/-- An entry of a table holds a counter pair at one of the given offsets. -/
def entryCtr (e : Option (Nat × Nat)) (l : List Nat) : Bool := match e with | some (_, o) => l.contains o | none => false

/-- An offset is the low word of a counter pair (R140, R188, R223, R249, R292, R301, R335, R365, R394, R415, R437, R479). -/
def isCounter (off : Nat) : Bool :=
  off == offBadAccess || off == offDbBad || entryCtr (entryOff 0x101000 64 64 off) [0x20]
    || entryCtr (entryOff 0x400000 0x1000 64 off) [0x18, 0x20, 0x28, 0x200, 0x300, 0x308, 0x310, 0x318, 0x320, 0x328, 0x330]
    || (match blockOff fabBase 0x100 off with | some o => [0x30, 0x38, 0x40, 0x48, 0x58, 0x60].contains o | none => false)
    || (match blockOff memBase 0x100 off with | some o => [0x30, 0x38, 0x40].contains o | none => false)
    || entryCtr (entryOff (memBase + 0x800) 64 32 off) [0x08, 0x10, 0x18, 0x20, 0x28]
    || entryCtr (entryOff (mediaBase + 0x1000) 0x100 16 off) [0x30, 0x38, 0x40]
    || entryCtr (entryOff (mediaBase + 0x30000) 64 1024 off) [0x08, 0x10, 0x18, 0x20, 0x28]
    || off == towBase + 0x10 || entryCtr (entryOff (towBase + 0x100) 0x80 16 off) [0x10, 0x18, 0x20]
    || entryCtr (entryOff (towBase + 0x1000) 32 256 off) [0x18]
    || (match blockOff integBase 0x100 off with | some o => [0x08, 0x10, 0x18, 0x20].contains o | none => false)
    || off == offRewax
    || (match clusterAt off with | some (_, o) => clusterCtr o | none => false)
    || (match fieldOff off with | some (_, o) => fieldCtr o | none => false)

/-- A function may write an offset of its BAR0 (R139, R223, R292, R299, R301, R335, R415): a physical function everywhere; a virtual
one in its own entry, set and clusters. -/
def State.mayWrite (s : State) (f off : Nat) : Bool :=
  isPF f || off < 0x100000
    || (match entryOff 0x101000 64 64 off with | some (g, _) => g == f | none => false)
    || (match entryOff 0x400000 0x1000 64 off with | some (g, _) => g == f | none => false)
    || (0x200000 ≤ off && off < 0x200080)
    || (match clusterAt off with | some (i, _) => (s.clu i).owner == some f | none => false)

/-- A function sees an offset of its BAR0 (R139, R223, R292, R299, R301, R335, R415): a physical function sees all; a virtual one what it
may write, its own MSI-X table, quota, twin settings and count of packets in flight, and the lineage of its own clusters. -/
def State.sees (s : State) (f off : Nat) : Bool :=
  s.mayWrite f off
    || (0x180000 ≤ off && off < 0x200000)
    || (match entryOff (memBase + 0x100) 16 64 off with | some (g, _) => g == f | none => false)
    || (match entryOff (integBase + 0x100) 16 64 off with | some (g, _) => g == f | none => false)
    || (match entryOff (fabBase + 0x100) 8 64 off with | some (g, _) => g == f | none => false)
    || off == integBase + 0x44 || (integBase + 0x8000 ≤ off && off < integBase + 0x10000)

/-! ### Counters -/

/-- The key of a function's latch for an offset (R534). -/
def latchKey (f off : Nat) : Nat := 64 * off + f

/-- A 64-bit register whose high word is latched: GEN_UPTIME and MGMT_RESET_TIME (R300, R515, R534). -/
def State.wideReg (s : State) (off : Nat) : Option Nat :=
  if off = 0x10 then some s.now else if off = mgmtBase + 0x10 then some s.mgmt.resetTime else none

/-- The two words of a register whose high word is latched, at the offset of its low word (R140, R534). -/
def State.pairWords (s : State) (off : Nat) : Option (W32 × W32) :=
  match s.wideReg off with
  | some t => some (BitVec.ofNat 32 t, BitVec.ofNat 32 (t / 4294967296))
  | none => if isCounter off then some ((s.ctr off).low, (s.ctr off).high) else none

/-- A write of the high word of a counter pair (R140, R510, R511). -/
def Counter.write (c : Counter) (v : W32) : Counter :=
  if bitOf v.toNat 30 then {} else if bitOf v.toNat 31 then { c with ovf := false } else c

/-- COUNTER_CLEAR (R140, R511, R512): `off` is that of the counter's low word. -/
def execCounterClear (f : Func) (off : Fin 67108864) (s : State) : Res :=
  if s.reaches f.val && isCounter off.val && s.mayWrite f.val off.val then .next (s.setCtr off.val {}) else .next s

/-! ### Registers without behaviour of their own -/

/-- The bits of a plain register that a write sets (R4, R223, R292, R415, R437, R479), none for an offset that is no such register. -/
def plainMask (off : Nat) : Option W32 :=
  if off = fabBase + 0x20 then some 0x00000FFF
  else if off = fabBase + 0x24 then some 0x0000FFFF
  else if off = fabBase + 0x50 then some 0xFFFF000F
  else if off = memBase + 0x08 then some 0x80FFFFFF
  else if off = towBase + 0x0C then some 0x0000FFFF
  else if off = integBase then some 0x8F001FFF
  else if off = integBase + 0x30 then some 0x0000FFFF
  else if off = pwrBase + 0x70 then some 0xFFFFFFFF
  else match entryOff (memBase + 0x100) 16 64 off with
    | some (_, 0) => some 0x001FFFFF
    | some (_, 8) => some 0x0000FFFF
    | _ => match entryOff (integBase + 0x100) 16 64 off with
      | some (_, 0) => some 0x8000FFFF
      | some (_, 4) => some 0x0000FFFF
      | _ => match fieldOff off with
        | some (_, 0x32008) => some 0xFFFF00FF
        | _ => none

/-- A register of a media port that only MEDIA_LOCK guards: its addresses (R365). -/
def mediaPlain (off : Nat) : Bool :=
  match entryOff (mediaBase + 0x1000) 0x100 16 off with
  | some (_, o) => o == 0x08 || (0x10 ≤ o && o < 0x20)
  | none => false

/-! ### Reads -/

/-- The word of a register that is neither a counter nor plain, in the block where it lies (R299). -/
def State.blockWord (s : State) (f o : Nat) : Nat :=
  if o < 0x100000 then s.genWord o
  else if o < 0x200000 then s.hifWord f (o - 0x100000)
  else if o < 0x400000 then s.ringWord f (o - 0x200000)
  else if o < fabBase then (match entryOff 0x400000 0x1000 64 o with | some (t, k) => s.partRegs t k | none => 0)
  else if o < memBase then s.fabWord (o - fabBase)
  else if o < mediaBase then s.memWord (o - memBase)
  else if o < towBase then s.mediaWord (o - mediaBase)
  else if o < integBase then s.towWord (o - towBase)
  else if o < pwrBase then s.integWord f (o - integBase)
  else if o < secBase then s.pwrWord (o - pwrBase)
  else if o < mgmtBase then s.secWord (o - secBase)
  else if o < 0x2800000 then s.mgmtWord (o - mgmtBase)
  else match clusterAt o, fieldOff o with
    | some (i, k), _ => s.clusterWord i k
    | none, some (fld, k) => s.fieldWord fld k
    | none, none => 0

/-- A register that holds what is written to it and shows nothing else (R4). -/
def plainReg (o : Nat) : Bool :=
  ((plainMask o).isSome || mediaPlain o) && !(match entryOff (integBase + 0x100) 16 64 o with | some (_, 0) => true | _ => false)

/-- What a 4-byte read returns to a function (R4, R5, R299, R534): nothing of what the function does not see; for the high word of a
latched pair the function's latch, or the live word where it has none. -/
def State.readReg (s : State) (f o : Nat) : W32 :=
  if !s.sees f o then 0
  else
    match s.pairWords o, (if 4 ≤ o then s.pairWords (o - 4) else none) with
    | some (lo, _), _ => lo
    | none, some (_, hi) => (Tab.get none s.latch (latchKey f (o - 4))).getD hi
    | none, none => if plainReg o then s.reg o else BitVec.ofNat 32 (s.blockWord f o)

/-- The value that a read returns: INTEG_LIN_DATA is read by 8 bytes, every other register by 4 (R415). (DESIGN CHOICE, log 13) -/
def State.readValue (s : State) (f o : Nat) : W64 :=
  if integBase + 0x8000 ≤ o ∧ o < integBase + 0x10000 ∧ o % 8 = 0 then (s.readReg f (o + 4)) ++ (s.readReg f o)
  else (s.readReg f o).zeroExtend 64

/-- COUNTER_LOW_READ (R140, R299, R534): a read of a register returns its value; that of the low word of a latched pair loads the
function's latch with the high word. (DESIGN CHOICE, log 11) -/
def execCounterLowRead (f : Func) (off : Fin 67108864) (s : State) : Res :=
  let o := off.val
  if !s.reaches f.val then .next s
  else if o % 4 ≠ 0 then execBarBadAccess f 0 false o 4 s
  else
    let t := match s.pairWords o with
      | some (_, hi) => if s.sees f.val o then { s with latch := Tab.put none s.latch (latchKey f.val o) (some hi) } else s
      | none => s
    .next (t.emit (.value f.val (s.readValue f.val o)))

/-! ### Writes -/

/-- Replace four bytes. -/
def patch4 (l : List W8) (o : Nat) (v : W32) : List W8 := l.take o ++ leBytes 4 v.toNat ++ l.drop (o + 4)

/-- The two halves of a 64-bit register. -/
def setLow (w : W64) (v : W32) : W64 := BitVec.ofNat 64 (4294967296 * (w.toNat / 4294967296) + v.toNat)
def setHigh (w : W64) (v : W32) : W64 := BitVec.ofNat 64 (w.toNat % 4294967296 + 4294967296 * v.toNat)

/-- A command register takes a write of the code zero (R4, R536): its command fields take the value and STATUS stays. BUSY ignores it. -/
def CmdReg.idle (c : CmdReg) (field : W32) : CmdReg := if c.busy then c else { c with field := field }

/-- A command register takes a write of a reserved code (R536): STATUS alone changes. BUSY ignores it. -/
def CmdReg.refuse (c : CmdReg) : CmdReg := if c.busy then c else { c with status := stIllegal }

/-- The writable bits of MEM_PAGE_ENTRY's high word (R292). -/
def entryMask : W64 := 0x7FFFFFFE00000000

/-- A write to word k of a function's MSI-X table (R294); a vector that it unmasks sends its pending message. (PRESUMED, log 157) -/
def State.writeMsix (s : State) (f k : Nat) (v : W32) : State :=
  let mask : W32 := if k % 4 = 0 then 0xFFFFFFFC else if k % 4 = 3 then 1 else 0xFFFFFFFF
  let t := { s with hst := { s.hst with msix := Tab.put (msixReset k) s.hst.msix (8192 * f + k) (v &&& mask) } }
  if Tab.get false t.hst.pba (2048 * f + k / 4) && !t.masked f (k / 4) then
    { t with hst := { t.hst with pba := Tab.put false t.hst.pba (2048 * f + k / 4) false } }.emit (.msix f (k / 4))
  else t

/-- A write to the HIF block (R294, R301, R302). -/
def State.writeHif (s : State) (f : Func) (off : Nat) (v : W32) : Res :=
  if off = 0x100000 then (if bitOf v.toNat 31 then execHifLock f s else .next s)
  else if 0x180000 ≤ off ∧ off < 0x180000 + 16 * vectorsOf f.val then .next (s.writeMsix f.val ((off - 0x180000) / 4) v)
  else match entryOff 0x101000 64 64 off with
    | none => .next s
    | some (g, o) =>
      let e := s.fent g
      let word : W64 := BitVec.ofNat 64 (e.base + 4294967296 * e.count)
      if o = 0x08 then execHifFuncRingsWrite f (Fin.ofNat 64 g) (setLow word v) s
      else if o = 0x0C then execHifFuncRingsWrite f (Fin.ofNat 64 g) (setHigh word v) s
      else if o = 0x10 then
        (if g = f.val then .next (s.modFent g (fun e => { e with evring := v.toNat % 1048576 })) else .next s)
      else if o = 0x18 then
        (if s.writesEntry f.val g then
          .next (s.modFent g (fun e => { e with bar4Base := 4294967296 * (e.bar4Base / 4294967296) + 1073741824 * (v.toNat / 1073741824) }))
        else .next s)
      else if o = 0x1C then
        (if s.writesEntry f.val g then
          .next (s.modFent g (fun e => { e with bar4Base := e.bar4Base % 4294967296 + 4294967296 * (v.toNat % 1024) }))
        else .next s)
      else .next s

/-- A write to the RING block, at an offset within it (R305, R536); the offsets of the blocks below likewise. -/
def State.writeRing (s : State) (f : Func) (o : Nat) (v : W32) : Res :=
  if o = 0 then .next (s.modRwin f.val (fun w => { w with sel := v }))
  else if o = 8 then
    match v.toNat / 2 ^ 30 with
    | 0 => .next (s.modRwin f.val (fun w => { w with cmd := w.cmd.idle 0 }))
    | 1 => execRingRead f s
    | 2 => execRingWrite f s
    | _ => .next (s.modRwin f.val (fun w => { w with cmd := w.cmd.refuse }))
  else if 0x40 ≤ o ∧ o < 0x80 then .next (s.modRwin f.val (fun w => { w with data := patch4 w.data (o - 0x40) v }))
  else .next s

/-- A write to the PART block (R333, R335). (DEDUCED, log 16) -/
def State.writePart (s : State) (f : Func) (off : Nat) (v : W32) : Res :=
  match entryOff 0x400000 0x1000 64 off with
  | none => .next s
  | some (t, o) =>
    if o = 0x08 then
      match v.toNat / 2 ^ 30 with
      | 1 => execPartitionReset f (Fin.ofNat 64 t) s
      | 2 => execAssign f (Fin.ofNat 64 t) s
      | 3 => execRelease f (Fin.ofNat 64 t) s
      | _ => if s.partWrites f.val t then .next (s.modPart t (fun p => { p with cmd := p.cmd.idle 0 })) else .next s
    else if o = 0x10 then .next (s.modPart t (fun p => { p with rect := v }))
    else .next s

/-- A write to FAB_FIELD_CMD (R217, R223, R536). -/
def State.writeFieldCmd (s : State) (f : Func) (v : W32) : Res :=
  let fld : FieldIx := Fin.ofNat 64 (bits v.toNat 29 24)
  match v.toNat / 2 ^ 30 with
  | 1 => execMarkOutOfService f fld s
  | 2 => execReturnToService f fld s
  | 3 => execFieldFabricReset f fld s
  | _ => .next (s.modFab (fun b => { b with fieldCmd := b.fieldCmd.idle (v &&& 0x3F000000) }))

/-- A write to MEM_PAGE_CMD (R289, R292, R536): an operation starts with GROUP as written. -/
def State.writePageCmd (s : State) (f : Func) (v : W32) : Res :=
  let g : VGroup := Fin.ofNat 256 (bits v.toNat 27 20)
  let t := s.modMem (fun m => { m with cmd := m.cmd.idle (v &&& 0x0FF00000) })
  match v.toNat / 2 ^ 28 with
  | 0 => .next t
  | 1 => execAllocPage f t
  | 2 => execFreePage f t
  | 3 => execSetPage f t
  | 4 => execSealGroup f g t
  | 5 => execOpenGroup f g t
  | _ => .next (s.modMem (fun m => { m with cmd := m.cmd.refuse }))

/-- A write to the MEM block (R289, R292). -/
def State.writeMem (s : State) (f : Func) (o : Nat) (v : W32) : Res :=
  if o = 0x10 then execMemPageSelWrite f v s
  else if o = 0x1C then
    .next (s.modMem (fun m => { m with entry := (m.entry &&& ~~~entryMask) ||| (setHigh 0 v &&& entryMask) }))
  else if o = 0x20 then s.writePageCmd f v
  else if o = 0x2C then
    (if bitOf v.toNat 31 then .next (s.modMem (fun m => { m with ueLog := { m.ueLog with valid := false } })) else .next s)
  else .next s

/-- A write to the MEDIA block (R349, R365). -/
def State.writeMedia (s : State) (f : Func) (off : Nat) (v : W32) : Res :=
  if off = mediaBase then (if bitOf v.toNat 31 then execMediaLock f s else .next s)
  else match entryOff (mediaBase + 0x1000) 0x100 16 off with
    | some (p, o) =>
      if o = 0 then execMediaPortCfgWrite f (Fin.ofNat 16 p) v s
      else if o = 0x20 then
        .next ((s.modMport p (fun m => { m with ptpEn := bitOf v.toNat 31, domain := bits v.toNat 30 24, ptpV6 := bitOf v.toNat 23,
                                                annTo := bits v.toNat 18 16, holdmax := v.toNat % 65536 })).ptpStop p (bitOf v.toNat 31))
      else if mediaPlain off && !s.media.lock then .next (s.setReg off v)
      else .next s
    | none => match entryOff (mediaBase + 0x10000) 128 1024 off with
      | some (c, o) =>
        let raw := (s.ctx c).raw
        execMediaCtxWrite f (Fin.ofNat 1024 c) (patch4 (if raw = [] then List.replicate 128 0 else raw) o v) s
      | none => .next s

/-- A write to a version group's registers (R378, R379, R394, R536). -/
def State.writeVg (s : State) (f : Func) (g o : Nat) (v : W32) : Res :=
  if o = 0x00 then .next (s.modTgroup g (fun x => { x with table := setLow x.table v }))
  else if o = 0x04 then .next (s.modTgroup g (fun x => { x with table := setHigh x.table (v &&& 0x3FF) }))
  else if o = 0x08 then .next (s.modTgroup g (fun x => { x with nelem := v }))
  else if o = 0x0C then
    match v.toNat / 2 ^ 30 with
    | 0 => .next (s.modTgroup g (fun x => { x with cmd := x.cmd.idle 0 }))
    | 1 => execTowVgLoad f (Fin.ofNat 256 g) s
    | 2 => execTowVgClear f (Fin.ofNat 256 g) s
    | _ => .next (s.modTgroup g (fun x => { x with cmd := x.cmd.refuse }))
  else .next s

/-- A write to the TOW block (R394). -/
def State.writeTow (s : State) (f : Func) (o : Nat) (v : W32) : Res :=
  let n := v.toNat
  if o = 0 then (if bitOf n 31 then execTowLock f s else .next s)
  else if o = 0x08 then
    (if s.tow.lock then .next s
     else .next { s with tow := { s.tow with engineId := n / 2 ^ 28, etype := BitVec.ofNat 16 n } })
  else if 0x40 ≤ o ∧ o < 0x80 then
    (if s.tow.lock then .next s
     else .next { s with tow := { s.tow with route := Tab.put 0 s.tow.route ((o - 0x40) / 4) (v &&& 0x800003FF) } })
  else match entryOff 0x100 0x80 16 o with
    | some (p, k) =>
      if s.tow.lock then .next s
      else if k = 0 then .next (s.modTport p (fun t => { t with dim := bitOf n 31, dateline := bitOf n 30 }))
      else if k = 0x08 then .next (s.modTport p (fun t => { t with mac := some (BitVec.ofNat 48 (2 ^ 32 * ((t.portMac p).toNat / 2 ^ 32) + n)) }))
      else if k = 0x0C then .next (s.modTport p (fun t => { t with mac := some (BitVec.ofNat 48 ((t.portMac p).toNat % 2 ^ 32 + 2 ^ 32 * (n % 65536))) }))
      else .next s
    | none => match entryOff 0x1000 32 256 o with
      | some (g, k) => s.writeVg f g k v
      | none => .next s

/-- A write to the INTEG block (R413, R415, R536). -/
def State.writeInteg (s : State) (f : Func) (o : Nat) (v : W32) : Res :=
  if o = 0x34 then
    match v.toNat / 2 ^ 30 with
    | 0 => .next { s with integ := { s.integ with quar := s.integ.quar.idle 0 } }
    | 1 => execQuarantine f s
    | 2 => execReturnToSpare f s
    | _ => .next { s with integ := { s.integ with quar := s.integ.quar.refuse } }
  else if o = 0x40 then execIntegLinSelWrite f v s
  else .next s

/-- A write to the PWR block (R459, R479, R536). -/
def State.writePwr (s : State) (f : Func) (o : Nat) (v : W32) : Res :=
  if o = 0 then
    match v.toNat / 2 ^ 24 with
    | 0 => .next { s with pwr := { s.pwr with mbox := s.pwr.mbox.idle 0 } }
    | 1 => execFabricBin f s
    | 2 => execRegionOn f s
    | 3 => execRewaxNow f s
    | _ => .next { s with pwr := { s.pwr with mbox := s.pwr.mbox.refuse } }
  else if o = 0x08 then .next { s with pwr := { s.pwr with arg := v &&& 0x3F000001 } }
  else .next s

/-- A write to the SEC block (R487, R499, R536). -/
def State.writeSec (s : State) (f : Func) (o : Nat) (v : W32) : Res :=
  if o = 0x08 then
    let t : State := { s with sec := { s.sec with mbox := s.sec.mbox.idle (v &&& 0x00F00000) } }
    match v.toNat / 2 ^ 24 with
    | 0 => .next t
    | 1 => execStage f t
    | 2 => execCancel f (Fin.ofNat 16 (bits v.toNat 23 20)) t
    | _ => .next { s with sec := { s.sec with mbox := s.sec.mbox.refuse } }
  else if o = 0x10 then .next { s with sec := { s.sec with addr := setLow s.sec.addr v } }
  else if o = 0x14 then .next { s with sec := { s.sec with addr := setHigh s.sec.addr (v &&& 0x3FF) } }
  else if o = 0x18 then .next { s with sec := { s.sec with len := v } }
  else if o = 0x20 then
    (if bitOf v.toNat 31 then .next { s with sec := { s.sec with reject := { s.sec.reject with valid := false } } } else .next s)
  else .next s

/-- A write to a cluster's page (R118, R139): the bits that a 1 clears. -/
def State.writeCluster (s : State) (i o : Nat) (v : W32) : Res :=
  if !bitOf v.toNat 31 then .next s
  else if o = 0x28 then .next (s.modClu i (fun c => { c with dmaErr := { c.dmaErr with valid := false } }))
  else if 0x100 ≤ o ∧ o < 0x200 ∧ o % 16 = 0 then
    .next (s.modClu i (fun c => c.modCore ((o - 0x100) / 16) (fun k => { k with fault := { k.fault with valid := false } })))
  else .next s

/-- A write to a register that is neither a counter nor plain, in the block where it lies. -/
def State.writeBlock (s : State) (f : Func) (o : Nat) (value : W32) : Res :=
  if 0x400000 ≤ o ∧ o < 0x800000 then s.writePart f o value
  else if o = fabBase + 0x18 then s.writeFieldCmd f value
  else if memBase ≤ o ∧ o < mediaBase then s.writeMem f (o - memBase) value
  else if mediaBase ≤ o ∧ o < towBase then s.writeMedia f o value
  else if towBase ≤ o ∧ o < integBase then s.writeTow f (o - towBase) value
  else if integBase ≤ o ∧ o < pwrBase then s.writeInteg f (o - integBase) value
  else if pwrBase ≤ o ∧ o < secBase then s.writePwr f (o - pwrBase) value
  else if secBase ≤ o ∧ o < mgmtBase then s.writeSec f (o - secBase) value
  else match clusterAt o with
    | some (i, k) => s.writeCluster i k value
    | none => .next s

/-- REGISTER_WRITE (R4, R5, R140, R299, R345, R536): a 4-byte write. A write to a command register starts the command that its code
names; what the function may not write, and what is read only, is unchanged. (DESIGN CHOICE, log 13; DESIGN CHOICE, log 14) -/
def execRegisterWrite (f : Func) (off : Fin 67108864) (value : W32) (s : State) : Res :=
  let o := off.val
  if !s.reaches f.val then .next s
  else if o % 4 ≠ 0 then execBarBadAccess f 0 true o 4 s
  else if 0x100000 ≤ o ∧ o < 0x200000 ∧ !(4 ≤ o && isCounter (o - 4)) then s.writeHif f o value
  else if 0x200000 ≤ o ∧ o < 0x400000 then s.writeRing f (o - 0x200000) value
  else if integBase ≤ o ∧ o < pwrBase ∧ o = integBase + 0x40 then s.writeInteg f (o - integBase) value
  else if !s.mayWrite f.val o then .next s
  else if 4 ≤ o ∧ isCounter (o - 4) then .next (s.setCtr (o - 4) ((s.ctr (o - 4)).write value))
  else match plainMask o with
    | some m => .next (s.setReg o (value &&& m))
    | none => s.writeBlock f o value

end Sys2Proof.Machine
end

