-- ==== Sys2Proof/Machine/Scalar.lean ====
section
/-! DEFINITION. Block decisions and the scalar instructions of a core (R87 to R100, R113 to R116). -/
namespace Sys2Proof.Machine

/-- The code of an ALU function (R96). -/
def aluCode : AluFn → Nat
  | .add => 0 | .sub => 1 | .and => 2 | .or => 3 | .xor => 4 | .shl => 5 | .shr => 6 | .sra => 7 | .mul => 8
  | .slt => 9 | .sltu => 10

/-- The code of a branch condition (R96). -/
def condCode : Cond → Nat
  | .eq => 0 | .ne => 1 | .lt => 2 | .ge => 3 | .ltu => 4 | .geu => 5 | .always => 6

/-- The result of an ALU function; shifts use the low five bits of the second operand (R96). -/
def aluResult (fn : AluFn) (a b : W32) : W32 :=
  match fn with
  | .add => a + b
  | .sub => a - b
  | .and => a &&& b
  | .or => a ||| b
  | .xor => a ^^^ b
  | .shl => a <<< (b.toNat % 32)
  | .shr => a >>> (b.toNat % 32)
  | .sra => a.sshiftRight (b.toNat % 32)
  | .mul => a * b
  | .slt => if a.slt b then 1 else 0
  | .sltu => if a.ult b then 1 else 0

/-- Whether a branch condition holds (R96). -/
def condHolds (c : Cond) (a b : W32) : Bool :=
  match c with
  | .eq => a == b
  | .ne => a != b
  | .lt => a.slt b
  | .ge => !a.slt b
  | .ltu => a.ult b
  | .geu => !a.ult b
  | .always => true

/-- A gate of a block-table entry passes for a counter value (R90). -/
def gatePasses (cond : Nat) (k : W32) : Bool :=
  if cond = 0 then true else if cond = 1 then k != 0 else if cond = 2 then k == 0 else 0 < k.toInt

/-- Block-table entry `e` of core `n` is valid and ready (R90, R91). -/
def Cluster.blockReady (c : Cluster) (n e : Nat) : Bool :=
  let k := c.getCore n
  let w0 := (Tab.get 0#32 k.imem (2 * e)).toNat
  let w1 := (Tab.get 0#32 k.imem (2 * e + 1)).toNat
  let depth := bits w1 11 10 + 1
  bitOf w0 31
    && gatePasses (bits w1 5 4) (k.ctr (bits w1 7 6))
    && gatePasses (bits w1 1 0) (k.ctr (bits w1 3 2))
    && (List.range 8).all (fun p => !bitOf w0 (8 + p) ||
        (match c.inPort n p with | some q => depth ≤ (c.getQueue q).toks.length | none => false))
    && (List.range 8).all (fun p => !bitOf w0 p ||
        (match c.outPort n p with | some q => depth ≤ (c.getQueue q).room | none => false))

/-- The entry that a decision selects: the ready one of lowest index (R92). -/
def Cluster.decide (c : Cluster) (n : Nat) : Option Nat := (List.range 32).find? (c.blockReady n)

/-- START of a block-table entry (R90). -/
def Core.blockStart (k : Core) (e : Nat) : Nat := bits (Tab.get 0#32 k.imem (2 * e)).toNat 27 16

/-- A decision reads the block table: its words with a single-bit error are corrected, written back and counted (R89, R90). -/
def State.tableRead (s : State) (r : CoreRef) : State :=
  let n := ((s.core r).imemSoft.filter (· < 64)).length
  if n = 0 then s
  else (s.modCore r (fun k => { k with imemSoft := k.imemSoft.filter (64 ≤ ·) })).bump (offCoreCorr (Site.idx r.site) r.n.val) n

/-- BLOCK_DECISION (R92, R93): a running core that executes no block and has not executed DONE starts the selected block. An
uncorrectable word of the block table raises ECC (R89). (DEDUCED, log 24) -/
def execBlockDecision (r : CoreRef) (s : State) : Res :=
  let k := s.core r
  if s.clocked (Site.idx r.site) && k.seq == .running && !k.inBlock && !k.done then
    match k.imemBad.find? (· < 64) with
    | some w => .next (s.coreFaultAt r (BitVec.ofNat 12 w) .ecc)
    | none =>
      match (s.clu (Site.idx r.site)).decide r.n.val with
      | some e => .next ((s.tableRead r).modCore r (fun k =>
          { k with pc := BitVec.ofNat 12 (k.blockStart e), block := BitVec.ofNat 5 e, inBlock := true }))
      | none => .next s
  else .next s

/-- ALU (R96). -/
def execAlu (r : CoreRef) (fn : AluFn) (gd ga gb : GReg) (s : State) : Res :=
  .next (s.scalar r (wordT 0x01 gd ga gb (aluCode fn)) (fun k => k.setReg gd.val (aluResult fn (k.reg ga.val) (k.reg gb.val))))

/-- ADDI (R96). -/
def execAddi (r : CoreRef) (gd ga : GReg) (imm : BitVec 18) (s : State) : Res :=
  .next (s.scalar r (wordI 0x02 gd ga imm) (fun k => k.setReg gd.val (k.reg ga.val + imm.signExtend 32)))

/-- ANDI (R96). -/
def execAndi (r : CoreRef) (gd ga : GReg) (imm : BitVec 18) (s : State) : Res :=
  .next (s.scalar r (wordI 0x03 gd ga imm) (fun k => k.setReg gd.val (k.reg ga.val &&& imm.zeroExtend 32)))

/-- ORI (R96). -/
def execOri (r : CoreRef) (gd ga : GReg) (imm : BitVec 18) (s : State) : Res :=
  .next (s.scalar r (wordI 0x04 gd ga imm) (fun k => k.setReg gd.val (k.reg ga.val ||| imm.zeroExtend 32)))

/-- XORI (R96). -/
def execXori (r : CoreRef) (gd ga : GReg) (imm : BitVec 18) (s : State) : Res :=
  .next (s.scalar r (wordI 0x05 gd ga imm) (fun k => k.setReg gd.val (k.reg ga.val ^^^ imm.zeroExtend 32)))

/-- LUI (R96). -/
def execLui (r : CoreRef) (gd : GReg) (imm : BitVec 18) (s : State) : Res :=
  .next (s.scalar r (wordI 0x06 gd 0 imm) (fun k => k.setReg gd.val (imm.zeroExtend 32 <<< 14)))

/-- SLTI (R96). -/
def execSlti (r : CoreRef) (gd ga : GReg) (imm : BitVec 18) (s : State) : Res :=
  .next (s.scalar r (wordI 0x07 gd ga imm)
    (fun k => k.setReg gd.val (if (k.reg ga.val).slt (imm.signExtend 32) then 1 else 0)))

/-- The data address of LDW and STW (R96). -/
def State.dataAddr (s : State) (r : CoreRef) (ga : GReg) (imm : BitVec 18) : Nat :=
  ((s.core r).reg ga.val + imm.signExtend 32).toNat

/-- LDW (R88, R96, R99). -/
def execLdw (r : CoreRef) (gd ga : GReg) (imm : BitVec 18) (s : State) : Res :=
  let i := Site.idx r.site
  let c := s.clu i
  let a := s.dataAddr r ga imm
  let good := a % 4 == 0 && inData a 4
  .next (s.issue r (wordI 0x08 gd ga imm) (good && (s.core r).hazard [(a, 4)] [])
    [(good && c.dataBad r.n.val a 4, .ecc), (s.lastWord r, .pcRange), (!good, .address)]
    (c.reservedFrom r.n.val [(a, 4)])
    (fun t => (t.correctRead i r.n.val a 4).modCore r
      (fun k => (k.setReg gd.val (BitVec.ofNat 32 (c.dataNat r.n.val a 4))).advance)))

/-- STW (R88, R96, R99, R535): gd supplies the word stored. -/
def execStw (r : CoreRef) (gd ga : GReg) (imm : BitVec 18) (s : State) : Res :=
  let i := Site.idx r.site
  let c := s.clu i
  let a := s.dataAddr r ga imm
  let good := a % 4 == 0 && inData a 4
  .next (s.issue r (wordI 0x09 gd ga imm) (good && (s.core r).hazard [] [(a, 4)])
    [(s.lastWord r, .pcRange), (!good, .address)]
    (c.reservedFrom r.n.val [(a, 4)])
    (fun t => (t.modClu i (fun c => c.dataWrite r.n.val a (leBytes 4 ((c.getCore r.n.val).reg gd.val).toNat))).modCore r
      Core.advance))

/-- The target of a branch (R96). -/
def State.target (s : State) (r : CoreRef) (off : BitVec 15) : Int := (s.core r).pc.toNat + off.toInt

/-- BR (R96, R98). -/
def execBr (r : CoreRef) (cond : Cond) (ga gb : GReg) (off : BitVec 15) (s : State) : Res :=
  let k := s.core r
  let taken := condHolds cond (k.reg ga.val) (k.reg gb.val)
  let t := s.target r off
  .next (s.issue r (wordB (condCode cond) ga gb off) false
    [(if taken then decide (t < 64) || decide (4095 < t) else s.lastWord r, .pcRange)] false
    (fun u => u.modCore r (fun k => if taken then { k with pc := BitVec.ofInt 12 t } else k.advance)))

/-- END (R93, R98): the block ends. -/
def execEndBlock (r : CoreRef) (s : State) : Res :=
  .next (s.issue r (wordZ 0x0D 0 0) false [] false (fun t => t.modCore r (fun k => { k with inBlock := false })))

/-- DONE (R94, R98): the block ends and the core makes no further decision. (DEDUCED, log 26) -/
def execDone (r : CoreRef) (s : State) : Res :=
  .next (s.issue r (wordZ 0x0E 0 0) false [] false
    (fun t => t.modCore r (fun k => { k with inBlock := false, done := true })))

/-- The head token of an input port. -/
def Cluster.head (c : Cluster) (n p : Nat) : Option W32 :=
  match c.inPort n p with
  | some q => (c.getQueue q).toks.head?.map Token.data
  | none => none

/-- POP (R93, R96): the head token of the input port is removed into g; an empty queue stalls. -/
def execPop (r : CoreRef) (g : GReg) (q : QPort) (s : State) : Res :=
  let i := Site.idx r.site
  let c := s.clu i
  .next (s.issue r (wordQ 0x10 g.val q.val 0 0) false
    [(s.lastWord r, .pcRange), ((c.inPort r.n.val q.val).isNone, .queue)]
    (c.head r.n.val q.val).isNone
    (fun t =>
      match c.inPort r.n.val q.val, c.head r.n.val q.val with
      | some j, some v => (t.modClu i (fun c => c.dequeue j)).modCore r (fun k => (k.setReg g.val v).advance)
      | _, _ => t))

/-- PUSH (R93, R96, R142): a token with data word g goes to the output port; a full queue stalls. -/
def execPush (r : CoreRef) (g : GReg) (q : QPort) (s : State) : Res :=
  let i := Site.idx r.site
  let c := s.clu i
  .next (s.issue r (wordQ 0x11 g.val q.val 0 0) false
    [(s.lastWord r, .pcRange), ((c.outPort r.n.val q.val).isNone, .queue)]
    (match c.outPort r.n.val q.val with | some j => (c.getQueue j).room == 0 | none => false)
    (fun t =>
      match c.outPort r.n.val q.val with
      | some j => (t.modClu i (fun c => c.enqueue j ((c.getCore r.n.val).reg g.val))).modCore r Core.advance
      | none => t))

/-- PEEK (R96): as POP, and the token stays. -/
def execPeek (r : CoreRef) (g : GReg) (q : QPort) (s : State) : Res :=
  let c := s.clu (Site.idx r.site)
  .next (s.issue r (wordQ 0x12 g.val q.val 0 0) false
    [(s.lastWord r, .pcRange), ((c.inPort r.n.val q.val).isNone, .queue)]
    (c.head r.n.val q.val).isNone
    (fun t =>
      match c.head r.n.val q.val with
      | some v => t.modCore r (fun k => (k.setReg g.val v).advance)
      | none => t))

/-- KSET (R96). -/
def execKset (r : CoreRef) (g : GReg) (kr : KReg) (imm : W16) (s : State) : Res :=
  .next (s.scalar r (wordQ 0x14 g.val 0 kr.val imm) (fun k => k.setCtr kr.val (k.reg g.val + imm.signExtend 32)))

/-- KADD (R96). -/
def execKadd (r : CoreRef) (g : GReg) (kr : KReg) (imm : W16) (s : State) : Res :=
  .next (s.scalar r (wordQ 0x15 g.val 0 kr.val imm)
    (fun k => k.setCtr kr.val (k.ctr kr.val + k.reg g.val + imm.signExtend 32)))

/-- KGET (R96). -/
def execKget (r : CoreRef) (g : GReg) (kr : KReg) (s : State) : Res :=
  .next (s.scalar r (wordQ 0x16 g.val 0 kr.val 0) (fun k => k.setReg g.val (k.ctr kr.val)))

/-- SETF (R100). -/
def execSetf (r : CoreRef) (fromReg : Bool) (fa fb : BitVec 5) (g : GReg) (s : State) : Res :=
  .next (s.scalar r (wordF fa fb g fromReg) (fun k =>
    if fromReg then
      { k with fa := BitVec.ofNat 5 (bits (k.reg g.val).toNat 4 0), fb := BitVec.ofNat 5 (bits (k.reg g.val).toNat 12 8) }
    else { k with fa := fa, fb := fb }))

/-- RDFL (R96, R112): the flags of completed instructions. -/
def execRdfl (r : CoreRef) (gd : GReg) (s : State) : Res :=
  .next (s.scalar r (wordZ 0x19 gd.val 0) (fun k => k.setReg gd.val (k.flags.zeroExtend 32)))

/-- No matrix or vector instruction of the core is incomplete. -/
def Core.settled (k : Core) : Bool := k.matQueue.isEmpty && k.matRun.isNone && k.mms.isEmpty && k.vecQueue.isEmpty

/-- SETTLE (R96, R111): waits until every earlier matrix and vector instruction has completed. -/
def execSettle (r : CoreRef) (s : State) : Res :=
  .next (s.issue r (wordZ 0x1B 0 0) false [(s.lastWord r, .pcRange)] (!(s.core r).settled)
    (fun t => t.modCore r Core.advance))

/-- ILLEGAL (R98): executing the word 0x0000_0000; nothing would continue after it, at word 4,095 too (DEDUCED). (DEDUCED, log 22) -/
def execIllegal (r : CoreRef) (s : State) : Res :=
  .next (s.issue r 0 false [(true, .illegal)] false id)

end Sys2Proof.Machine
end

