-- ==== Sys2Proof/Machine/Dispatch.lean ====
section
/-! DEFINITION. One arm per command: the call of its meaning. -/
namespace Sys2Proof.Machine

/-- The effect of a command on everything but the queue. -/
def exec (i : Instr) (s : State) : Host.Outcome State Fault Refusal :=
  match i with
  | .blockDecision c => Sys2Proof.Machine.execBlockDecision c s
  | .alu c fn gd ga gb => Sys2Proof.Machine.execAlu c fn gd ga gb s
  | .addi c gd ga imm => Sys2Proof.Machine.execAddi c gd ga imm s
  | .andi c gd ga imm => Sys2Proof.Machine.execAndi c gd ga imm s
  | .ori c gd ga imm => Sys2Proof.Machine.execOri c gd ga imm s
  | .xori c gd ga imm => Sys2Proof.Machine.execXori c gd ga imm s
  | .lui c gd imm => Sys2Proof.Machine.execLui c gd imm s
  | .slti c gd ga imm => Sys2Proof.Machine.execSlti c gd ga imm s
  | .ldw c gd ga imm => Sys2Proof.Machine.execLdw c gd ga imm s
  | .stw c gd ga imm => Sys2Proof.Machine.execStw c gd ga imm s
  | .br c cond ga gb off => Sys2Proof.Machine.execBr c cond ga gb off s
  | .endBlock c => Sys2Proof.Machine.execEndBlock c s
  | .done c => Sys2Proof.Machine.execDone c s
  | .pop c g q => Sys2Proof.Machine.execPop c g q s
  | .push c g q => Sys2Proof.Machine.execPush c g q s
  | .peek c g q => Sys2Proof.Machine.execPeek c g q s
  | .kset c g k imm => Sys2Proof.Machine.execKset c g k imm s
  | .kadd c g k imm => Sys2Proof.Machine.execKadd c g k imm s
  | .kget c g k => Sys2Proof.Machine.execKget c g k s
  | .setf c fromReg fa fb g => Sys2Proof.Machine.execSetf c fromReg fa fb g s
  | .rdfl c gd => Sys2Proof.Machine.execRdfl c gd s
  | .bar c index => Sys2Proof.Machine.execBar c index s
  | .settle c => Sys2Proof.Machine.execSettle c s
  | .xfer c gd => Sys2Proof.Machine.execXfer c gd s
  | .xferAccept site => Sys2Proof.Machine.execXferAccept site s
  | .mma c ga gb tile acc => Sys2Proof.Machine.execMma c ga gb tile acc s
  | .mms c ga gb tile acc => Sys2Proof.Machine.execMms c ga gb tile acc s
  | .mmp c ga gb tile acc => Sys2Proof.Machine.execMmp c ga gb tile acc s
  | .tzero c tile => Sys2Proof.Machine.execTzero c tile s
  | .vop c fn gd ga gb spec => Sys2Proof.Machine.execVop c fn gd ga gb spec s
  | .vcvt c gd ga gb spec1 spec2 sat sup => Sys2Proof.Machine.execVcvt c gd ga gb spec1 spec2 sat sup s
  | .spill c gd tile init => Sys2Proof.Machine.execSpill c gd tile init s
  | .illegal c => Sys2Proof.Machine.execIllegal c s
  | .passStart c => Sys2Proof.Machine.execPassStart c s
  | .unitComplete c u => Sys2Proof.Machine.execUnitComplete c u s
  | .stealChunk c => Sys2Proof.Machine.execStealChunk c s
  | .mmsApply c => Sys2Proof.Machine.execMmsApply c s
  | .branchFire site u => Sys2Proof.Machine.execBranchFire site u s
  | .mergeFire site u => Sys2Proof.Machine.execMergeFire site u s
  | .rateRepeatFire site u => Sys2Proof.Machine.execRateRepeatFire site u s
  | .rateRepeatEmit site u => Sys2Proof.Machine.execRateRepeatEmit site u s
  | .rateSkipFire site u => Sys2Proof.Machine.execRateSkipFire site u s
  | .rateSkipDiscard site u => Sys2Proof.Machine.execRateSkipDiscard site u s
  | .carryEnter site u => Sys2Proof.Machine.execCarryEnter site u s
  | .carryLoop site u => Sys2Proof.Machine.execCarryLoop site u s
  | .tokenSend site q n => Sys2Proof.Machine.execTokenSend site q n s
  | .token id => Sys2Proof.Machine.execToken id s
  | .creditReturn site q => Sys2Proof.Machine.execCreditReturn site q s
  | .creditReceive site q => Sys2Proof.Machine.execCreditReceive site q s
  | .steerStall site cycles => Sys2Proof.Machine.execSteerStall site cycles s
  | .launchComplete f cfg => Sys2Proof.Machine.execLaunchComplete f cfg s
  | .transferComplete site slot => Sys2Proof.Machine.execTransferComplete site slot s
  | .rdReq id => Sys2Proof.Machine.execRdReq id s
  | .rdData id => Sys2Proof.Machine.execRdData id s
  | .wr id => Sys2Proof.Machine.execWr id s
  | .wrAck id => Sys2Proof.Machine.execWrAck id s
  | .unreach id => Sys2Proof.Machine.execUnreach id s
  | .cfgBody c localData addr len => Sys2Proof.Machine.execCfgBody c localData addr len s
  | .flitReceive l crcGood => Sys2Proof.Machine.execFlitReceive l crcGood s
  | .linkAlivePulse l => Sys2Proof.Machine.execLinkAlivePulse l s
  | .portDead l cycles => Sys2Proof.Machine.execPortDead l cycles s
  | .outputGrant site o => Sys2Proof.Machine.execOutputGrant site o s
  | .runoutMove id cycles => Sys2Proof.Machine.execRunoutMove id cycles s
  | .tableInstall => Sys2Proof.Machine.execTableInstall s
  | .darkBitArrive site => Sys2Proof.Machine.execDarkBitArrive site s
  | .exposedTransferTimeout site slot => Sys2Proof.Machine.execExposedTransferTimeout site slot s
  | .inflightQuietReset f => Sys2Proof.Machine.execInflightQuietReset f s
  | .markOutOfService f fld => Sys2Proof.Machine.execMarkOutOfService f fld s
  | .returnToService f fld => Sys2Proof.Machine.execReturnToService f fld s
  | .fieldFabricReset f fld => Sys2Proof.Machine.execFieldFabricReset f fld s
  | .barrierRelease f cfg index => Sys2Proof.Machine.execBarrierRelease f cfg index s
  | .fold id => Sys2Proof.Machine.execFold id s
  | .foldSegmentSum site f tree round seg => Sys2Proof.Machine.execFoldSegmentSum site f tree round seg s
  | .ttInjectionEntry site entry => Sys2Proof.Machine.execTtInjectionEntry site entry s
  | .ttForward id => Sys2Proof.Machine.execTtForward id s
  | .scrub st line found => Sys2Proof.Machine.execScrub st line found s
  | .liftPrefetch st slot => Sys2Proof.Machine.execLiftPrefetch st slot s
  | .migrationWindowEnd => Sys2Proof.Machine.execMigrationWindowEnd s
  | .migrationMove page => Sys2Proof.Machine.execMigrationMove page s
  | .allocPage f => Sys2Proof.Machine.execAllocPage f s
  | .freePage f => Sys2Proof.Machine.execFreePage f s
  | .setPage f => Sys2Proof.Machine.execSetPage f s
  | .sealGroup f group => Sys2Proof.Machine.execSealGroup f group s
  | .openGroup f group => Sys2Proof.Machine.execOpenGroup f group s
  | .memPageSelWrite f value => Sys2Proof.Machine.execMemPageSelWrite f value s
  | .bar4Read f off len => Sys2Proof.Machine.execBar4Read f off len s
  | .bar4Write f off bytes => Sys2Proof.Machine.execBar4Write f off bytes s
  | .barBadAccess f bar isWrite off size => Sys2Proof.Machine.execBarBadAccess f bar isWrite off size s
  | .registerWrite f off value => Sys2Proof.Machine.execRegisterWrite f off value s
  | .counterLowRead f off => Sys2Proof.Machine.execCounterLowRead f off s
  | .counterClear f off => Sys2Proof.Machine.execCounterClear f off s
  | .hifLock f => Sys2Proof.Machine.execHifLock f s
  | .hifFuncRingsWrite f target value => Sys2Proof.Machine.execHifFuncRingsWrite f target value s
  | .ringRead f => Sys2Proof.Machine.execRingRead f s
  | .ringWrite f => Sys2Proof.Machine.execRingWrite f s
  | .doorbell f ring value => Sys2Proof.Machine.execDoorbell f ring value s
  | .descriptorTake ring fail => Sys2Proof.Machine.execDescriptorTake ring fail s
  | .nop d => Sys2Proof.Machine.execNop d s
  | .fence d => Sys2Proof.Machine.execFence d s
  | .copy d fail => Sys2Proof.Machine.execCopy d fail s
  | .copyDone d => Sys2Proof.Machine.execCopyDone d s
  | .configLoad d => Sys2Proof.Machine.execConfigLoad d s
  | .drainEnd f cfg => Sys2Proof.Machine.execDrainEnd f cfg s
  | .drainTimeout f cfg => Sys2Proof.Machine.execDrainTimeout f cfg s
  | .configLoadDone f cfg => Sys2Proof.Machine.execConfigLoadDone f cfg s
  | .unload d => Sys2Proof.Machine.execUnload d s
  | .launch d => Sys2Proof.Machine.execLaunch d s
  | .poolDispatch d => Sys2Proof.Machine.execPoolDispatch d s
  | .frameBind d => Sys2Proof.Machine.execFrameBind d s
  | .frameUnbind d => Sys2Proof.Machine.execFrameUnbind d s
  | .stepBegin d => Sys2Proof.Machine.execStepBegin d s
  | .stepCommit d => Sys2Proof.Machine.execStepCommit d s
  | .digest d => Sys2Proof.Machine.execDigest d s
  | .digestDone d => Sys2Proof.Machine.execDigestDone d s
  | .quiesce d => Sys2Proof.Machine.execQuiesce d s
  | .quiesceComplete d => Sys2Proof.Machine.execQuiesceComplete d s
  | .resume d => Sys2Proof.Machine.execResume d s
  | .remap d => Sys2Proof.Machine.execRemap d s
  | .eventWait d => Sys2Proof.Machine.execEventWait d s
  | .eventWaitCheck d => Sys2Proof.Machine.execEventWaitCheck d s
  | .eventWaitDeadline d => Sys2Proof.Machine.execEventWaitDeadline d s
  | .timestamp d => Sys2Proof.Machine.execTimestamp d s
  | .flr f => Sys2Proof.Machine.execFlr f s
  | .hotReset h => Sys2Proof.Machine.execHotReset h s
  | .vfEnableClear h => Sys2Proof.Machine.execVfEnableClear h s
  | .partitionReset f target => Sys2Proof.Machine.execPartitionReset f target s
  | .assign f target => Sys2Proof.Machine.execAssign f target s
  | .release f target => Sys2Proof.Machine.execRelease f target s
  | .resetFlushDone f => Sys2Proof.Machine.execResetFlushDone f s
  | .resetFlushLimit f => Sys2Proof.Machine.execResetFlushLimit f s
  | .resetClearDone f => Sys2Proof.Machine.execResetClearDone f s
  | .mediaPacket p m => Sys2Proof.Machine.execMediaPacket p m s
  | .ptpSync p offset => Sys2Proof.Machine.execPtpSync p offset s
  | .ptpAnnounceTimeout p => Sys2Proof.Machine.execPtpAnnounceTimeout p s
  | .ptpHoldmax p => Sys2Proof.Machine.execPtpHoldmax p s
  | .slotDecide c => Sys2Proof.Machine.execSlotDecide c s
  | .slotRunStart c => Sys2Proof.Machine.execSlotRunStart c s
  | .slotStartArrive site => Sys2Proof.Machine.execSlotStartArrive site s
  | .ancTransmit c => Sys2Proof.Machine.execAncTransmit c s
  | .mediaCtxWrite f c bytes => Sys2Proof.Machine.execMediaCtxWrite f c bytes s
  | .mediaPortCfgWrite f p value => Sys2Proof.Machine.execMediaPortCfgWrite f p value s
  | .mediaLock f => Sys2Proof.Machine.execMediaLock f s
  | .towDataFrame p fcsGood h m => Sys2Proof.Machine.execTowDataFrame p fcsGood h m s
  | .towLinkFrame p fcsGood h => Sys2Proof.Machine.execTowLinkFrame p fcsGood h s
  | .towAckSend p => Sys2Proof.Machine.execTowAckSend p s
  | .towLinkDown p => Sys2Proof.Machine.execTowLinkDown p s
  | .towLinkUp p => Sys2Proof.Machine.execTowLinkUp p s
  | .towForward p => Sys2Proof.Machine.execTowForward p s
  | .towRacc p => Sys2Proof.Machine.execTowRacc p s
  | .towRaccAck p => Sys2Proof.Machine.execTowRaccAck p s
  | .racc id => Sys2Proof.Machine.execRacc id s
  | .raccAck id => Sys2Proof.Machine.execRaccAck id s
  | .towAckTimeout mtag => Sys2Proof.Machine.execTowAckTimeout mtag s
  | .towDone p => Sys2Proof.Machine.execTowDone p s
  | .paramUpdate g => Sys2Proof.Machine.execParamUpdate g s
  | .towParam p => Sys2Proof.Machine.execTowParam p s
  | .towParamAck p => Sys2Proof.Machine.execTowParamAck p s
  | .towVerdict p => Sys2Proof.Machine.execTowVerdict p s
  | .stepDeadline g => Sys2Proof.Machine.execStepDeadline g s
  | .towVgLoad f g => Sys2Proof.Machine.execTowVgLoad f g s
  | .towVgClear f g => Sys2Proof.Machine.execTowVgClear f g s
  | .towLock f => Sys2Proof.Machine.execTowLock f s
  | .crumbCompare site checkerBits => Sys2Proof.Machine.execCrumbCompare site checkerBits s
  | .crumbSecondCheck site secondBits => Sys2Proof.Machine.execCrumbSecondCheck site secondBits s
  | .crumbUndecided site => Sys2Proof.Machine.execCrumbUndecided site s
  | .integRateLow fld checked compared => Sys2Proof.Machine.execIntegRateLow fld checked compared s
  | .pairCompare site => Sys2Proof.Machine.execPairCompare site s
  | .pairWaitTimeout site => Sys2Proof.Machine.execPairWaitTimeout site s
  | .quarantine f => Sys2Proof.Machine.execQuarantine f s
  | .returnToSpare f => Sys2Proof.Machine.execReturnToSpare f s
  | .integLinSelWrite f value => Sys2Proof.Machine.execIntegLinSelWrite f value s
  | .linkRetrain l => Sys2Proof.Machine.execLinkRetrain l s
  | .linkRetrainEnd l found => Sys2Proof.Machine.execLinkRetrainEnd l found s
  | .serviceMapWrite => Sys2Proof.Machine.execServiceMapWrite s
  | .bringupStart => Sys2Proof.Machine.execBringupStart s
  | .bringupPhaseEnd found => Sys2Proof.Machine.execBringupPhaseEnd found s
  | .clockStep fld => Sys2Proof.Machine.execClockStep fld s
  | .fabricBin f => Sys2Proof.Machine.execFabricBin f s
  | .fabricChangeDone fld => Sys2Proof.Machine.execFabricChangeDone fld s
  | .pllLockLoss p => Sys2Proof.Machine.execPllLockLoss p s
  | .pllRelock p => Sys2Proof.Machine.execPllRelock p s
  | .feedPresent x decivolts => Sys2Proof.Machine.execFeedPresent x decivolts s
  | .feedLost x decivolts => Sys2Proof.Machine.execFeedLost x decivolts s
  | .capAdjust watts => Sys2Proof.Machine.execCapAdjust watts s
  | .capGateField watts => Sys2Proof.Machine.execCapGateField watts s
  | .capEnd => Sys2Proof.Machine.execCapEnd s
  | .capRestoreField => Sys2Proof.Machine.execCapRestoreField s
  | .quadBusLoss quads => Sys2Proof.Machine.execQuadBusLoss quads s
  | .supplyLinkLoss => Sys2Proof.Machine.execSupplyLinkLoss s
  | .supplyLinkRestore => Sys2Proof.Machine.execSupplyLinkRestore s
  | .powerUpStep => Sys2Proof.Machine.execPowerUpStep s
  | .regionShort fld => Sys2Proof.Machine.execRegionShort fld s
  | .regionOn f => Sys2Proof.Machine.execRegionOn f s
  | .interlockOpen x => Sys2Proof.Machine.execInterlockOpen x s
  | .inletTrip x => Sys2Proof.Machine.execInletTrip x s
  | .inletReclose x => Sys2Proof.Machine.execInletReclose x s
  | .sensorSample readings => Sys2Proof.Machine.execSensorSample readings s
  | .snowploughStep fld => Sys2Proof.Machine.execSnowploughStep fld s
  | .coolantSample inlet outlet flow => Sys2Proof.Machine.execCoolantSample inlet outlet flow s
  | .pdmSample site monitor raw => Sys2Proof.Machine.execPdmSample site monitor raw s
  | .thermalModelUpdate fld watts => Sys2Proof.Machine.execThermalModelUpdate fld watts s
  | .rewax => Sys2Proof.Machine.execRewax s
  | .rewaxNow f => Sys2Proof.Machine.execRewaxNow f s
  | .planApply fld => Sys2Proof.Machine.execPlanApply fld s
  | .voltageStep fld => Sys2Proof.Machine.execVoltageStep fld s
  | .hoursUpdate hours => Sys2Proof.Machine.execHoursUpdate hours s
  | .stage f => Sys2Proof.Machine.execStage f s
  | .cancel f ty => Sys2Proof.Machine.execCancel f ty s
  | .restoreRpf counters count => Sys2Proof.Machine.execRestoreRpf counters count s
  | .recoveryImage image => Sys2Proof.Machine.execRecoveryImage image s
  | .signingDone => Sys2Proof.Machine.execSigningDone s
  | .getVersion c => Sys2Proof.Machine.execGetVersion c s
  | .getCapabilities c => Sys2Proof.Machine.execGetCapabilities c s
  | .negotiateAlgorithms c => Sys2Proof.Machine.execNegotiateAlgorithms c s
  | .getDigests c => Sys2Proof.Machine.execGetDigests c s
  | .getCertificate c slot off len => Sys2Proof.Machine.execGetCertificate c slot off len s
  | .challenge c slot nonce => Sys2Proof.Machine.execChallenge c slot nonce s
  | .getMeasurements c op signed nonce => Sys2Proof.Machine.execGetMeasurements c op signed nonce s
  | .respondIfReady c => Sys2Proof.Machine.execRespondIfReady c s
  | .report c nonce => Sys2Proof.Machine.execReport c nonce s
  | .slhchain c => Sys2Proof.Machine.execSlhchain c s
  | .resetCold src => Sys2Proof.Machine.execResetCold src s
  | .resetWarm src => Sys2Proof.Machine.execResetWarm src s
  | .fullRestart src => Sys2Proof.Machine.execFullRestart src s
  | .powerOff src => Sys2Proof.Machine.execPowerOff src s
  | .powerOn src => Sys2Proof.Machine.execPowerOn src s
  | .setAutoOn src on => Sys2Proof.Machine.execSetAutoOn src on s
  | .setReserve src value => Sys2Proof.Machine.execSetReserve src value s
  | .ptpAnnounce p a => Sys2Proof.Machine.execPtpAnnounce p a s
  | .mediaLinkDown p => Sys2Proof.Machine.execMediaLinkDown p s
  | .mediaLinkUp p => Sys2Proof.Machine.execMediaLinkUp p s
  | .perstDeassert h => Sys2Proof.Machine.execPerstDeassert h s
  | .vfEnableSet h numVfs => Sys2Proof.Machine.execVfEnableSet h numVfs s
  | .atsInvalidate f addr pasid => Sys2Proof.Machine.execAtsInvalidate f addr pasid s
  | .completionTimeout d => Sys2Proof.Machine.execCompletionTimeout d s
  | .foldCreditReceive site f tree => Sys2Proof.Machine.execFoldCreditReceive site f tree s
  | .i3cEntdaa addr => Sys2Proof.Machine.execI3cEntdaa addr s
  | .mgmtPortLink up => Sys2Proof.Machine.execMgmtPortLink up s

end Sys2Proof.Machine
end

