-- ==== Sys2Proof/Machine/Step.lean ====
section
/-! DEFINITION. One step: the command at the front of the queue, or one microsecond of idling; and the queue's front
for a word of the table. -/
namespace Sys2Proof.Machine

/-- A microsecond passes: the uptime counts while the standby supply is up (R505). (DESIGN CHOICE, log 2) -/
def State.tick (s : State) : State := if s.pwr.step = .off then s else { s with now := s.now + 1 }

/-- One step: take the command at the front and run it on the state with the rest of the queue; with an empty queue, a microsecond
passes. (DESIGN CHOICE, log 1) -/
def step (s : State) : Host.Outcome State Fault Refusal :=
  match s.pending with
  | [] => .next s.tick
  | c :: rest => exec c { s with pending := rest }

/-- `s` with the command that a word spells at the front of its queue. -/
def State.withFetchWord (s : State) (nbits w : Nat) : State :=
  match decodeTableWord nbits w with
  | some c => { s with pending := c :: s.pending }
  | none => s

end Sys2Proof.Machine
end

