-- ==== Sys2Proof/Safety.lean ====
section
/-! DEFINITION. What counts as a safe run, in the terms the claims use. -/
namespace Sys2Proof.Machine

/-- Two functions' ring ranges have no ring in common (R303). -/
def FuncEntry.apart (a b : FuncEntry) : Bool := a.base + a.count ≤ b.base || b.base + b.count ≤ a.base || a.count == 0 || b.count == 0

/-- The ring ranges are as R303 keeps them: within 2^20 rings, a virtual function with at most 131,072, and no ring in two. -/
def State.ringsApart (s : State) : Prop :=
  ∀ f < 64, (s.fent f).base + (s.fent f).count ≤ 1048576 ∧ (isPF f = false → (s.fent f).count ≤ 131072) ∧
    ∀ g < 64, f ≠ g → (s.fent f).apart (s.fent g) = true

/-- Some key slot is not revoked (R484). -/
def State.slotLeft (s : State) : Prop := s.sec.revoked ≠ 0xF

/-- RESERVE lies within its range (R417). -/
def State.reserveOk (s : State) : Prop := s.boot.map.reserve ≤ 16

/-- The invariant of the engine. -/
structure State.Inv (s : State) : Prop where
  rings : s.ringsApart
  slot : s.slotLeft
  reserve : s.reserveOk

/-- A step completes: it neither faults nor is refused. -/
def State.completes (s : State) : Prop := ∃ t, step s = .next t

end Sys2Proof.Machine
end

