-- ==== Sys2Proof/Certificates/Slice0/Obligations.lean ====
section
/-! DEFINITION. The statements for the provers; each names the rules of spec/ that it comes from. -/
open Sys2Proof Sys2Proof.Machine


namespace Sys2Proof.Machine

/-- Core `r` executes the word `w` and goes on after it (R89, R92, R93, R98): the word stands at its program counter, is correctable,
and is not the last word of the instruction memory. -/
def State.runsWord (s : State) (r : CoreRef) (w : W32) : Prop :=
  s.mayIssue r w = true ∧ (s.core r).imemBad.contains (s.core r).pc.toNat = false ∧ (s.core r).pc ≠ 4095

/-- The state after core `r` has executed a word with the effect `f` on itself: a corrected word is written back (R89), and the
watchdog count of the cluster is 0 (R153). -/
def State.afterWord (s : State) (r : CoreRef) (f : Core → Core) : State := ((s.fetched r).modCore r f).progress (Site.idx r.site)

end Sys2Proof.Machine

/-- For every core that executes an ALU word, exec answers the next state in which gd holds the result of the function that R96
tabulates (shifts by the low five bits of gb, comparisons give 1 or 0), the program counter has moved to the next word, the
watchdog count is 0, and nothing else has changed. (R96 (04_compute_core), R87 (04_compute_core), R93 (04_compute_core), R95
(04_compute_core)) -/
def Obligations.AluFunctionsWriteTheirResults : Prop :=
  ∀ (s : State) (r : CoreRef) (gd ga gb : GReg),
    (s.runsWord r (wordT 0x01 gd ga gb 0) → exec (.alu r .add gd ga gb) s = .next (s.afterWord r (fun k => (k.setReg gd.val (k.reg ga.val + k.reg gb.val)).advance))) ∧
    (s.runsWord r (wordT 0x01 gd ga gb 1) → exec (.alu r .sub gd ga gb) s = .next (s.afterWord r (fun k => (k.setReg gd.val (k.reg ga.val - k.reg gb.val)).advance))) ∧
    (s.runsWord r (wordT 0x01 gd ga gb 2) → exec (.alu r .and gd ga gb) s = .next (s.afterWord r (fun k => (k.setReg gd.val (k.reg ga.val &&& k.reg gb.val)).advance))) ∧
    (s.runsWord r (wordT 0x01 gd ga gb 3) → exec (.alu r .or gd ga gb) s = .next (s.afterWord r (fun k => (k.setReg gd.val (k.reg ga.val ||| k.reg gb.val)).advance))) ∧
    (s.runsWord r (wordT 0x01 gd ga gb 4) → exec (.alu r .xor gd ga gb) s = .next (s.afterWord r (fun k => (k.setReg gd.val (k.reg ga.val ^^^ k.reg gb.val)).advance))) ∧
    (s.runsWord r (wordT 0x01 gd ga gb 5) → exec (.alu r .shl gd ga gb) s = .next (s.afterWord r (fun k => (k.setReg gd.val (k.reg ga.val <<< ((k.reg gb.val).toNat % 32))).advance))) ∧
    (s.runsWord r (wordT 0x01 gd ga gb 6) → exec (.alu r .shr gd ga gb) s = .next (s.afterWord r (fun k => (k.setReg gd.val (k.reg ga.val >>> ((k.reg gb.val).toNat % 32))).advance))) ∧
    (s.runsWord r (wordT 0x01 gd ga gb 7) → exec (.alu r .sra gd ga gb) s = .next (s.afterWord r (fun k => (k.setReg gd.val ((k.reg ga.val).sshiftRight ((k.reg gb.val).toNat % 32))).advance))) ∧
    (s.runsWord r (wordT 0x01 gd ga gb 8) → exec (.alu r .mul gd ga gb) s = .next (s.afterWord r (fun k => (k.setReg gd.val (k.reg ga.val * k.reg gb.val)).advance))) ∧
    (s.runsWord r (wordT 0x01 gd ga gb 9) → exec (.alu r .slt gd ga gb) s = .next (s.afterWord r (fun k => (k.setReg gd.val (if (k.reg ga.val).toInt < (k.reg gb.val).toInt then 1 else 0)).advance))) ∧
    (s.runsWord r (wordT 0x01 gd ga gb 10) → exec (.alu r .sltu gd ga gb) s = .next (s.afterWord r (fun k => (k.setReg gd.val (if (k.reg ga.val).toNat < (k.reg gb.val).toNat then 1 else 0)).advance)))

/-- For every core that executes the word, ADDI, ANDI, ORI, XORI, LUI, SLTI, KSET, KADD, KGET, SETF (both forms) and RDFL answer the
next state in which the destination holds the tabulated value (SETF from a register takes bits 4:0 and 12:8), the program counter
has moved to the next word, the watchdog count is 0, and nothing else has changed. (R96 (04_compute_core), R100 (04_compute_core),
R112 (04_compute_core)) -/
def Obligations.ImmediateAndCounterInstructionsWriteTheirResults : Prop :=
  ∀ (s : State) (r : CoreRef) (gd ga : GReg) (kr : KReg) (imm : BitVec 18) (i16 : W16) (fa fb : BitVec 5),
    (s.runsWord r (wordI 0x02 gd ga imm) → exec (.addi r gd ga imm) s = .next (s.afterWord r (fun k => (k.setReg gd.val (k.reg ga.val + imm.signExtend 32)).advance))) ∧
    (s.runsWord r (wordI 0x03 gd ga imm) → exec (.andi r gd ga imm) s = .next (s.afterWord r (fun k => (k.setReg gd.val (k.reg ga.val &&& imm.zeroExtend 32)).advance))) ∧
    (s.runsWord r (wordI 0x04 gd ga imm) → exec (.ori r gd ga imm) s = .next (s.afterWord r (fun k => (k.setReg gd.val (k.reg ga.val ||| imm.zeroExtend 32)).advance))) ∧
    (s.runsWord r (wordI 0x05 gd ga imm) → exec (.xori r gd ga imm) s = .next (s.afterWord r (fun k => (k.setReg gd.val (k.reg ga.val ^^^ imm.zeroExtend 32)).advance))) ∧
    (s.runsWord r (wordI 0x06 gd 0 imm) → exec (.lui r gd imm) s = .next (s.afterWord r (fun k => (k.setReg gd.val (imm.zeroExtend 32 <<< 14)).advance))) ∧
    (s.runsWord r (wordI 0x07 gd ga imm) → exec (.slti r gd ga imm) s = .next (s.afterWord r (fun k => (k.setReg gd.val (if (k.reg ga.val).toInt < (imm.signExtend 32).toInt then 1 else 0)).advance))) ∧
    (s.runsWord r (wordQ 0x14 gd.val 0 kr.val i16) → exec (.kset r gd kr i16) s = .next (s.afterWord r (fun k => (k.setCtr kr.val (k.reg gd.val + i16.signExtend 32)).advance))) ∧
    (s.runsWord r (wordQ 0x15 gd.val 0 kr.val i16) → exec (.kadd r gd kr i16) s = .next (s.afterWord r (fun k => (k.setCtr kr.val (k.ctr kr.val + k.reg gd.val + i16.signExtend 32)).advance))) ∧
    (s.runsWord r (wordQ 0x16 gd.val 0 kr.val 0) → exec (.kget r gd kr) s = .next (s.afterWord r (fun k => (k.setReg gd.val (k.ctr kr.val)).advance))) ∧
    (s.runsWord r (wordF fa fb gd false) → exec (.setf r false fa fb gd) s = .next (s.afterWord r (fun k => ({ k with fa := fa, fb := fb }).advance))) ∧
    (s.runsWord r (wordF fa fb gd true) → exec (.setf r true fa fb gd) s = .next (s.afterWord r (fun k => ({ k with fa := (k.reg gd.val).extractLsb' 0 5, fb := (k.reg gd.val).extractLsb' 8 5 }).advance))) ∧
    (s.runsWord r (wordZ 0x19 gd.val 0) → exec (.rdfl r gd) s = .next (s.afterWord r (fun k => (k.setReg gd.val (k.flags.zeroExtend 32)).advance)))

namespace Sys2Proof.Machine

/-- The data address of LDW and STW (R96). -/
def State.wordAddr (s : State) (r : CoreRef) (ga : GReg) (imm : BitVec 18) : Nat := ((s.core r).reg ga.val + imm.signExtend 32).toNat

end Sys2Proof.Machine

/-- For every core that executes LDW or STW at an aligned address within one memory, with no hazard and no reservation in the way,
exec answers the next state: LDW puts the little-endian word read (corrected and counted where it holds single-bit errors) in gd;
STW writes the four bytes of gd at the address; the program counter moves to the next word and nothing else changes but the
watchdog count. (R96 (04_compute_core), R99 (04_compute_core), R88 (04_compute_core), R89 (04_compute_core)) -/
def Obligations.LoadsAndStoresOfACoreMoveOneWord : Prop :=
  ∀ (s : State) (r : CoreRef) (gd ga : GReg) (imm : BitVec 18),
    let a := s.wordAddr r ga imm
    let i := Site.idx r.site
    let c := s.clu i
    a % 4 = 0 → inData a 4 = true → c.reservedFrom r.n.val [(a, 4)] = false →
    (s.runsWord r (wordI 0x08 gd ga imm) → (s.core r).hazard [(a, 4)] [] = false → c.dataBad r.n.val a 4 = false →
      exec (.ldw r gd ga imm) s = .next ((((s.fetched r).correctRead i r.n.val a 4).modCore r
        (fun k => (k.setReg gd.val (BitVec.ofNat 32 (leNat (c.dataRead r.n.val a 4)))).advance)).progress i)) ∧
    (s.runsWord r (wordI 0x09 gd ga imm) → (s.core r).hazard [] [(a, 4)] = false →
      exec (.stw r gd ga imm) s = .next ((((s.fetched r).modClu i
        (fun c => c.dataWrite r.n.val a (leBytes 4 ((c.getCore r.n.val).reg gd.val).toNat))).modCore r Core.advance).progress i))

/-- For every cluster, core, address and bytes that lie within one memory, after the write the bytes written read back in order, and
every other byte of scratchpad and of the core's local data memory reads as before. (R88 (04_compute_core), R4 (00_scope)) -/
def Obligations.DataWritesChangeTheirBytesAlone : Prop :=
  ∀ (c : Cluster) (n a b : Nat) (bs : List W8), inData a bs.length = true → inData b 1 = true →
    (∀ h : a ≤ b ∧ b < a + bs.length, (c.dataWrite n a bs).dataByte n b = bs[b - a]) ∧
    (b < a ∨ a + bs.length ≤ b → (c.dataWrite n a bs).dataByte n b = c.dataByte n b)

namespace Sys2Proof.Machine

/-- When a branch is taken (R96). -/
def branchTaken (cond : Cond) (a b : W32) : Bool :=
  match cond with
  | .eq => decide (a = b)
  | .ne => decide (a ≠ b)
  | .lt => decide (a.toInt < b.toInt)
  | .ge => decide (b.toInt ≤ a.toInt)
  | .ltu => decide (a.toNat < b.toNat)
  | .geu => decide (b.toNat ≤ a.toNat)
  | .always => true

end Sys2Proof.Machine

/-- A running core executes a branch: taken, its program counter becomes the target, which lies in 64 to 4095, and not taken the next
word; END ends the block; DONE ends it and the core makes no further decision; SETTLE goes on when no matrix or vector instruction
is incomplete. A block decision starts the ready entry of lowest index at its START, with single-bit errors of the block table
corrected and counted. Nothing else changes but the watchdog count (of the instructions). (R92 (04_compute_core), R93
(04_compute_core), R94 (04_compute_core), R96 (04_compute_core), R98 (04_compute_core), R111 (04_compute_core)) -/
def Obligations.ControlFlowMovesTheProgramCounter : Prop :=
  (∀ (s : State) (r : CoreRef) (cond : Cond) (ga gb : GReg) (off : BitVec 15),
    let k := s.core r
    let target : Int := (k.pc.toNat : Int) + off.toInt
    s.mayIssue r (wordB (condCode cond) ga gb off) = true → k.imemBad.contains k.pc.toNat = false →
    (branchTaken cond (k.reg ga.val) (k.reg gb.val) = true → 64 ≤ target → target ≤ 4095 →
      exec (.br r cond ga gb off) s = .next (s.afterWord r (fun k => { k with pc := BitVec.ofInt 12 target }))) ∧
    (branchTaken cond (k.reg ga.val) (k.reg gb.val) = false → k.pc ≠ 4095 →
      exec (.br r cond ga gb off) s = .next (s.afterWord r Core.advance))) ∧
  (∀ (s : State) (r : CoreRef), s.mayIssue r (wordZ 0x0D 0 0) = true → (s.core r).imemBad.contains (s.core r).pc.toNat = false →
    exec (.endBlock r) s = .next (s.afterWord r (fun k => { k with inBlock := false }))) ∧
  (∀ (s : State) (r : CoreRef), s.mayIssue r (wordZ 0x0E 0 0) = true → (s.core r).imemBad.contains (s.core r).pc.toNat = false →
    exec (.done r) s = .next (s.afterWord r (fun k => { k with inBlock := false, done := true }))) ∧
  (∀ (s : State) (r : CoreRef), s.runsWord r (wordZ 0x1B 0 0) → (s.core r).matQueue = [] → (s.core r).matRun = none →
    (s.core r).mms = [] → (s.core r).vecQueue = [] →
    exec (.settle r) s = .next (s.afterWord r Core.advance)) ∧
  (∀ (s : State) (r : CoreRef) (e : Nat), s.clocked (Site.idx r.site) = true → (s.core r).seq = .running →
    (s.core r).inBlock = false → (s.core r).done = false → (∀ w ∈ (s.core r).imemBad, 64 ≤ w) → e < 32 →
    (s.clu (Site.idx r.site)).blockReady r.n.val e = true →
    (∀ d < e, (s.clu (Site.idx r.site)).blockReady r.n.val d = false) →
    exec (.blockDecision r) s = .next ((s.tableRead r).modCore r (fun k =>
      { k with pc := BitVec.ofNat 12 (k.blockStart e), block := BitVec.ofNat 5 e, inBlock := true })))

/-- A running core whose port is bound executes POP, PEEK or PUSH: POP puts the data word of the head token in g and removes it (a
credit is owed where the queue is inbound), PEEK leaves it, PUSH puts a token with the data word of g and the cluster's epoch at
the tail of the queue. Where the queue is empty (or full, for PUSH) the state is unchanged: the core stalls. (R93
(04_compute_core), R96 (04_compute_core), R142 (06_dataflow_and_steering), R145 (06_dataflow_and_steering)) -/
def Obligations.QueueInstructionsMoveTokens : Prop :=
  ∀ (s : State) (r : CoreRef) (g : GReg) (q : QPort) (j : Nat),
    let i := Site.idx r.site
    let c := s.clu i
    (s.runsWord r (wordQ 0x10 g.val q.val 0 0) → c.inPort r.n.val q.val = some j →
      (∀ (v : Token) (l : List Token), (c.getQueue j).toks = v :: l → exec (.pop r g q) s =
        .next (((((s.fetched r).modClu i (fun c => c.modQueue j (fun x =>
          { x with toks := x.toks.drop 1, owed := x.owed + if x.prod = 0xA0 then 1 else 0 }))).modCore r
            (fun k => (k.setReg g.val v.data).advance))).progress i)) ∧
      ((c.getQueue j).toks = [] → exec (.pop r g q) s = .next s)) ∧
    (s.runsWord r (wordQ 0x12 g.val q.val 0 0) → c.inPort r.n.val q.val = some j →
      (∀ (v : Token) (l : List Token), (c.getQueue j).toks = v :: l →
        exec (.peek r g q) s = .next (s.afterWord r (fun k => (k.setReg g.val v.data).advance))) ∧
      ((c.getQueue j).toks = [] → exec (.peek r g q) s = .next s)) ∧
    (s.runsWord r (wordQ 0x11 g.val q.val 0 0) → c.outPort r.n.val q.val = some j →
      ((c.getQueue j).room ≠ 0 → exec (.push r g q) s =
        .next ((((s.fetched r).modClu i (fun c => c.modQueue j (fun x =>
          { x with toks := x.toks ++ [{ data := (c.getCore r.n.val).reg g.val, epoch := c.epoch }] }))).modCore r Core.advance).progress i)) ∧
      ((c.getQueue j).room = 0 → exec (.push r g q) s = .next s))

/-- A running core with fewer than two unstarted matrix instructions, matching specifiers, a tile below 0x600 and aligned operands in
scratchpad executes MMA, MMS or MMP (the last two outside a training step): the instruction is appended to the unit's queue with
the addresses, scale addresses and specifier that it captures, and the core goes on. TZERO likewise, with its tile alone. (R101
(04_compute_core), R102 (04_compute_core), R104 (04_compute_core), R105 (04_compute_core), R106 (04_compute_core), R110
(04_compute_core)) -/
def Obligations.MatrixInstructionsEnterTheirQueue : Prop :=
  ∀ (s : State) (r : CoreRef) (ga gb : GReg) (tile : BitVec 12) (acc : Bool),
    let k := s.core r
    k.matQueue.length < 2 → tile.toNat < 0x600 →
    (matFormatBad k.fa k.fb acc ga.val gb.val = false →
    (s.runsWord r (wordM 0x20 ga gb tile acc) → k.matHazard (k.matOp .mma ga gb tile acc) = false →
      (k.matOp .mma ga gb tile acc).addressOk = true →
      exec (.mma r ga gb tile acc) s = .next (s.afterWord r (fun k' => { k' with matQueue := k'.matQueue ++ [k.matOp .mma ga gb tile acc] }.advance))) ∧
    (s.runsWord r (wordM 0x21 ga gb tile acc) → k.matHazard (k.matOp .mms ga gb tile acc) = false →
      s.training (Site.idx r.site) = false →
      (k.matOp .mms ga gb tile acc).addressOk = true →
      exec (.mms r ga gb tile acc) s = .next (s.afterWord r (fun k' => { k' with matQueue := k'.matQueue ++ [k.matOp .mms ga gb tile acc] }.advance))) ∧
    (s.runsWord r (wordM 0x22 ga gb tile acc) → k.matHazard (k.matOp .mmp ga gb tile acc) = false →
      s.training (Site.idx r.site) = false →
      (k.matOp .mmp ga gb tile acc).addressOk = true →
      exec (.mmp r ga gb tile acc) s = .next (s.afterWord r (fun k' => { k' with matQueue := k'.matQueue ++ [k.matOp .mmp ga gb tile acc] }.advance)))) ∧
    (∀ o : MatOp, o = { kind := .tzero, spec := 0, acc := false, a := 0, b := 0, sa := 0, sb := 0, tile := tile.toNat, pc := k.pc } →
      s.runsWord r (wordM 0x23 0 0 tile false) → k.matHazard o = false →
      exec (.tzero r tile) s = .next (s.afterWord r (fun k' => { k' with matQueue := k'.matQueue ++ [o] }.advance)))

/-- A running core with fewer than two queued vector instructions, valid specifiers and operands that meet R99 executes VOP, VCVT or
SPILL: the instruction is appended to the vector engine's queue with the addresses read from its registers, and the core goes on.
A VCVT with a supplied scale also reads that byte at issue, corrects it if it must, and carries it. (R99 (04_compute_core), R106
(04_compute_core), R107 (04_compute_core), R108 (04_compute_core), R109 (04_compute_core), R110 (04_compute_core)) -/
def Obligations.VectorInstructionsEnterTheirQueue : Prop :=
  ∀ (s : State) (r : CoreRef) (gd ga gb : GReg),
    let k := s.core r
    let d := (k.reg gd.val).toNat
    let a := (k.reg ga.val).toNat
    let b := (k.reg gb.val).toNat
    let c := s.clu (Site.idx r.site)
    let queued (o : VecOp) (k' : Core) : Core := Core.advance { k' with vecQueue := k'.vecQueue ++ [{ op := o, pc := k.pc }] }
    k.vecQueue.length < 2 →
    (∀ (fn : VopFn) (spec : BitVec 5), s.runsWord r (wordV 0x28 gd ga gb spec.toNat (vopCode fn) false false) →
      vopFormatBad fn spec = false → vecOperand a (vopBytes (vecFmt spec)) = true → vecOperand d (vopBytes (vecFmt spec)) = true →
      (vopUnary fn || vecOperand b (if fn = .scale then (vecFmt spec).width / 8 else vopBytes (vecFmt spec))) = true →
      k.hazard (VecOp.reads (.vop fn spec d a b)) (VecOp.writes (.vop fn spec d a b)) = false →
      exec (.vop r fn gd ga gb spec) s = .next (s.afterWord r (queued (.vop fn spec d a b)))) ∧
    (∀ (s1 s2 : BitVec 5) (sat sup : Bool), s.runsWord r (wordV 0x29 gd ga gb s1.toNat s2.toNat sat sup) →
      (vecScaled s2 && sup) = false → (!(vecScaled s1 || vecScaled s2) || inData b 1) = true → cvtFormatBad s1 s2 gb.val sup 0 = false →
      vecOperand a ((vecFmt s1).bytesFor (cvtCount s1 s2)) = true → vecOperand d ((vecFmt s2).bytesFor (cvtCount s1 s2)) = true →
      k.hazard (VecOp.reads (.vcvt s1 s2 d a b sat sup 0)) (VecOp.writes (.vcvt s1 s2 d a b sat sup 0)) = false →
      exec (.vcvt r gd ga gb s1 s2 sat sup) s = .next (s.afterWord r (queued (.vcvt s1 s2 d a b sat sup 0)))) ∧
    (∀ (s1 s2 : BitVec 5) (sat : Bool) (scale : Nat), s.runsWord r (wordV 0x29 gd ga gb s1.toNat s2.toNat sat true) →
      scale = (c.dataByte r.n.val b).toNat → vecScaled s2 = true → inData b 1 = true → c.dataBad r.n.val b 1 = false →
      c.reservedFrom r.n.val [(b, 1)] = false → cvtFormatBad s1 s2 gb.val true scale = false →
      vecOperand a ((vecFmt s1).bytesFor (cvtCount s1 s2)) = true → vecOperand d ((vecFmt s2).bytesFor (cvtCount s1 s2)) = true →
      k.hazard (VecOp.reads (.vcvt s1 s2 d a b sat true scale) ++ [(b, 1)]) (VecOp.writes (.vcvt s1 s2 d a b sat true scale)) = false →
      exec (.vcvt r gd ga gb s1 s2 sat true) s = .next ((((s.fetched r).correctRead (Site.idx r.site) r.n.val b 1).modCore r
        (queued (.vcvt s1 s2 d a b sat true scale))).progress (Site.idx r.site))) ∧
    (∀ (tile : BitVec 12) (init : Bool), s.runsWord r (wordP 0x2B gd tile init) → tile.toNat < 0x600 → d % 64 = 0 → inSp d 2048 = true →
      k.hazard (VecOp.reads (.spill d tile.toNat init)) (VecOp.writes (.spill d tile.toNat init)) = false →
      exec (.spill r gd tile init) s = .next (s.afterWord r (queued (.spill d tile.toNat init))))

/-- With the field clocked and no other core's pass in progress in what it reads: PASS_START starts the oldest unstarted instruction
when the unit is free and the reservations of its tiles can be taken, reading its operands and counting the pass; where they
cannot be taken the core waits for them, and an uncorrectable operand drops the instruction, frees the tiles and faults the core.
An MMS pass instead splits into its non-empty chunks on the steal queue and counts when it is applied; UNIT_COMPLETE writes what a
started matrix instruction computes and the oldest vector instruction's results, and ORs in their flags; STEAL_CHUNK computes the
chunk at the head of the steal queue for its pass; MMS_APPLY applies the oldest MMS pass whose chunks all have their records. (R72
(03_dot_products_and_accumulation), R104 (04_compute_core), R111 (04_compute_core), R112 (04_compute_core), R131
(05_cluster_and_scratchpad), R167 (07_sparse_inference), R171 (07_sparse_inference), R173 (07_sparse_inference), R174
(07_sparse_inference)) -/
def Obligations.UnitsStartAndCompleteInstructions : Prop :=
  ∀ (s : State) (r : CoreRef),
    let i := Site.idx r.site
    let n := r.n.val
    let c := s.clu i
    let k := c.getCore n
    s.clocked i = true →
    (∀ (o : MatOp) (l : List MatOp), k.matQueue = o :: l → o.kind ≠ .mms → k.unitFree o = true → c.passIn n o.reads = false →
      (c.canReserve n o.tiles = false → exec (.passStart r) s = .next (s.modClu i (fun d => d.request n o.tiles))) ∧
      (c.canReserve n o.tiles = true → c.matBad n o = false → exec (.passStart r) s =
        .next ((if o.kind = .tzero then s else ((s.matCorrect i n o).predStart i o).countPass i o.tile).modClu i
          (fun d => (d.request n o.tiles).modCore n (fun k => { k with matQueue := k.matQueue.drop 1, matRun := some (c.fetchRun o
            (((if o.kind = .tzero then s else (s.matCorrect i n o).predStart i o).clu i).passCount o.tile + 1)) })))) ∧
      (c.canReserve n o.tiles = true → c.matBad n o = true → exec (.passStart r) s =
        .next (((s.modCore r (fun k => { k with matQueue := k.matQueue.drop 1 })).modClu i
          (fun c => (c.request n o.tiles).releaseAll n o.tiles)).coreFaultAt r o.pc .ecc))) ∧
    (∀ (o : MatOp) (l : List MatOp), k.matQueue = o :: l → o.kind = .mms → k.mms.length < 4 →
      c.steal.length + (c.walk o).todo.length ≤ 64 → c.passIn n o.reads = false → c.matBad n o = false →
      (c.walk o).dense = false → exec (.passStart r) s =
        .next ((s.matCorrect i n o).modClu i (fun d =>
          { d.modCore n (fun j => { j with matQueue := j.matQueue.drop 1, mms := j.mms ++ [(j.mmsNext, c.walk o)], mmsNext := j.mmsNext + 1 }) with
            steal := d.steal ++ (c.walk o).todo.map (fun m => { core := n, pass := k.mmsNext, m := m }) }))) ∧
    (∀ m : MatRun, k.matRun = some m → m.op.kind = .tzero → exec (.unitComplete r .matrix) s =
      .next (s.modClu i (fun c => { ((c.spWrite (1024 * m.op.tile) (List.replicate 1024 0)).modCore n
        (fun k => { k with matRun := none, flags := k.flags ||| 0 })).releaseAll n m.op.tiles with wdog := 0 }))) ∧
    (∀ (m : MatRun) (w : List W8 × ArithFlags), k.matRun = some m → m.op.kind = .mma →
      w = applyRecords m.data.isInt (c.tile m.op.tile) (fun j => m.data.record (j / 16) (j % 16)) (fun _ => true) →
      exec (.unitComplete r .matrix) s =
        .next ((s.modClu i (fun c => { (((c.setTile m.op.tile w.1).setAcc m.op.tile m.op.acc).modCore n
            (fun k => { k with matRun := none, flags := k.flags ||| w.2 })).releaseAll n m.op.tiles with wdog := 0 })).capture i n m.op.pc
          (m.left ++ m.right ++ m.sl ++ m.sr ++ m.pblock ++ c.tile m.op.tile) (w.1 ++ [w.2.zeroExtend 8]))) ∧
    (∀ (v : VecIssue) (l : List VecIssue), k.vecQueue = v :: l → c.reservedFrom n (v.op.reads ++ v.op.writes) = false →
      v.op.reads.any (fun x => c.dataBad n x.1 x.2) = false → exec (.unitComplete r .vector) s =
        .next ((((s.modCore r (fun k => { k with vecQueue := k.vecQueue.drop 1 })).each v.op.reads (fun t x => t.correctRead i n x.1 x.2)).modClu i
          (fun d => { ((c.vecResult n v.op).1.foldl (fun d e => d.dataWrite n e.1 e.2) d).modCore n
            (fun k => { k with flags := k.flags ||| (c.vecResult n v.op).2 }) with wdog := 0 })).capture i n v.pc
          (v.op.reads.flatMap (fun x => c.dataRead n x.1 x.2))
          ((c.vecResult n v.op).1.flatMap Prod.snd ++ [(c.vecResult n v.op).2.zeroExtend 8]))) ∧
    (∀ (x : Chunk) (l : List Chunk), c.steal = x :: l → k.matRun = none → c.denseReady n = false → x.core = n →
      exec (.stealChunk r) s = .next (s.modClu i (fun c => { c.modCore n (fun k => { k with mms := k.mms.map (fun e => if e.1 = x.pass then
        (e.1, { e.2 with todo := e.2.todo.filter (· != x.m), recs := e.2.recs ++ e.2.run.data.chunk x.m }) else e) }) with
        steal := l, wdog := 0 }))) ∧
    (∀ (x : Chunk) (l : List Chunk), c.steal = x :: l → k.matRun = none → c.denseReady n = false → x.core ≠ n →
      exec (.stealChunk r) s = .next ((s.modClu i (fun c => { c.modCore x.core (fun k => { k with mms := k.mms.map (fun e => if e.1 = x.pass then
        (e.1, { e.2 with todo := e.2.todo.filter (· != x.m), recs := e.2.recs ++ e.2.run.data.chunk x.m }) else e) }) with
        steal := l, wdog := 0 })).bumpOwner i 0x308 1)) ∧
    (∀ (e : Nat) (p : MmsPass) (l : List (Nat × MmsPass)) (w : List W8 × ArithFlags), k.mms = (e, p) :: l → p.todo = [] → k.usesTile p.run.op.tile = false →
      c.canReserve n [p.run.op.tile] = true → c.dataBad n (1024 * p.run.op.tile) 1024 = false →
      w = applyRecords p.run.data.isInt (c.tile p.run.op.tile) (fun j => Tab.get {} p.recs j) (fun _ => true) →
      exec (.mmsApply r) s = .next ((((s.correctRead i n (1024 * p.run.op.tile) 1024).countPass i p.run.op.tile).modClu i (fun c =>
          { (((((c.setTile p.run.op.tile w.1).noPhase p.run.op.tile).setAcc p.run.op.tile p.run.op.acc).request n [p.run.op.tile]).modCore n
            (fun k => { k with mms := l, flags := k.flags ||| w.2 })).releaseAll n [p.run.op.tile] with wdog := 0 })).capture i n p.run.op.pc
        (p.run.left ++ p.run.right ++ p.run.sl ++ p.run.sr ++ c.tile p.run.op.tile) (w.1 ++ [w.2.zeroExtend 8])))

/-- On a loaded, clocked cluster: a branch passes the data token to output 1 where the control token is true and to output 0 where it
is false; a merge takes the data token of the input that the control token selects; a rate-repeat unit consumes a control token
with count n and a data token and emits n copies; a rate-skip unit passes one token and discards the n - 1 after it; a carry unit
passes the entry token and then loops while the control token is true. Each firing sets the watchdog count to 0 and changes
nothing outside the cluster. (R150 (06_dataflow_and_steering), R153 (06_dataflow_and_steering)) -/
def Obligations.SteeringUnitsFire : Prop :=
  (∀ (s : State) (x : Site) (u : SteerIx) (i : Nat) (t d : Token), i = Site.idx x → s.steers i = true →
    ((s.clu i).getSteer u.val).kind = .branch → (s.clu i).steerHead u.val 0 = some t → (s.clu i).steerHead u.val 1 = some d →
    (s.clu i).steerRoom u.val (if t.data = 0 then 4 else 5) = true →
    exec (.branchFire x u) s = .next (s.fire i (fun c => ((c.steerTake u.val 0).steerTake u.val 1).steerPut u.val (if t.data = 0 then 4 else 5) d.data))) ∧
  (∀ (s : State) (x : Site) (u : SteerIx) (i : Nat) (t d : Token), i = Site.idx x → s.steers i = true →
    ((s.clu i).getSteer u.val).kind = .merge → (s.clu i).steerHead u.val 0 = some t →
    (s.clu i).steerHead u.val (if t.data = 0 then 1 else 2) = some d → (s.clu i).steerRoom u.val 4 = true →
    exec (.mergeFire x u) s = .next (s.fire i (fun c => ((c.steerTake u.val 0).steerTake u.val (if t.data = 0 then 1 else 2)).steerPut u.val 4 d.data))) ∧
  (∀ (s : State) (x : Site) (u : SteerIx) (i : Nat) (t d : Token), i = Site.idx x → s.steers i = true →
    ((s.clu i).getSteer u.val).kind = .rateRepeat → ((s.clu i).getSteer u.val).count = 0 → (s.clu i).steerHead u.val 0 = some t →
    (s.clu i).steerHead u.val 1 = some d → (s.clu i).steerRoom u.val 4 = true →
    (t.data.toNat % 65536 = 0 → exec (.rateRepeatFire x u) s = .next (s.fire i (fun c => (c.steerTake u.val 0).steerTake u.val 1))) ∧
    (t.data.toNat % 65536 ≠ 0 → exec (.rateRepeatFire x u) s = .next (s.fire i (fun c =>
      (((c.steerTake u.val 0).steerTake u.val 1).steerPut u.val 4 d.data).modSteer u.val (fun v =>
        { v with count := t.data.toNat % 65536 - 1, held := if t.data.toNat % 65536 = 1 then none else some d }))))) ∧
  (∀ (s : State) (x : Site) (u : SteerIx) (i : Nat) (d : Token), i = Site.idx x → s.steers i = true →
    ((s.clu i).getSteer u.val).kind = .rateRepeat → ((s.clu i).getSteer u.val).held = some d → 0 < ((s.clu i).getSteer u.val).count →
    (s.clu i).steerRoom u.val 4 = true →
    exec (.rateRepeatEmit x u) s = .next (s.fire i (fun c => (c.steerPut u.val 4 d.data).modSteer u.val (fun v =>
        { v with count := v.count - 1, held := if v.count = 1 then none else some d })))) ∧
  (∀ (s : State) (x : Site) (u : SteerIx) (i : Nat) (t : Token), i = Site.idx x → s.steers i = true →
    ((s.clu i).getSteer u.val).kind = .rateSkip → ((s.clu i).getSteer u.val).count = 0 → (s.clu i).steerHead u.val 0 = some t →
    (t.data.toNat % 65536 = 0 → exec (.rateSkipFire x u) s = .next (s.fire i (fun c => c.steerTake u.val 0))) ∧
    (∀ d : Token, t.data.toNat % 65536 ≠ 0 → (s.clu i).steerHead u.val 1 = some d → (s.clu i).steerRoom u.val 4 = true →
      exec (.rateSkipFire x u) s = .next (s.fire i (fun c => (((c.steerTake u.val 0).steerTake u.val 1).steerPut u.val 4 d.data).modSteer u.val
        (fun v => { v with count := t.data.toNat % 65536 - 1 }))))) ∧
  (∀ (s : State) (x : Site) (u : SteerIx) (i : Nat) (d : Token), i = Site.idx x → s.steers i = true →
    ((s.clu i).getSteer u.val).kind = .rateSkip → 0 < ((s.clu i).getSteer u.val).count → (s.clu i).steerHead u.val 1 = some d →
    exec (.rateSkipDiscard x u) s = .next (s.fire i (fun c => (c.steerTake u.val 1).modSteer u.val (fun v => { v with count := v.count - 1 })))) ∧
  (∀ (s : State) (x : Site) (u : SteerIx) (i : Nat) (d : Token), i = Site.idx x → s.steers i = true →
    ((s.clu i).getSteer u.val).kind = .carry → ((s.clu i).getSteer u.val).looping = false → (s.clu i).steerHead u.val 1 = some d →
    (s.clu i).steerRoom u.val 4 = true →
    exec (.carryEnter x u) s = .next (s.fire i (fun c => ((c.steerTake u.val 1).steerPut u.val 4 d.data).modSteer u.val
      (fun v => { v with looping := true })))) ∧
  (∀ (s : State) (x : Site) (u : SteerIx) (i : Nat) (t d : Token), i = Site.idx x → s.steers i = true →
    ((s.clu i).getSteer u.val).kind = .carry → ((s.clu i).getSteer u.val).looping = true → (s.clu i).steerHead u.val 0 = some t →
    (s.clu i).steerHead u.val 2 = some d → (s.clu i).steerRoom u.val (if t.data = 0 then 5 else 4) = true →
    exec (.carryLoop x u) s = .next (s.fire i (fun c => (((c.steerTake u.val 0).steerTake u.val 2).steerPut u.val (if t.data = 0 then 5 else 4) d.data).modSteer u.val
      (fun v => { v with looping := t.data != 0 }))))

/-- TOKEN_SEND takes up to eight credited tokens of an outbound queue into one packet with their sequence number; TOKEN stores the
tokens of a packet of the cluster's epoch by sequence number in the queue it names, at the cluster and at a twin of that epoch,
discards and counts those of another epoch, and discards the packet at a cluster without a configuration, in reset or quarantined;
CREDIT_RETURN sends one owed credit with the epoch of the cluster; CREDIT_RECEIVE adds one credit to a loaded queue of the same
epoch and drops one of another; STEER_STALL adds the cycles without progress to the watchdog count below its limit. (R144
(06_dataflow_and_steering), R145 (06_dataflow_and_steering), R153 (06_dataflow_and_steering), R157 (06_dataflow_and_steering),
R404 (15_result_integrity)) -/
def Obligations.TokensAndCreditsTravel : Prop :=
  (∀ (s : State) (x : Site) (q : Fin 128) (n : Fin 8) (i j f : Nat) (v : Queue), i = Site.idx x → v = (s.clu i).getQueue q.val →
    s.remoteOf i v = some j → (s.clu i).owner = some f → s.routing i = true → v.cap ≠ 0 → v.cons = 0xA0 →
    n.val + 1 ≤ v.toks.length → n.val + 1 ≤ v.credits → s.ttQueue i q.val = none → (s.clu i).resetting = false →
    exec (.tokenSend x q n) s = .next ((s.fire i (fun c => c.modQueue q.val (fun w =>
        { w with toks := w.toks.drop (n.val + 1), seq := w.seq + BitVec.ofNat 16 (n.val + 1), credits := w.credits - (n.val + 1) }))).sendFrom i
      { dx := siteX j, dy := siteY j, sx := x.x.val, sy := x.y.val, typ := .token, vc := v.vc.toNat, func := f, epoch := (s.clu i).epoch,
        seq := v.seq, arg := v.rq.toNat, payload := tokenBytes (v.toks.take (n.val + 1)), pos := .source i none })) ∧
  (∀ (s : State) (id i : Nat) (p : Packet) (g : Cluster → Cluster), s.arrived id .token = some (p, i) →
    g = (fun c => c.modQueue (p.arg % 128) (fun q => q.arrive p.seq ((payloadWords p.payload).map (fun w => { data := w, epoch := p.epoch })))) →
    ((s.clu i).cfg.isNone = true ∨ (s.clu i).resetting = true ∨ s.barred i = true → exec (.token id) s = .next (s.discardAt i p)) ∧
    ((s.clu i).cfg.isSome = true → (s.clu i).resetting = false → s.barred i = false →
      (p.epoch ≠ (s.clu i).epoch → exec (.token id) s = .next ((s.removePacket p).staleTokens i (payloadWords p.payload).length p.epoch)) ∧
      (p.epoch = (s.clu i).epoch →
        (s.twinOf i = none → exec (.token id) s = .next ((s.removePacket p).fire i g)) ∧
        (∀ j, s.twinOf i = some j →
          (p.epoch = (s.clu j).epoch → exec (.token id) s = .next (((s.removePacket p).fire i g).fire j g)) ∧
          (p.epoch ≠ (s.clu j).epoch → exec (.token id) s = .next ((s.removePacket p).fire i g)))))) ∧
  (∀ (s : State) (x : Site) (q : Fin 128) (i j k : Nat), i = Site.idx x → s.routing i = true → ((s.clu i).getQueue q.val).prod = 0xA0 →
    0 < ((s.clu i).getQueue q.val).owed → s.senderOf i q.val = some (j, k) →
    exec (.creditReturn x q) s = .next ((s.modClu i (fun c => c.modQueue q.val (fun v => { v with owed := v.owed - 1 }))).modFab
      (fun f => { f with credits := f.credits ++ [{ site := j, q := k, epoch := (s.clu i).epoch, src := i }] }))) ∧
  (∀ (s : State) (x : Site) (q : Fin 128) (i : Nat) (k : Credit) (l : List Credit), i = Site.idx x → s.fab.credits = k :: l → k.site = i → k.q = q.val →
    s.creditHeld k.src i = false →
    (k.epoch = (s.clu i).epoch → (s.clu i).cfg.isSome = true → (s.clu i).resetting = false → ((s.clu i).getQueue q.val).cap ≠ 0 →
      exec (.creditReceive x q) s = .next ((s.modFab (fun f => { f with credits := l })).modClu i
        (fun c => c.modQueue q.val (fun v => { v with credits := v.credits + 1 })))) ∧
    (k.epoch ≠ (s.clu i).epoch ∨ (s.clu i).cfg.isNone = true ∨ (s.clu i).resetting = true →
      exec (.creditReceive x q) s = .next (s.modFab (fun f => { f with credits := l })))) ∧
  (∀ (s : State) (x : Site) (cycles i f k : Nat), i = Site.idx x → (s.clu i).owner = some f → (s.clu i).cfg = some k → s.routing i = true →
    s.clocked i = true → (s.clu i).unfinished = true → (s.cfg f k).load = none → (s.cfg f k).halted = none →
    ((s.clu i).wdog + cycles < 2 ^ (s.clu i).wdogExp →
      exec (.steerStall x cycles) s = .next (s.modClu i (fun c => { c with wdog := (s.clu i).wdog + cycles }))) ∧
    (2 ^ (s.clu i).wdogExp ≤ (s.clu i).wdog + cycles →
      exec (.steerStall x cycles) s = .next ((s.modClu i (fun c => { c with wdog := 2 ^ c.wdogExp })).haltRun f k
        { status := stStall, source := 3, cx := x.x.val, cy := x.y.val })))

/-- A running core that executes the word 0x0000_0000 halts; FIELD_CORE_FAULT records cause 0x3, the program counter and opcode 0
unless it already holds a valid record; the fault is counted; and the launch of the cluster, if any, halts with
ILLEGAL_DESCRIPTOR, source 1, code 3 and the core's coordinates. (R98 (04_compute_core), R113 (04_compute_core), R114
(04_compute_core), R115 (04_compute_core), R116 (04_compute_core), R118 (04_compute_core)) -/
def Obligations.IllegalWordHaltsTheCore : Prop :=
  ∀ (s : State) (r : CoreRef), s.mayIssue r 0 = true → (s.core r).imemBad.contains (s.core r).pc.toNat = false →
    exec (.illegal r) s = .next ((((s.fetched r).modCore r (fun k => { k with
      seq := .halted,
      fault := if k.fault.valid then k.fault else { valid := true, cause := 3, pc := (s.core r).pc, opcode := 0 } })).bump
        (offCoreFaults r) 1).haltClusterRun (Site.idx r.site)
        { status := stIllegal, source := 1, code := 3, cx := r.site.x.val, cy := r.site.y.val, core := r.n.val })

/-- A running core that is a member of a barrier of its configuration executes BAR: it is added to those that have arrived and waits.
When every member has arrived (a wafer barrier: and no map is being recomputed, or its tree crosses no changed part),
BARRIER_RELEASE empties the list of arrivals and releases every member. (R220 (08_wafer_fabric), R221 (08_wafer_fabric)) -/
def Obligations.BarriersHoldAndRelease : Prop :=
  (∀ (s : State) (r : CoreRef) (index : BitVec 10) (f k : Nat) (b : Barrier) (mine : Barrier → Bool), s.runsWord r (wordZ 0x1A 0 index.toNat) →
    (s.clu (Site.idx r.site)).owner = some f → (s.clu (Site.idx r.site)).cfg = some k → b ∈ s.fab.barriers →
    mine = (fun x => x.index == index.toNat && x.members.contains (Site.idx r.site, r.n.val) && x.key == cfgKey f k) → mine b = true →
    exec (.bar r index) s = .next ((((s.fetched r).modFab (fun x => { x with barriers := x.barriers.map (fun y =>
      if mine y = true then { y with arrived := y.arrived ++ [(Site.idx r.site, r.n.val)] } else y) })).modCore r
      (fun c => { c.advance with barWait := some index })).progress (Site.idx r.site))) ∧
  (∀ (s : State) (f : Func) (cfg : Fin 256) (index : BitVec 10) (b : Barrier) (mine : Barrier → Bool),
    mine = (fun x => x.key == cfgKey f.val cfg.val && x.index == index.toNat) → s.fab.barriers.find? mine = some b →
    (∀ m ∈ b.members, m ∈ b.arrived) →
    (b.wafer = true → s.fab.recomputing = false ∨ ∀ m ∈ b.members, s.treeChanged m.1 = false) →
    exec (.barrierRelease f cfg index) s = .next ((s.modFab (fun x => { x with barriers := x.barriers.map (fun y =>
      if mine y = true then { y with arrived := [] } else y) })).each b.members State.releaseCore))

/-- A running core whose 32-byte request is aligned, readable and not reserved executes XFER: with a free slot and no core stalled the
request starts in that slot, else the core waits. XFER_ACCEPT starts the oldest stalled request when a slot is free.
TRANSFER_COMPLETE frees the slot of a transfer whose requests have all been answered, counts it and, where DONEQ is given and has
room, enqueues a token with its tag. EXPOSED_TRANSFER_TIMEOUT fails an exposed transfer without an answer for FAB_LOSS_QUIET with
cause 5. (R96 (04_compute_core), R99 (04_compute_core), R134 (05_cluster_and_scratchpad), R135 (05_cluster_and_scratchpad), R136
(05_cluster_and_scratchpad), R137 (05_cluster_and_scratchpad), R138 (05_cluster_and_scratchpad), R206 (08_wafer_fabric)) -/
def Obligations.TransfersAreAcceptedAndComplete : Prop :=
  (∀ (s : State) (r : CoreRef) (gd : GReg) (i a : Nat) (q : XReq), i = Site.idx r.site → a = ((s.core r).reg gd.val).toNat →
    q = parseReq ((s.clu i).dataRead r.n.val a 32) → s.runsWord r (wordZ 0x1C gd.val 0) → vecOperand a 32 = true →
    (s.core r).hazard [(a, 32)] [] = false → (s.clu i).dataBad r.n.val a 32 = false → (s.clu i).reservedFrom r.n.val [(a, 32)] = false →
    (∀ x, q.source = some x → (s.clu i).reservedFrom 16 [x] = false) →
    (∀ k, (s.clu i).freeSlot = some k → (s.clu i).stalled = [] → exec (.xfer r gd) s =
      .next (((((s.fetched r).correctRead i r.n.val a 32).modCore r Core.advance).startXfer i r.n.val k q).progress i)) ∧
    ((s.clu i).freeSlot = none → exec (.xfer r gd) s =
      .next (((((s.fetched r).correctRead i r.n.val a 32).modCore r Core.advance).modClu i (fun c =>
        { c.modCore r.n.val (fun k => { k with xferWait := true }) with stalled := c.stalled ++ [(r.n.val, q)] })).progress i))) ∧
  (∀ (s : State) (x : Site) (i n k : Nat) (q : XReq) (l : List (Nat × XReq)), i = Site.idx x → (s.clu i).stalled = (n, q) :: l →
    (s.clu i).freeSlot = some k → s.clocked i = true → (∀ y, q.source = some y → (s.clu i).reservedFrom 16 [y] = false) →
    exec (.xferAccept x) s = .next ((s.fire i (fun c => { c.modCore n (fun k => { k with xferWait := false }) with stalled := l })).startXfer i n k q)) ∧
  (∀ (s : State) (x : Site) (slot : SlotIx) (i : Nat) (t : Xfer), i = Site.idx x → (s.clu i).getSlot slot.val = some t →
    t.tt = [] → t.issue = t.compl → (s.clu i).resetting = false →
    (t.req.doneq = 0xFF → exec (.transferComplete x slot) s = .next ((s.fire i (fun c => c.setSlot slot.val none)).bump (offDmaDone i) 1)) ∧
    (t.req.doneq ≠ 0xFF → ((s.clu i).getQueue t.req.doneq).room ≠ 0 → exec (.transferComplete x slot) s =
      .next ((s.fire i (fun c => (c.setSlot slot.val none).enqueue t.req.doneq t.req.tag)).bump (offDmaDone i) 1))) ∧
  (∀ (s : State) (x : Site) (slot : SlotIx) (i : Nat) (t : Xfer), i = Site.idx x → (s.clu i).getSlot slot.val = some t →
    t.exposed = true → t.compl ≠ t.issue → t.lastAnswer + s.lossQuiet ≤ s.now →
    exec (.exposedTransferTimeout x slot) s = .next ((s.modClu i (fun c => c.setSlot slot.val none)).xferFail i t.core t.req.op 5))

/-- RD_REQ at a controller, within the pages of its function, outside a resetting partition and with sound lines, is answered by
RD_DATA with the bytes read in the view that the packet carries; RD_DATA for a transfer that holds its slot writes its bytes to
scratchpad at its address, tags the group length, sets the watchdog count to 0 and advances the completion count; WR at a
controller stores its bytes in device memory, and at a cluster of its function in scratchpad, and is answered by WR_ACK; WR_ACK
advances the completion count; UNREACH frees the transfer's slot, which fails with cause 5. A request outside the pages of its
function, or for a sealed page, fails its transfer with cause 2, a read of an uncorrectable line fails it with cause 4, a request
to a controller from a resetting partition is discarded and counted, and so is an answer to a resetting cluster or to a transfer
that no longer holds its slot. (R194 (08_wafer_fabric), R203 (08_wafer_fabric), R204 (08_wafer_fabric), R205 (08_wafer_fabric),
R206 (08_wafer_fabric), R252 (10_memory_system), R262 (10_memory_system), R270 (10_memory_system), R284 (10_memory_system), R133
(05_cluster_and_scratchpad), R138 (05_cluster_and_scratchpad), R338 (12_partitions_and_reset)) -/
def Obligations.PacketsTakeEffectAtTheirDestination : Prop :=
  (∀ (s : State) (id j a n : Nat) (p : Packet), s.arrived id .rdReq = some (p, j) → a = p.arg % 2 ^ 42 →
    n = leNat ((p.payload.drop 4).take 2) →
    (s.resetting p.func = true → exec (.rdReq id) s = .next (s.discardCrust p)) ∧
    (s.resetting p.func = false → s.owns p.func a n = false → exec (.rdReq id) s = .next ((s.removePacket p).failSource p 2)) ∧
    (s.resetting p.func = false → s.owns p.func a n = true → s.badRead (some (s.packetView p a)) a n ≠ [] →
      exec (.rdReq id) s = .next ((((s.removePacket p).demand (some (s.packetView p a)) a n false (some (fieldOf p.src))).memUEs 0
        (s.badRead (some (s.packetView p a)) a n)).failSource p 4)) ∧
    (s.resetting p.func = false → s.owns p.func a n = true → s.badRead (some (s.packetView p a)) a n = [] →
      exec (.rdReq id) s = .next (((s.removePacket p).demand (some (s.packetView p a)) a n false (some (fieldOf p.src))).inject
        (p.reply (s.crustOut (s.stackOf a / 2) p.src) .rdData (leNat (p.payload.take 4)) (s.devRead (some (s.packetView p a)) a n))))) ∧
  (∀ (s : State) (id i a : Nat) (p : Packet) (x : Xfer), s.arrived id .rdData = some (p, i) → a = p.arg % 2 ^ 21 →
    (s.clu i).slotOf p = some x → (s.clu i).resetting = false → (s.clu i).heldAt a p.payload.length = false →
    exec (.rdData id) s = .next ((s.removePacket p).both i (fun c =>
      { ((c.spWrite a p.payload).tagGlen a p.payload.length p.glen).answer p s.now with wdog := 0 }))) ∧
  (∀ (s : State) (id i a : Nat) (p : Packet), s.arrived id .wr = some (p, i) → p.toCrust = true → a = p.arg % 2 ^ 42 →
    (s.resetting p.func = true → exec (.wr id) s = .next (s.discardCrust p)) ∧
    (s.resetting p.func = false → s.owns p.func a p.payload.length = false ∨ s.touchesSealed a p.payload.length = true →
      exec (.wr id) s = .next ((s.removePacket p).failSource p 2)) ∧
    (s.resetting p.func = false → s.owns p.func a p.payload.length = true → s.touchesSealed a p.payload.length = false →
      exec (.wr id) s = .next (((((s.removePacket p).demand none a p.payload.length true (some (fieldOf p.src))).devStore 0 a p.payload).wrote p).inject
        (p.reply (s.crustOut (s.stackOf a / 2) p.src) .wrAck p.payload.length [])))) ∧
  (∀ (s : State) (id i a : Nat) (p : Packet), s.arrived id .wr = some (p, i) → p.toCrust = false → a = p.arg % 2 ^ 21 →
    ((s.clu i).resetting = true ∨ (s.clu i).owner ≠ some p.func → exec (.wr id) s = .next (s.discardAt i p)) ∧
    ((s.clu i).resetting = false → (s.clu i).owner = some p.func → (s.clu i).heldAt a p.payload.length = false →
      exec (.wr id) s = .next ((((s.removePacket p).both i (fun c => (c.spWrite a p.payload).tagGlen a p.payload.length p.glen)).wrote p).sendFrom i
        (p.reply i .wrAck p.payload.length [])))) ∧
  (∀ (s : State) (id i : Nat) (p : Packet) (x : Xfer), (s.clu i).resetting = false → (s.clu i).slotOf p = some x →
    (s.arrived id .wrAck = some (p, i) → exec (.wrAck id) s = .next ((s.removePacket p).both i (fun c => c.answer p s.now))) ∧
    (s.arrived id .unreach = some (p, i) → exec (.unreach id) s = .next ((s.removePacket p).slotFail i p.tag 5))) ∧
  (∀ (s : State) (id i : Nat) (p : Packet), (s.clu i).resetting = true ∨ (s.clu i).slotOf p = none →
    (s.arrived id .rdData = some (p, i) → exec (.rdData id) s = .next (s.discardAt i p)) ∧
    (s.arrived id .wrAck = some (p, i) → exec (.wrAck id) s = .next (s.discardAt i p)) ∧
    (s.arrived id .unreach = some (p, i) → exec (.unreach id) s = .next (s.discardAt i p)))

/-- On a powered router with its link up and flits in its sender's replay buffer, a good flit is taken and a bad one starts a replay,
which is counted; a pulse ends the quiet count; cycles without a pulse add to it below 256, and at 256 the port is declared dead.
OUTPUT_GRANT lets in what waits at its sources, and sends the packet that the arbiter picks on the link to the next router, with
its flits in the replay buffer, or delivers it. RUNOUT_MOVE adds to the wait of a packet below its limit (FAB_RUNOUT_WAIT, at
least 64 cycles on VC1), and at the limit, or where its tables name no output, moves it to lane D, or to lane U where its
destination is not clean, when that lane has room; a packet of lane D whose destination is no longer clean moves to lane U. (R192
(08_wafer_fabric), R196 (08_wafer_fabric), R197 (08_wafer_fabric), R198 (08_wafer_fabric), R201 (08_wafer_fabric), R208
(08_wafer_fabric), R209 (08_wafer_fabric), R211 (08_wafer_fabric)) -/
def Obligations.LinksAndRoutersMoveFlitsAndPackets : Prop :=
  (∀ (s : State) (l : LinkEnd), s.routing (Site.idx l.site) = true → (s.link (linkEndKey l)).state = .up → 0 < (s.link (linkEndKey l)).unacked →
    exec (.flitReceive l true) s = .next ((s.modLink (linkEndKey l) (fun k => { k with nextFlit := k.nextFlit + 1, replaying := false })).takeFlit
      (Site.idx l.site) l.port) ∧
    exec (.flitReceive l false) s = .next ((s.modLink (linkEndKey l) (fun k =>
      { k with replaying := true, replays := s.now :: k.replays.filter (fun t => s.now < t + 10000) })).bump (offReplay (fieldOf (Site.idx l.site))) 1)) ∧
  (∀ (s : State) (l : LinkEnd), exec (.linkAlivePulse l) s = .next (s.modLink (linkEndKey l) (fun k => { k with quiet := 0 }))) ∧
  (∀ (s : State) (l : LinkEnd) (cycles : Nat), s.routing (Site.idx l.site) = true → (s.link (linkEndKey l)).state = .up →
    ((s.link (linkEndKey l)).quiet + cycles < 256 → exec (.portDead l cycles) s =
      .next (s.modLink (linkEndKey l) (fun k => { k with quiet := k.quiet + cycles }))) ∧
    (256 ≤ (s.link (linkEndKey l)).quiet + cycles → exec (.portDead l cycles) s =
      .next ((((s.modLink (linkEndKey l) (fun k => { k with quiet := 256 })).loseLink (linkEndKey l) (fun k => { k with state := .dead })).mapChange).failPaths
        { link := some (Site.idx l.site, l.port) }))) ∧
  (∀ (s u t : State) (x : Site) (o : OutPort) (i : Nat) (p : Packet), i = Site.idx x → s.routing i = true → u = s.letIn i →
    u.pick (outNo i o) (u.fab.flight.filter (u.readyFor i o)) = some p →
    t = (u.grantCounts (outNo i o) (u.fab.flight.filter (u.readyFor i o)) p).countLate i p p.waited →
    (∀ j d e, hopTo p i o = some (.wire j d e) → exec (.outputGrant x o) s = .next (t.sendWire p j d e)) ∧
    (∀ j, hopTo p i o = some (.delivered j) → exec (.outputGrant x o) s = .next (t.movePacket p { p with pos := .delivered j, waited := 0 }))) ∧
  (∀ (s : State) (id cycles i w : Nat) (inp : Option Dir) (p d u : Packet), s.packet id = some p → p.pos = .router i inp → p.typ ≠ .fold → p.typ ≠ .ttData →
    s.atHead p = true → s.routing i = true → w = p.waited + cycles → d = { p with waited := 0, lane := .laneD } → u = { p with waited := 0, lane := .laneU } →
    (p.lane = .normal →
      ((s.output p i).isSome = true → w < (if p.vc = 1 then max s.runoutWait 64 else s.runoutWait) →
        exec (.runoutMove id cycles) s = .next (s.setPacket p { p with waited := w })) ∧
      ((s.output p i).isSome = true → (if p.vc = 1 then max s.runoutWait 64 else s.runoutWait) ≤ w → s.fab.installed.clean i p.dest = true →
        (s.roomFor d p.pos = true → exec (.runoutMove id cycles) s = .next (((s.movePacket p d).bump (offRunout (fieldOf i)) 1).countLate i p w)) ∧
        (s.roomFor d p.pos = false → exec (.runoutMove id cycles) s = .next (s.setPacket p { p with waited := w }))) ∧
      (((if p.vc = 1 then max s.runoutWait 64 else s.runoutWait) ≤ w ∧ s.fab.installed.clean i p.dest = false) ∨ (s.output p i).isNone = true →
        (s.fab.recomputing = false → s.roomFor u p.pos = true →
          exec (.runoutMove id cycles) s = .next (((s.movePacket p u).bump (offRunout (fieldOf i)) 1).countLate i p w)) ∧
        (s.fab.recomputing = true ∨ s.roomFor u p.pos = false → exec (.runoutMove id cycles) s = .next (s.setPacket p { p with waited := w })))) ∧
    (p.lane = .laneD →
      (s.fab.installed.clean i p.dest = true → exec (.runoutMove id cycles) s = .next (s.setPacket p { p with waited := w })) ∧
      (s.fab.installed.clean i p.dest = false → s.fab.recomputing = false → s.roomFor u p.pos = true →
        exec (.runoutMove id cycles) s = .next (s.movePacket p u))))

/-- With a map change in progress and lane U empty of packets that the old tree can still move, TABLE_INSTALL installs the tables of
the live map, opens lane U, advances the generation, ends BUSY of a field command but FIELD_FABRIC_RESET, is counted, replaces or
discards the packets that the new tables cannot deliver and assigns the checkers; otherwise it waits. DARK_BIT_ARRIVE gives a
powered router the dark and out-of-service bits, and settles the packets that it holds; INFLIGHT_QUIET_RESET sets the quiet in-
flight count of a function to 0; MARK_OUT_OF_SERVICE sets a field's bit where no cluster of it is owned, RETURN_TO_SERVICE clears
it where the field is powered and was reset since, FIELD_FABRIC_RESET resets the routers of a field around which detours are
active and retrains its links; each command leaves the register busy until it is done, and where its condition fails reports
ILLEGAL_DESCRIPTOR and changes nothing else. (The meaning of an empty lane U where the old tree has died is the model's choice,
log 165.) (R28 (01_engine_organisation), R201 (08_wafer_fabric), R207 (08_wafer_fabric), R215 (08_wafer_fabric), R216
(08_wafer_fabric), R217 (08_wafer_fabric), R223 (08_wafer_fabric), R236 (09_fold_reduction_and_timetable_mode), R400
(15_result_integrity)) -/
def Obligations.MapChangesReachRoutersAndTables : Prop :=
  (∀ s : State,
    (s.fab.recomputing = true → s.laneUDone = true → exec .tableInstall s = .next
      ((((s.modFab (fun f =>
        { f with installed := s.liveMap, recomputing := false, generation := f.generation + 1,
                 fieldCmd := if s.fab.fieldCmd.field.toNat / 2 ^ 30 = 3 then s.fab.fieldCmd else { s.fab.fieldCmd with busy := false } })).bump
        (fabBase + 0x38) 1).each s.fab.flight State.settlePacket).assignCheckers)) ∧
    (s.fab.recomputing = false ∨ s.laneUDone = false → exec .tableInstall s = .next s)) ∧
  (∀ (s : State) (x : Site) (i : Nat), i = Site.idx x → s.routing i = true →
    exec (.darkBitArrive x) s = .next ((s.modFab (fun f => { f with held := Tab.put (0, 0) f.held i (f.dark, f.oos) })).each
      (s.fab.flight.filter (fun p => match p.pos with | .router j _ => i == j | _ => false)) State.settlePacket)) ∧
  (∀ (s : State) (f : Func), s.quietSince f.val = true → ∃ t, exec (.inflightQuietReset f) s = .next t ∧
    Tab.get 0 t.fab.inflight f.val = 0 ∧ (∀ e < 4, s.quietSince (64 + 4 * f.val + e) = true → Tab.get 0 t.fab.tokenFlight (4 * f.val + e) = 0)) ∧
  (∀ (s b : State) (f : Func) (fld : FieldIx) (cmd : Nat), s.reachesPF f.val = true → s.fab.fieldCmd.busy = false →
    b = s.modFab (fun x => { x with fieldCmd := { field := fieldCmdWord cmd fld, busy := true, status := stOk } }) →
    (cmd = 1 → (∀ e ∈ s.cl, e.2.owner.isSome = true → fieldOf e.1 ≠ fld.val) → exec (.markOutOfService f fld) s =
      .next ((((b.modFab (fun x => { x with oos := setBit64 x.oos fld.val true })).modField fld.val (fun x => { x with wasReset := false })).mapChange).failPaths
        { field := some fld.val })) ∧
    (cmd = 2 → s.isOos fld.val = true → s.isDark fld.val = false → (s.field fld.val).wasReset = true → exec (.returnToService f fld) s =
      .next ((b.modFab (fun x => { x with oos := setBit64 x.oos fld.val false })).mapChange)) ∧
    (cmd = 3 → s.isDark fld.val = true ∨ s.isOos fld.val = true → (s.fab.installed.dark ||| s.fab.installed.oos).getLsbD fld.val = true →
      s.fab.recomputing = false → exec (.fieldFabricReset f fld) s =
      .next ((((b.loseField fld.val).retrainField fld.val true).mapChange).resetDone fld.val))) ∧
  (∀ (s b : State) (f : Func) (fld : FieldIx) (cmd : Nat), s.reachesPF f.val = true → s.fab.fieldCmd.busy = false →
    b = s.modFab (fun x => { x with fieldCmd := { field := fieldCmdWord cmd fld, busy := false, status := stIllegal } }) →
    (cmd = 1 → (∃ e ∈ s.cl, e.2.owner.isSome = true ∧ fieldOf e.1 = fld.val) → exec (.markOutOfService f fld) s = .next b) ∧
    (cmd = 2 → s.isOos fld.val = false ∨ s.isDark fld.val = true ∨ (s.field fld.val).wasReset = false → exec (.returnToService f fld) s = .next b) ∧
    (cmd = 3 → (s.isDark fld.val = false ∧ s.isOos fld.val = false) ∨ (s.fab.installed.dark ||| s.fab.installed.oos).getLsbD fld.val = false ∨
      s.fab.recomputing = true → exec (.fieldFabricReset f fld) s = .next b))

/-- A descriptor that completes, whose ring is enabled and whose context is readable, with no reset of its partition in progress,
writes the 32 bytes of its record at CBASE + 32 x (c mod 2^LOG2SZ), where c is CPROD; byte 15 of the record is PHASE, 1 XOR bit
LOG2SZ of c; CPROD advances. With the completion area in host memory the 32 bytes there read as the record and every other byte as
before; with it in device memory within the pages of the function the record is written there, and outside them the ring enters
error with cause 0x4. (R323) -/
def Obligations.RecordsArePlacedByCprod : Prop :=
  ∀ (s : State) (ring : Nat) (index : W32) (d : Desc) (p : Report) (g : Ring) (a phase : Nat),
    s.desc ring index = some d → g = s.ring ring → s.resetting d.func = false → g.kind ≠ .disabled → (g.error = true → g.ecause ≠ 1) →
    s.ctxBad ring = false → a = g.cbase.toNat + 32 * (g.cprod.toNat % 2 ^ g.logsz) → phase = 1 ^^^ (g.cprod.toNat.testBit g.logsz).toNat →
    (recordBytes d.tag index.toNat p phase)[15]? = some (BitVec.ofNat 8 phase) ∧
    (g.cloc = false →
      (s.completeDesc ring index p).hst.mem.read a 32 = recordBytes d.tag index.toNat p phase ∧
      ((s.completeDesc ring index p).ring ring).cprod = g.cprod + 1 ∧
      (∀ b, b < a ∨ a + 32 ≤ b → (s.completeDesc ring index p).hst.mem.get b = s.hst.mem.get b)) ∧
    (g.cloc = true →
      (s.owns d.func a 32 = true → (s.dropDesc ring index).badMerge a 32 = [] →
        s.completeDesc ring index p = ((((((s.dropDesc ring index).demand none a 32 true none).devWrite a (recordBytes d.tag index.toNat p phase)).useCtx
          ring).modRing ring (fun x => { x with cprod := x.cprod + 1 })).interrupt ring d.func d.irq)) ∧
      (s.owns d.func a 32 = false → s.completeDesc ring index p = (s.dropDesc ring index).ringErr ring 4))

namespace Sys2Proof.Machine

/-- The descriptor `d` that `r` names has the opcode, has not started, may start (R312), and obeys what holds for every opcode
(R314, R315). -/
def State.starts (s : State) (r : DescRef) (d : Desc) (op : Nat) : Prop :=
  s.desc r.ring.val r.index = some d ∧ s.ready = true ∧ d.started = false ∧ d.opcode = op ∧ s.startable d = true ∧ s.headerBad d = false

/-- The descriptor `d` that `r` names has the opcode and has started. -/
def State.inWork (s : State) (r : DescRef) (d : Desc) (op : Nat) : Prop :=
  s.desc r.ring.val r.index = some d ∧ d.started = true ∧ d.opcode = op

end Sys2Proof.Machine

/-- A descriptor in progress that has not started, may start and obeys R314 and R315 takes effect: NOP and FENCE complete with OK;
QUIESCE with QMODE 1 ends quiescing and completes with OK; TIMESTAMP completes with the PTP time of its port in half-nanoseconds
modulo 2^64 where the port has a time base with lock, else 0, and the uptime; FRAME_BIND binds the stream context, from the first
slot that starts no earlier than 1 ms after, and completes with OK. A descriptor with a reserved byte set, or an opcode that is
not listed, completes with ILLEGAL_DESCRIPTOR. (R312 (11_host_interface_and_rings), R314 (11_host_interface_and_rings), R315
(11_host_interface_and_rings), R316 (11_host_interface_and_rings), R325 (11_host_interface_and_rings), R326
(11_host_interface_and_rings), R354 (13_media_ports_and_frame_slots), R357 (13_media_ports_and_frame_slots)) -/
def Obligations.DescriptorsThatNeedNoWaitComplete : Prop :=
  (∀ (s : State) (r : DescRef) (d : Desc), s.starts r d 1 → exec (.nop r) s = .next (s.finishDesc r.ring.val r.index { status := 0x0000 })) ∧
  (∀ (s : State) (r : DescRef) (d : Desc), s.starts r d 2 → d.field 8 1 ≤ 1 →
    exec (.fence r) s = .next (s.finishDesc r.ring.val r.index { status := 0x0000 })) ∧
  (∀ (s : State) (r : DescRef) (d : Desc), s.starts r d 10 → d.field 8 1 = 1 →
    exec (.resume r) s = .next ((s.modPart d.func (fun p => { p with quiesced := false })).finishDesc r.ring.val r.index { status := 0x0000 })) ∧
  (∀ (s : State) (r : DescRef) (d : Desc) (p : Nat), s.starts r d 13 → p = d.field 8 1 → p < 16 ∨ p = 255 →
    exec (.timestamp r) s = .next (s.finishDesc r.ring.val r.index
      { status := 0x0000, r0 := if p < 16 ∧ (s.mport p).hasTime = true then ((s.ptpTime p) % (2 ^ 64 : Int)).toNat else 0, r1 := s.now })) ∧
  (∀ (s : State) (r : DescRef) (d : Desc) (x : Ctx) (b : Binding), s.starts r d 6 → d.bop = 0 → s.bindBad d = false →
    x = s.ctx d.stream → b = { func := d.func, cfgid := d.cfgid, latency := d.field 16 4, fring := d.fring, args := d.args 24,
                               ring := s.ringNum d.func d.ring, next := x.firstSlot (s.ptpTime x.tport + 2000000) } →
    exec (.frameBind r) s = .next ((s.modCtx d.stream (fun y => { y with bound := some b })).finishDesc r.ring.val r.index
      { status := 0x0000 })) ∧
  (∀ (s : State) (r : DescRef) (d : Desc) (k : Nat), s.desc r.ring.val r.index = some d → s.ready = true → d.started = false →
    s.startable d = true → d.opcode = 1 ∧ 8 ≤ k ∧ k < 64 ∧ d.field k 1 ≠ 0 ∨ 13 < d.opcode →
    exec (.nop r) s = .next (s.finishDesc r.ring.val r.index { status := 0x0102 }))

namespace Sys2Proof.Machine

/-- The descriptor that `r` names has started now. -/
def State.begun (s : State) (r : DescRef) : State := s.modDesc r.ring.val r.index (fun x => { x with started := true, since := s.now })

end Sys2Proof.Machine

/-- A descriptor in progress that may start and passes its checks starts: COPY and DIGEST record the uptime and their view, the groups
whose V_g is odd; QUIESCE stops frame-slot starts and pool dispatch; EVENT_WAIT waits; CONFIG_LOAD, whose image is read without
error and passes its check, begins the drain with its deadline, with an image that fails the check completes with
ILLEGAL_DESCRIPTOR, and with one that holds an uncorrectable line with MEM_UNCORRECTABLE; UNLOAD begins the drain of its
configuration; FRAME_UNBIND releases the waiting frames, and ends the binding at once where no run is in progress. (R6 (00_scope),
R159 (06_dataflow_and_steering), R163 (06_dataflow_and_steering), R262 (10_memory_system), R285 (10_memory_system), R286
(10_memory_system), R315 (11_host_interface_and_rings), R316 (11_host_interface_and_rings), R317 (11_host_interface_and_rings),
R357 (13_media_ports_and_frame_slots), R410 (15_result_integrity)) -/
def Obligations.DescriptorsThatWaitStart : Prop :=
  (∀ (s : State) (r : DescRef) (d : Desc), s.starts r d 3 → s.copyBad d = false →
    exec (.copy r none) s = .next (s.modDesc r.ring.val r.index (fun x => { x with started := true, since := s.now, view := s.viewNow })) ∧
    (∀ w, d.srcHost = true ∨ d.dstHost = true → exec (.copy r (some w)) s = .next (s.finishDesc r.ring.val r.index { status := 0x0102 }))) ∧
  (∀ (s : State) (r : DescRef) (d : Desc), s.starts r d 9 → s.digestBad d = false →
    exec (.digest r) s = .next (s.modDesc r.ring.val r.index (fun x => { x with started := true, since := s.now, view := s.viewNow }))) ∧
  (∀ (s : State) (r : DescRef) (d : Desc), s.starts r d 10 → d.field 8 1 = 0 →
    exec (.quiesce r) s = .next ((s.begun r).modPart d.func (fun p => { p with quiesced := true }))) ∧
  (∀ (s : State) (r : DescRef) (d : Desc), s.starts r d 12 → s.waitBad d = false → exec (.eventWait r) s = .next (s.begun r)) ∧
  (∀ (s : State) (r : DescRef) (d : Desc) (m : Image), s.starts r d 4 → d.lctl = 0 → s.loadWaits d = false → s.loadBad d = false →
    s.badRead none d.image d.imgLen = [] → m = imageOf (s.devRead none d.image d.imgLen) →
    (∀ k l, s.checkImage d.func d.loadCfg m = some k → l = loadFrom d m k s.now (s.pairsOn d.func) →
      exec (.configLoad r) s = .next (((s.demand none d.image d.imgLen false none).begun r).modCfg d.func d.loadCfg
        (fun c => { c with load := some { l with oldEpoch := s.epochOf d.func d.loadCfg } })) ∧
      l.phase = .drain ∧ l.deadline = s.now + (if d.field 22 2 = 0 then 100 else d.field 22 2)) ∧
    (s.checkImage d.func d.loadCfg m = none →
      exec (.configLoad r) s = .next ((s.demand none d.image d.imgLen false none).finishDesc r.ring.val r.index { status := 0x0102 }))) ∧
  (∀ (s : State) (r : DescRef) (d : Desc) (x : Nat) (l : List Nat), s.starts r d 4 → d.lctl = 0 → s.loadWaits d = false → s.loadBad d = false →
    s.badRead none d.image d.imgLen = x :: l → exec (.configLoad r) s =
      .next (((s.demand none d.image d.imgLen false none).memUEs 7 (x :: l)).finishDesc r.ring.val r.index { status := 0x0301 })) ∧
  (∀ (s : State) (r : DescRef) (d : Desc) (l : Load), s.starts r d 4 → d.lctl = 1 → s.loadWaits d = false → d.image = 0 → d.imgLen = 0 →
    d.loadCfg ≤ 255 → (s.cfg d.func d.loadCfg).loaded = true →
    l = { desc := (r.ring.val, r.index), unload := true, deadline := s.now + (if d.field 22 2 = 0 then 100 else d.field 22 2),
          oldEpoch := s.epochOf d.func d.loadCfg } →
    exec (.unload r) s = .next ((s.begun r).modCfg d.func d.loadCfg (fun c => { c with load := some l }))) ∧
  (∀ (s : State) (r : DescRef) (d : Desc) (b : Binding), s.starts r d 6 → d.bop = 1 → s.unbindBad d = false →
    (s.ctx d.stream).bound = some b → b.running.isSome = true ∨ b.anc ≠ [] →
    exec (.frameUnbind r) s = .next ((s.begun r).modCtx d.stream (fun x =>
      { x with bound := some { b with waiting := [], unbind := some (r.ring.val, r.index) } })))

/-- A LAUNCH on a work ring that may start, of a loaded configuration that is not frame-bound, with no load, no run and no earlier
LAUNCH of it waiting and no quiescing, starts a run with its arguments; where the configuration is halted, the LAUNCH completes
with the status and cause that halted it and the tokens left in the queues. A LAUNCH on a pool ring goes to the free group that
the placement rule picks. (R120 (04_compute_core), R279 (10_memory_system), R286 (10_memory_system), R316
(11_host_interface_and_rings), R317 (11_host_interface_and_rings), R318 (11_host_interface_and_rings), R319
(11_host_interface_and_rings), R304 (11_host_interface_and_rings)) -/
def Obligations.LaunchesStartTheirConfiguration : Prop :=
  (∀ (s : State) (r : DescRef) (d : Desc) (k : Cfg) (u : Run), s.starts r d 5 → k = s.cfg d.func d.cfgid → s.onPool d = false → d.place = 0 →
    k.loaded = true → k.frame = false → k.load = none → (s.prt d.func).quiesced = false →
    u = { desc := some (r.ring.val, r.index), args := d.args 16, train := d.train } →
    (k.halted = none → k.run = none → s.launchBehind d = false →
      exec (.launch r) s = .next ((s.begun r).startRun d.func d.cfgid u false)) ∧
    (∀ p, k.halted = some p → exec (.launch r) s = .next (s.finishDesc r.ring.val r.index
      { p with flags := 0, r0 := s.tokensIn k.clusters, r1 := 0 }))) ∧
  (∀ (s : State) (r : DescRef) (d : Desc) (n c h : Nat) (u : Run), s.starts r d 5 → s.onPool d = true → (s.prt d.func).quiesced = false →
    d.cfgid = 0 → s.owns d.func d.place 1 = true → s.poolPick d = some (n, c, h) →
    u = { desc := some (r.ring.val, r.index), args := d.args 16, train := d.train, group := n } →
    (n, c) ∈ s.poolGroups d ∧ s.groupFree d.func c = true ∧ h = s.placeHops d.func c d.place ∧
    (∀ x ∈ s.poolGroups d, s.groupFree d.func x.2 = true → h ≤ s.placeHops d.func x.2 d.place) ∧
    exec (.poolDispatch r) s = .next (((s.readTable d).begun r).startRun d.func c u false))

/-- When a run of a configuration whose clusters are different starts at once: every loaded core of its clusters that are neither
quarantined nor retired has g12 to g15 from the arguments g0 zero, and g1 to g11 and k0 to k3 from its initial state, FA and FB
0x0F, flags 0, program counter 0, DONE 0, is running, and keeps its instruction memory, local data memory and port bindings; a
core of a quarantined or retired cluster is not done and otherwise stays as it was; a core that is not loaded, and every core of
every other cluster, stays as it was; scratchpad, tiles and queues of every cluster keep their contents. (R12
(01_engine_organisation), R120 (04_compute_core), R152 (06_dataflow_and_steering), R413 (15_result_integrity)) -/
def Obligations.LaunchStartsEveryLoadedCore : Prop :=
  ∀ (s t : State) (f c : Nat) (u : Run), (s.cfg f c).clusters.Nodup → t = s.startRun f c u false →
    (∀ i ∈ (s.cfg f c).clusters, s.barred i = true → ∀ n, (t.clu i).getCore n = { (s.clu i).getCore n with done := false }) ∧
    (∀ i ∈ (s.cfg f c).clusters, s.barred i = false → ∀ n k k', k = (s.clu i).getCore n → k' = (t.clu i).getCore n →
      (k.seq = .unloaded → k' = k) ∧
      (k.seq ≠ .unloaded → (∀ j < 4, k'.reg (12 + j) = u.args.getD j 0) ∧ k'.reg 0 = 0 ∧ (∀ j, 0 < j → j < 12 → k'.reg j = Tab.get 0 k.initG j) ∧ k'.k = k.initK ∧
        k'.fa = 0x0F ∧ k'.fb = 0x0F ∧ k'.flags = 0 ∧ k'.pc = 0 ∧ k'.done = false ∧ k'.seq = .running ∧
        k'.imem = k.imem ∧ k'.lmem = k.lmem ∧ k'.port = k.port)) ∧
    (∀ i, i ∉ (s.cfg f c).clusters → t.clu i = s.clu i) ∧
    (∀ i, (t.clu i).sp = (s.clu i).sp ∧ (t.clu i).pass = (s.clu i).pass ∧ (t.clu i).queue = (s.clu i).queue)

/-- A started COPY whose ranges still hold and whose source lines are sound moves its bytes, read in its view, and completes with OK;
with an uncorrectable source line it completes with MEM_UNCORRECTABLE and moves nothing; one whose ranges no longer hold completes
with ILLEGAL_DESCRIPTOR. A started DIGEST completes with its 128-bit digest as its results, DIGEST_MISMATCH where it was to be
compared and differs, and with MEM_UNCORRECTABLE where a line is uncorrectable. QUIESCE completes once no run of its function is
in progress. EVENT_WAIT completes with OK when its condition holds, and with DEADLINE_MISSED once a non-zero deadline has passed
without it; a word in an uncorrectable line ends it with MEM_UNCORRECTABLE (that this read is reported with source 8 is the
model's choice, log 80). A completion timeout of a host read of COPY completes it with ILLEGAL_DESCRIPTOR; of the read of a
descriptor it puts the ring in error with ECAUSE 2. (R262 (10_memory_system), R285 (10_memory_system), R286 (10_memory_system),
R316 (11_host_interface_and_rings), R325 (11_host_interface_and_rings), R331 (11_host_interface_and_rings), R410
(15_result_integrity)) -/
def Obligations.StartedDescriptorsComplete : Prop :=
  (∀ (s : State) (r : DescRef) (d : Desc), s.inWork r d 3 → s.copyBad d = false →
    (d.srcHost = true → exec (.copyDone r) s = .next ((s.copyStore d (s.hst.mem.read d.src d.len)).finishDesc r.ring.val r.index { status := 0x0000 })) ∧
    (d.srcHost = false → s.badRead (some d.view) d.src d.len = [] → exec (.copyDone r) s = .next
      (((s.demand (some d.view) d.src d.len false none).copyStore d (s.devRead (some d.view) d.src d.len)).finishDesc r.ring.val r.index
        { status := 0x0000 })) ∧
    (d.srcHost = false → ∀ x l, s.badRead (some d.view) d.src d.len = x :: l → exec (.copyDone r) s = .next
      (((s.demand (some d.view) d.src d.len false none).memUEs 2 (x :: l)).finishDesc r.ring.val r.index { status := 0x0301 }))) ∧
  (∀ (s : State) (r : DescRef) (d : Desc), s.inWork r d 3 → s.copyBad d = true →
    exec (.copyDone r) s = .next (s.finishDesc r.ring.val r.index { status := 0x0102 })) ∧
  (∀ (s : State) (r : DescRef) (d : Desc), s.inWork r d 9 → s.digestBad d = false → ∀ x l, s.badRead (some d.view) (d.field 8 8) (d.field 16 8) = x :: l →
    exec (.digestDone r) s = .next (((s.demand (some d.view) (d.field 8 8) (d.field 16 8) false none).memUEs 2 (x :: l)).finishDesc
      r.ring.val r.index { status := 0x0301 })) ∧
  (∀ (s : State) (r : DescRef) (d : Desc) (h : BitVec 128), s.inWork r d 9 → s.digestBad d = false →
    s.badRead (some d.view) (d.field 8 8) (d.field 16 8) = [] →
    h = digest (s.devRead (some d.view) (d.field 8 8) (d.field 16 8)) (BitVec.ofNat 128 (d.field 24 16)) →
    exec (.digestDone r) s = .next ((s.demand (some d.view) (d.field 8 8) (d.field 16 8) false none).finishDesc r.ring.val r.index
      { status := if d.field 56 1 = 1 ∧ h.toNat ≠ d.field 40 16 then 0x0702 else 0x0000, r0 := h.toNat % 2 ^ 64, r1 := h.toNat / 2 ^ 64 })) ∧
  (∀ (s : State) (r : DescRef) (d : Desc), s.inWork r d 10 → (∀ e ∈ (s.prt d.func).cfg, e.2.run = none) →
    exec (.quiesceComplete r) s = .next (s.finishDesc r.ring.val r.index { status := 0x0000 })) ∧
  (∀ (s t : State) (r : DescRef) (d : Desc), s.inWork r d 12 → t = (if d.field 8 1 = 0 then s.demand none (d.field 16 8) 4 false none else s) →
    (d.field 8 1 = 0 → s.badRead none (d.field 16 8) 4 = []) →
    (s.waitHolds d = true → exec (.eventWaitCheck r) s = .next (t.finishDesc r.ring.val r.index { status := 0x0000 })) ∧
    (d.field 32 8 ≠ 0 → d.field 32 8 < s.now → s.waitHolds d = false →
      exec (.eventWaitDeadline r) s = .next (t.finishDesc r.ring.val r.index { status := 0x0802 }))) ∧
  (∀ (s : State) (r : DescRef) (d : Desc) (x : Nat) (l : List Nat), s.inWork r d 12 → d.field 8 1 = 0 → s.badRead none (d.field 16 8) 4 = x :: l →
    exec (.eventWaitCheck r) s = .next (((s.demand none (d.field 16 8) 4 false none).memUEs 8 (x :: l)).finishDesc r.ring.val r.index
      { status := 0x0301 })) ∧
  (∀ (s : State) (r : DescRef) (d : Desc), s.inWork r d 3 → d.srcHost = true →
    exec (.completionTimeout r) s = .next (s.finishDesc r.ring.val r.index { status := 0x0102 })) ∧
  (∀ (s : State) (r : DescRef) (f : Nat), s.desc r.ring.val r.index = none → s.ringOwner r.ring.val = some f → s.canTake r.ring.val f = true →
    (s.ring r.ring.val).dloc = false → (s.ring r.ring.val).head = r.index →
    exec (.completionTimeout r) s = .next (s.ringErr r.ring.val 2))

/-- When a draining configuration has no run, no token and no transfer left, DRAIN_END gives a CONFIG_LOAD the partition's next epoch;
past the deadline DRAIN_TIMEOUT stops the cores, abandons transfers and discards tokens first, and the run in progress completes
with DRAIN_TIMEOUT; both go on to the load phase as soon as the new epoch may be used. In the load phase a CFG_BODY packet that
has arrived at a cluster which the load places with the packet's epoch writes its bytes into the instruction memory or local data
memory of the core that its ARG names; elsewhere it is discarded. Once no such packet is in flight and no line of the image is
uncorrectable, CONFIG_LOAD_DONE writes every cluster, installs trees, entries and barriers, and completes the descriptor, with
DRAIN_TIMEOUT where the drain ended by timeout with anything in progress or discarded, else OK, with the discarded tokens and the
clusters loaded as results; with an uncorrectable line it completes with MEM_UNCORRECTABLE and leaves the clusters unloaded; for
UNLOAD it returns the clusters to the unloaded state. (That bodies travel as packets from the crust block of the image's stack is
the model's reading, log 168.) (R119 (04_compute_core), R156 (06_dataflow_and_steering), R159 (06_dataflow_and_steering), R160
(06_dataflow_and_steering), R163 (06_dataflow_and_steering), R317 (11_host_interface_and_rings), R321
(11_host_interface_and_rings), R325 (11_host_interface_and_rings)) -/
def Obligations.LoadsProceedThroughTheirPhases : Prop :=
  (∀ (s : State) (f : Func) (c : Fin 256) (l : Load) (e : BitVec 2), (s.cfg f.val c.val).load = some l → l.phase = .drain → e = (s.prt f.val).epoch + 1 →
    s.drained (s.cfg f.val c.val) = true →
    exec (.drainEnd f c) s = .next ((if l.unload = true then s.modCfg f.val c.val (fun k => { k with load := some { l with phase := .epochWait } })
      else (s.modPart f.val (fun p => { p with epoch := e })).modCfg f.val c.val (fun k =>
        { k with load := some { l with phase := .epochWait, epoch := e } })).enterLoad f.val c.val)) ∧
  (∀ (s : State) (f : Func) (c : Fin 256) (l : Load), (s.cfg f.val c.val).load = some l → l.phase = .drain → l.deadline ≤ s.now →
    exec (.drainTimeout f c) s = .next (((s.discardPhase f.val c.val).beginEpoch f.val c.val l.unload).enterLoad f.val c.val)) ∧
  (∀ (s : State) (c : CoreRef) (dataMem : Bool) (addr len i : Nat) (p : Packet), i = Site.idx c.site →
    s.fab.flight.find? (fun p => p.typ == .cfgBody && p.pos == .delivered i && bits p.arg 47 44 == c.n.val
      && bitOf p.arg 43 == dataMem && p.arg % 65536 == addr && p.payload.length == len) = some p →
    ((s.clu i).resetting = false → s.loading p.func i p.epoch = true → exec (.cfgBody c dataMem addr len) s = .next
      ((s.removePacket p).modCore c (fun k => k.body dataMem addr p.payload))) ∧
    ((s.clu i).resetting = true ∨ s.loading p.func i p.epoch = false → exec (.cfgBody c dataMem addr len) s = .next (s.discardAt i p))) ∧
  (∀ (s t : State) (f : Func) (c : Fin 256) (l : Load) (p : Report), t = s.enterLoad f.val c.val → (t.cfg f.val c.val).load = some l → l.phase = .load →
    p = { status := if l.timedOut = true ∧ (l.dirty = true ∨ l.discarded ≠ 0) then 0x0201 else 0x0000,
          r0 := l.discarded, r1 := l.sections.length } →
    (l.unload = false → t.bodiesLeft f.val l = false → t.badRead none l.addr l.len = [] → exec (.configLoadDone f c) s = .next
      (((if l.frame = true then t.install f.val c.val l else (t.install f.val c.val l).bindLost f.val c.val)).finishDesc l.desc.1 l.desc.2 p)) ∧
    (∀ x b, l.unload = false → t.bodiesLeft f.val l = false → t.badRead none l.addr l.len = x :: b → exec (.configLoadDone f c) s = .next
      (((t.memUEs 7 (x :: b)).unloadCfg f.val c.val (l.sections.map Section.site)).finishDesc l.desc.1 l.desc.2 { status := 0x0301 })) ∧
    (l.unload = true → exec (.configLoadDone f c) s =
      .next ((t.unloadCfg f.val c.val (t.cfg f.val c.val).clusters).finishDesc l.desc.1 l.desc.2 p)))

/-- When every loaded core of every cluster of a running configuration has executed DONE, every carry unit is idle, no rate count is
outstanding and no transfer is in progress, the run completes: with PREDICTOR_MAKEUP where a tile of it was marked for make-up,
else OK_FLAGS where a flag of a core is set, else OK; FLAGS is the OR of the cores' flags, RESULT0 the tokens left in the queues,
RESULT1 the pool group. A run for which a silent error was detected completes with SDE_DETECTED and no flags. Its descriptor
completes once its packets that write device memory have been performed: at once where none is on its way, else when
LAUNCH_COMPLETE finds them gone; or its frame-slot run ends. (R62 (02_number_formats), R152 (06_dataflow_and_steering), R185
(07_sparse_inference), R272 (10_memory_system), R325 (11_host_interface_and_rings), R327 (11_host_interface_and_rings), R360
(13_media_ports_and_frame_slots), R402 (15_result_integrity)) -/
def Obligations.RunsComplete : Prop :=
  (∀ (s : State) (f : Func) (c : Fin 256) (d : Desc) (p : Report), (s.cfg f.val c.val).run = none → d.ending = some p →
    s.hst.descs.filter (fun d => d.ending.isSome) = [d] → (∀ q ∈ s.fab.flight, q.id ∉ d.writes) →
    exec (.launchComplete f c) s = .next (s.completeDesc d.ring d.index p)) ∧
  ∀ (s : State) (f : Func) (c : Fin 256) (k : Cfg) (u : Run) (p : Report) (t : State), k = s.cfg f.val c.val → k.run = some u →
    (∀ i ∈ k.clusters, (s.clu i).finished = true ∧ i ∉ s.fab.starts) →
    p = { status := if u.makeup = true then 0x0901 else if s.runFlags k.clusters ≠ 0 then 0x0001 else 0x0000, flags := s.runFlags k.clusters,
          r0 := s.tokensIn k.clusters, r1 := u.group } →
    t = (s.each k.clusters (fun x i => x.pairClean i (s.runEntry f.val u))) →
    (∀ r i q v, u.desc = some (r, i) → q = (if u.sde = true then { status := 0x0701, r0 := p.r0, r1 := p.r1 } else p) →
      v = (if u.sde = true ∧ u.train = true then (t.modCfg f.val c.val (fun x => { x with run := none })).markLost f.val
        else t.modCfg f.val c.val (fun x => { x with run := none })) →
      (v.writesOut f.val k.clusters = [] → exec (.launchComplete f c) s = .next (v.completeDesc r i q)) ∧
      (v.writesOut f.val k.clusters ≠ [] → exec (.launchComplete f c) s =
        .next (v.modDesc r i (fun d => { d with ending := some q, writes := v.writesOut f.val k.clusters })))) ∧
    (∀ x, u.desc = none → u.stream = some x → u.sde = false → exec (.launchComplete f c) s =
      .next ((t.modCfg f.val c.val (fun x => { x with run := none })).endFrameRun x p))

/-- FOLD at a router that holds the tree's node: a term from a child enters the buffer of its segment, or a free one, and a cluster's
own term, for which its node has a credit, takes that credit and answers the transfer; a packet of no tree, of a broken tree or of
another epoch is discarded and counted wherever it is, and one that its router is no node or no input for when it arrives.
FOLD_SEGMENT_SUM with every configured term present: the element sums are child 0 plus child 1 plus the local term; a node with a
parent and a credit sends them up and uses the credit; the root, with its target not held and, for the last segment of the round,
room for the round token, writes them at DEST + 256 x segment. A buffer that is freed returns its credits; FOLD_CREDIT_RECEIVE
hands one back to the sender unless the control network holds it. (R225 (09_fold_reduction_and_timetable_mode), R227
(09_fold_reduction_and_timetable_mode), R228 (09_fold_reduction_and_timetable_mode), R229 (09_fold_reduction_and_timetable_mode),
R230 (09_fold_reduction_and_timetable_mode), R231 (09_fold_reduction_and_timetable_mode), R233
(09_fold_reduction_and_timetable_mode), R234 (09_fold_reduction_and_timetable_mode), R236 (09_fold_reduction_and_timetable_mode),
R238 (09_fold_reduction_and_timetable_mode), R239 (09_fold_reduction_and_timetable_mode)) -/
def Obligations.FoldNodesSumSegments : Prop :=
  (∀ (s t : State) (id i : Nat) (p : Packet) (c : Nat) (tr : FoldTree) (n : FoldNode) (x : FoldIn), s.arrived id .fold = some (p, i) →
    s.treeOf p.func p.foldTree = some (c, tr) → tr.broken = false → tr.epoch = p.epoch → s.routing i = true → tr.node i = some n →
    n.input p.src = some x → s.foldStore i tr x p = some t →
    (x ≠ .own → exec (.fold id) s = .next (t.removePacket p)) ∧
    (x = .own → s.foldUsed i p.func p.foldTree true < tr.bufs → exec (.fold id) s =
      .next (((t.removePacket p).setFoldUsed i p.func p.foldTree true (s.foldUsed i p.func p.foldTree true + 1)).both i
        (fun c => c.answer p s.now)))) ∧
  (∀ (s : State) (id : Nat) (p : Packet), s.packet id = some p → p.typ = .fold →
    (∀ c tr, s.treeOf p.func p.foldTree = some (c, tr) → tr.broken = true ∨ tr.epoch ≠ p.epoch) →
    exec (.fold id) s = .next ((s.removePacket p).bump offFoldDiscard 1)) ∧
  (∀ (s : State) (id i : Nat) (p : Packet) (c : Nat) (tr : FoldTree), s.arrived id .fold = some (p, i) →
    s.treeOf p.func p.foldTree = some (c, tr) → tr.broken = false → tr.epoch = p.epoch → s.routing i = true →
    (∀ n, tr.node i = some n → n.input p.src = none) → exec (.fold id) s = .next ((s.removePacket p).bump offFoldDiscard 1)) ∧
  (∀ (s : State) (x : Site) (f : Func) (tree : Fin 1024) (round : Bool) (seg : Fin 65536) (b : SegBuf) (c : Nat) (t : FoldTree) (n : FoldNode),
    s.fab.segs.find? (fun y => y.isFor (Site.idx x) f.val tree.val round seg.val) = some b → s.treeOf f.val tree.val = some (c, t) →
    t.node (Site.idx x) = some n → b.complete n = true → t.broken = false → s.routing (Site.idx x) = true →
    (n.parent = 4 → (s.clu (Site.idx x)).heldAt (t.dest + 256 * b.seg) 256 = false →
      (t.isLast b = true → ((s.clu (Site.idx x)).getQueue t.doneq).room ≠ 0) →
      exec (.foldSegmentSum x f tree round seg) s = .next (s.foldRoot f.val c t n b)) ∧
    (n.parent ≠ 4 → s.foldUsed (Site.idx x) f.val tree.val false < t.bufs →
      exec (.foldSegmentSum x f tree round seg) s = .next (s.foldUp f.val t n b))) ∧
  (∀ (b : SegBuf) (i : Bool) (w0 w1 wl : List W8), b.c0 = some (w0, 0) → b.c1 = some (w1, 0) → b.loc = some wl →
    w0.length = 256 → w1.length = 256 → wl.length = 256 → ∀ j < 64, ((b.sum i).1.drop (4 * j)).take 4 =
      leBytes 4 (foldAdd i (foldAdd i (leNat ((w0.drop (4 * j)).take 4)) (leNat ((w1.drop (4 * j)).take 4))).1 (leNat ((wl.drop (4 * j)).take 4))).1) ∧
  (∀ (s : State) (x : Site) (f : Func) (tree : Fin 1024) (e : Nat × Nat × Nat × Nat × Nat),
    s.fab.foldCredits.find? (fun e => e.1 == Site.idx x && e.2.1 == f.val && e.2.2.1 == tree.val && !s.creditHeld e.2.2.2.2 e.1) = some e →
    exec (.foldCreditReceive x f tree) s = .next ((s.modFab (fun b => { b with foldCredits := dropFirst (· == e) b.foldCredits })).setFoldUsed
      e.1 f.val tree.val (e.2.2.2.1 == 1) (s.foldUsed e.1 f.val tree.val (e.2.2.2.1 == 1) - 1)))

/-- At an injection entry that is open, whose link is up and which leads somewhere, with the source clocked and not resetting: a token
stream with a credited token sends up to 8 tokens, which leave the queue; a PUT stream with a packet waiting that fits the entry
sends it; with nothing to send, or a source that is stopped, or a packet longer than the entry (the model's choice, log 173), the
entry passes and the slip is counted. A TT_DATA packet takes the hop of its entry's repetition and stands on the link to the next
router, or at its destination, where its tokens are stored, or its write performed. (R240 (09_fold_reduction_and_timetable_mode),
R241 (09_fold_reduction_and_timetable_mode), R242 (09_fold_reduction_and_timetable_mode), R244
(09_fold_reduction_and_timetable_mode), R245 (09_fold_reduction_and_timetable_mode), R246 (09_fold_reduction_and_timetable_mode)) -/
def Obligations.TimetableEntriesSendAndForward : Prop :=
  (∀ (s : State) (x : Site) (k : Fin 512) (e : TTEntry) (t : TTStream), (s.entriesAt (Site.idx x))[k.val]? = some e → e.inp = 4 →
    s.entryOpen e = true → s.entryLink e = true → e.leads.isSome = true → s.streamOf e.key e.stream = some t →
    (s.clocked t.src = true → (s.clu t.src).resetting = false →
      (t.put = false → ∀ p n, s.ttTokens e t (e.key / 256) = some (p, n) → exec (.ttInjectionEntry x k) s =
        .next ((s.fire t.src (fun c => c.modQueue t.sq (fun q => q.sendOut n))).ttInject e p)) ∧
      (t.put = true → ∀ i p, (s.clu t.src).ttPacket t.stream = some (i, p) → p.flits ≤ e.flits → exec (.ttInjectionEntry x k) s =
        .next ((s.fire t.src (fun c => c.ttSent i)).ttInject e { p with key := e.key, pos := .router e.site none }))) ∧
    (s.clocked t.src = false ∨ (s.clu t.src).resetting = true ∨ t.put = false ∧ s.ttTokens e t (e.key / 256) = none ∨
        t.put = true ∧ (∀ i p, (s.clu t.src).ttPacket t.stream = some (i, p) → e.flits < p.flits) → exec (.ttInjectionEntry x k) s =
      .next ((s.passEntry e).bump (offTtSlip (fieldOf e.site)) 1))) ∧
  (∀ (s t : State) (id i n : Nat) (d : Option Dir) (p q : Packet) (e g : TTEntry), s.packet id = some p → p.typ = .ttData → p.pos = .router i d →
    s.ttEntry p i d = some (e, n) → g = { e with passed := n } → q = { p with cyc := e.start + n * e.stride } → t = (s.skipTo e n).passEntry g →
    (∀ j y z, g.leads = some (.wire j y z) → exec (.ttForward id) s = .next (t.sendWire q j y z)) ∧
    (∀ j, g.leads = some (.delivered j) → exec (.ttForward id) s =
      .next ((t.movePacket p { q with pos := .delivered j }).ttDeliver j { q with pos := .delivered j }))) ∧
  (∀ (s : State) (id i : Nat) (p : Packet), s.packet id = some p → p.typ = .ttData → p.pos = .delivered i →
    exec (.ttForward id) s = .next (s.ttDeliver i p))

/-- A physical function that writes MEM_PAGE_SEL loads the selected entry into MEM_PAGE_ENTRY. With MEM_PAGE_CMD not busy: ALLOC of an
unmapped page with a consistent entry, within the quota and with space, zeroes the page and maps it, and a versioned page joins
its group; FREE of a mapped page that is not sealed zeroes and unmaps it; SET without PIN, or with PIN at the set where the page
already is, changes PIN; with another set the page starts to move and the command stays busy, unless a line that stopped its last
move is still uncorrectable: then it is pinned where it is (the model's choice, log 170); while it moves already the command stays
busy too; SEAL and OPEN change the state of a used group, OPEN only while no step of it is open. Each ends not busy, with STATUS
OK and the selected entry reloaded; a command whose check fails reports that check's status and changes nothing else; SEAL and
OPEN of an unused group are illegal. (R257 (10_memory_system), R277 (10_memory_system), R283 (10_memory_system), R287
(10_memory_system), R288 (10_memory_system), R289 (10_memory_system), R291 (10_memory_system), R292 (10_memory_system), R536
(00_scope)) -/
def Obligations.PageCommandsChangePages : Prop :=
  (∀ (s : State) (f : Func) (v : W32) (n : Nat), s.reachesPF f.val = true → n = v.toNat % 2097152 →
    exec (.memPageSelWrite f v) s = .next (s.modMem (fun m => { m with sel := n, entry := (s.page n).word }))) ∧
  (∀ (s : State) (f : Func) (p : Page) (z : State), s.reachesPF f.val = true → s.mem.cmd.busy = false → (s.page s.mem.sel).v = false →
    entryPage s.mem.entry = some p → (p.vers = true → (s.group p.vgroup).state = .unused ∨
      (s.group p.vgroup).state = .openG ∧ (s.group p.vgroup).owner = p.owner) →
    s.usedUnits p.owner + p.units ≤ s.quotaLimit p.owner → s.hasSpace p.spread p.setbase p.units = true →
    z = (s.zeroPage s.mem.sel).modPage s.mem.sel (fun _ => p) →
    exec (.allocPage f) s = .next ((if p.vers = true then z.modGroup p.vgroup (fun g => g.join p.owner) else z).pageDone (pageWord 1 s.heldGroup) 0x0000)) ∧
  (∀ (s : State) (f : Func) (p : Page) (z : State), s.reachesPF f.val = true → s.mem.cmd.busy = false → p = s.page s.mem.sel → p.v = true →
    s.sealedPage s.mem.sel = false →
    z = ((s.zeroPage s.mem.sel).modPage s.mem.sel (fun _ => {})).modMem (fun m => { m with mig := Tab.put {} m.mig m.sel {} }) →
    exec (.freePage f) s = .next ((if p.vers = true then z.modGroup p.vgroup Group.leave else z).pageDone (pageWord 2 s.heldGroup) 0x0000)) ∧
  (∀ (s : State) (f : Func) (p : Page) (e n : Nat) (pin : Bool) (z : State), s.reachesPF f.val = true → s.mem.cmd.busy = false → n = s.mem.sel →
    p = s.page n → e = s.mem.entry.toNat → pin = bitOf e 61 → s.setCheck = 0x0000 → z = s.modPage n (fun x => { x with pin := pin }) →
    (pin = false ∨ p.moving = none ∧ ((p.spread = bits e 40 38 ∧ p.setbase = bits e 37 33) ∨ s.moveBarred p = true) →
      exec (.setPage f) s = .next (z.pageDone (pageWord 3 s.heldGroup) 0x0000)) ∧
    (pin = true → p.moving = none → ¬ (p.spread = bits e 40 38 ∧ p.setbase = bits e 37 33) → s.moveBarred p = false → exec (.setPage f) s =
      .next ((z.startMove n (bits e 40 38) (bits e 37 33)).modMem (fun m =>
        { m with cmd := { field := pageWord 3 s.heldGroup, busy := true, status := 0x0000 }, setting := some n }))) ∧
    (pin = true → p.moving.isSome = true → exec (.setPage f) s = .next (z.modMem (fun m =>
      { m with cmd := { field := pageWord 3 s.heldGroup, busy := true, status := 0x0000 }, setting := some n })))) ∧
  (∀ (s : State) (f : Func) (g : VGroup), s.reachesPF f.val = true → s.mem.cmd.busy = false → (s.group g.val).state = .unused →
    exec (.sealGroup f g) s = .next (s.pageDone (pageWord 4 g.val) 0x0102) ∧ exec (.openGroup f g) s = .next (s.pageDone (pageWord 5 g.val) 0x0102)) ∧
  (∀ (s : State) (f : Func) (g : VGroup), s.reachesPF f.val = true → s.mem.cmd.busy = false → (s.group g.val).state ≠ .unused →
    exec (.sealGroup f g) s = .next ((s.modGroup g.val (fun x => { x with state := .sealed })).pageDone (pageWord 4 g.val) 0x0000) ∧
    ((s.tgroup g.val).step = none → exec (.openGroup f g) s =
      .next ((s.modGroup g.val (fun x => { x with state := .openG })).pageDone (pageWord 5 g.val) 0x0000)) ∧
    ((s.tgroup g.val).step.isSome = true → exec (.openGroup f g) s = .next (s.pageDone (pageWord 5 g.val) 0x8003))) ∧
  (∀ (s : State) (f : Func), s.reachesPF f.val = true → s.mem.cmd.busy = false →
    (s.allocCheck ≠ 0x0000 → exec (.allocPage f) s = .next (s.pageDone (pageWord 1 s.heldGroup) s.allocCheck)) ∧
    (s.freeCheck ≠ 0x0000 → exec (.freePage f) s = .next (s.pageDone (pageWord 2 s.heldGroup) s.freeCheck)) ∧
    (s.setCheck ≠ 0x0000 → exec (.setPage f) s = .next (s.pageDone (pageWord 3 s.heldGroup) s.setCheck))) ∧
  (∀ (s : State) (word : W32) (st : W16), (s.pageDone word st).mem.cmd = { field := word, busy := false, status := st } ∧
    (s.pageDone word st).mem.entry = if st = 0x0000 then (s.page s.mem.sel).word else s.mem.entry)

/-- A SCRUB reads the error reports of its controller and then a line: of a mapped page of its stack, of free storage, or of reserved
storage. It counts and writes back a line that can be corrected; one that cannot be counts, is marked where its page is mapped, is
logged and raises MEM_UE (in reserved storage it only counts). MIGRATION_MOVE copies a chunk of a moving page, and no cache keeps
a line of it; with the last the page stands at its new set, the old storage is free and the move is counted; a bad line ends the
move, and the page stays where it was. Once a migration window has lasted WINDOW it ends: the counts become those of the window
before; with MIG_EN set, and a window before it since ready, the candidates move in order of descending access count. A stream's
next line, where it is sound and not cached, comes into the cache, marked as its stream's; the line that it pushes out is evicted.
(That reports are read by a scrub is the model's choice, log 72.) (R258 (10_memory_system), R259 (10_memory_system), R260
(10_memory_system), R261 (10_memory_system), R262 (10_memory_system), R267 (10_memory_system), R274 (10_memory_system), R275
(10_memory_system), R276 (10_memory_system), R277 (10_memory_system), R278 (10_memory_system), R292 (10_memory_system)) -/
def Obligations.MemoryTendsItself : Prop :=
  (∀ (s t : State) (st : StackIx) (line : Nat) (found : LineFound) (free : Bool), t = s.scrubs st.val →
    free = (!(s.page (line % 68719476736 / 32768)).v) →
    (line < 137438953472 → free = false → s.stackOf (64 * (line % 68719476736)) = st.val) →
    (found = .clean → line ∉ s.mem.bad → line ∉ s.mem.soft → exec (.scrub st line found) s = .next t) ∧
    (found ≠ .uncorrectable → line ∉ s.mem.bad → found = .corrected ∨ line ∈ s.mem.soft → exec (.scrub st line found) s =
      .next ((t.modMem (fun m => { m with soft := m.soft.filter (· != line) })).bump (offCtl st.val 8) 1)) ∧
    (found = .uncorrectable ∨ line ∈ s.mem.bad → ∀ u, u = t.modMem (fun m =>
        { m with bad := if (line < 137438953472 ∧ free = true) ∨ line ∈ m.bad then m.bad else m.bad ++ [line] }) →
      (line < 137438953472 → exec (.scrub st line found) s = .next (u.memUE 4 (line % 68719476736))) ∧
      (137438953472 ≤ line → exec (.scrub st line found) s = .next (u.bump (memBase + 0x30) 1)))) ∧
  (∀ (s t u : State) (n : Fin 2097152) (sp b a : Nat), (s.page n.val).moving = some (sp, b) → a = n.val * 2097152 + 4096 * (s.page n.val).chunk →
    t = s.correctLines a 4096 → u = t.dropChunks n.val ((s.page n.val).chunk + 1) →
    (s.badRead none a 4096 = [] → (s.page n.val).chunk < 511 →
      exec (.migrationMove n) s = .next (u.modPage n.val (fun x => { x with chunk := x.chunk + 1 }))) ∧
    (s.badRead none a 4096 = [] → (s.page n.val).chunk = 511 →
      exec (.migrationMove n) s = .next ((((u.modPage n.val (fun x =>
        { x with moving := none, chunk := 0, spread := sp, setbase := b, stuck := [] })).dropPage n.val).bump (memBase + 0x38) 1).moveEnded n.val)) ∧
    (∀ x l v, s.badRead none a 4096 = x :: l → v = t.memUEs 6 (x :: l) →
      exec (.migrationMove n) s = .next (((v.dropChunks n.val (v.page n.val).chunk).modPage n.val (fun y =>
        { y with moving := none, chunk := 0, stuck := y.stuck ++ (x :: l) })).moveEnded n.val))) ∧
  (∀ (s : State) (aged : MemSys → MemSys), s.ready = true → s.mem.winStart + 1000 * max 4 (bits (s.reg (memBase + 8)).toNat 23 16) ≤ s.now →
    aged = (fun m => { m with winStart := s.now, winSeen := true, mig := m.mig.filterMap (fun e =>
      if e.2.total = 0 then none else some (e.1, { prevTotal := e.2.total, prevPair := e.2.pair })) }) →
    ((s.reg (memBase + 8)).getLsbD 31 = false ∨ s.mem.winSeen = false → exec .migrationWindowEnd s = .next (s.modMem aged)) ∧
    ((s.reg (memBase + 8)).getLsbD 31 = true → s.mem.winSeen = true → exec .migrationWindowEnd s =
      .next (((s.migCandidates.foldl (fun a x => migInsert x a) []).foldl migStart (s, 0, [])).1.modMem aged))) ∧
  (∀ (s : State) (x : Nat × Nat × Nat × Nat) (k : Nat) (spent : Tab Nat), let f := (s.page x.1).owner
    (k < 256 → Tab.get 0 spent f + 2 ≤ s.migBudget f → s.hasSpace x.2.2.1 x.2.2.2 1 = true →
      migStart (s, k, spent) x = (s.startMove x.1 x.2.2.1 x.2.2.2, k + 1, Tab.put 0 spent f (Tab.get 0 spent f + 2))) ∧
    (256 ≤ k ∨ s.migBudget f < Tab.get 0 spent f + 2 → migStart (s, k, spent) x = (s, k, spent))) ∧
  (∀ (s : State) (st : StackIx) (slot : Fin 64) (x : Stream) (a k addr : Nat) (c : Ctl), (s.ctl st.val).getStream slot.val = some x → x.next = some a →
    s.lineAddr st.val a = some (k, addr) →
    c = { s.ctl st.val with stream := Tab.put none (s.ctl st.val).stream slot.val (some { x with ahead := a }), scrubbing := false } →
    (badKey k (lineOf addr) ∈ s.mem.bad → exec (.liftPrefetch st slot) s = .next ((s.modCtl st.val (fun _ => c)).memUE 5 (lineOf addr))) ∧
    (badKey k (lineOf addr) ∉ s.mem.bad → c.cached a = true → exec (.liftPrefetch st slot) s = .next (s.modCtl st.val (fun _ => c))) ∧
    (badKey k (lineOf addr) ∉ s.mem.bad → c.cached a = false →
      ∀ r t u, r = c.fill { line := a, key := badKey k (lineOf addr), dirty := false, lift := some (slot.val, x.serial) } →
      t = (s.modMem (fun m => (m.correct (badKey k (lineOf addr))).evict r.2)).modCtl st.val (fun _ => r.1.evict r.2) →
      u = (if badKey k (lineOf addr) ∈ s.mem.soft then t.bump (offCtl st.val 8) 1 else t) → exec (.liftPrefetch st slot) s =
        .next (if (r.2.bind CLine.lift).isSome = true then u.bump (offCtl st.val 0x28) 1 else u)))

/-- A 4-byte write of a register without behaviour of its own, that the function may write, sets its writable bits, clears the others,
and changes no other register; of the high word of a counter pair with CLR set clears count and OVF, with OVF alone clears OVF; of
a command register that a physical function writes runs the command of its code (partition, field, page and ring commands;
MEM_PAGE_CMD keeps GROUP as written). COUNTER_LOW_READ returns the value of any register: zero of one that the function does not
see, the low word of a counter pair, of GEN_UPTIME or of MGMT_RESET_TIME, whose high word it latches for that function, and for a
high word the latch or, where none is loaded, the live word (that the one row of a read stands for every register is the model's
choice, log 11). COUNTER_CLEAR clears the pair. (R4 (00_scope), R140 (05_cluster_and_scratchpad), R299
(11_host_interface_and_rings), R305 (11_host_interface_and_rings), R335 (12_partitions_and_reset), R511
(20_management_and_telemetry), R534 (05_cluster_and_scratchpad), R536 (00_scope)) -/
def Obligations.RegistersHoldWhatIsWritten : Prop :=
  (∀ (s : State) (f : Func) (o : Fin 67108864) (v m : W32), s.reaches f.val = true → s.mayWrite f.val o.val = true → o.val % 4 = 0 → fabBase ≤ o.val →
    o.val ≠ integBase + 0x40 → isCounter (o.val - 4) = false → plainMask o.val = some m →
    exec (.registerWrite f o v) s = .next (s.setReg o.val (v &&& m)) ∧
    ∀ k, (s.setReg o.val (v &&& m)).reg k = if k = o.val then v &&& m else s.reg k) ∧
  (∀ (s : State) (f : Func) (o : Fin 67108864) (v : W32), s.reaches f.val = true → s.mayWrite f.val o.val = true → o.val % 4 = 0 → fabBase ≤ o.val →
    o.val ≠ integBase + 0x40 → isCounter (o.val - 4) = true →
    (v.getLsbD 30 = true → exec (.registerWrite f o v) s = .next (s.setCtr (o.val - 4) {})) ∧
    (v.getLsbD 30 = false → v.getLsbD 31 = true → exec (.registerWrite f o v) s =
      .next (s.setCtr (o.val - 4) { s.ctr (o.val - 4) with ovf := false }))) ∧
  (∀ (s : State) (f : Func) (v : W32), s.reachesPF f.val = true →
    (v.toNat / 2 ^ 30 = 1 → exec (.registerWrite f 0x200008 v) s = exec (.ringRead f) s) ∧
    (v.toNat / 2 ^ 30 = 2 → exec (.registerWrite f 0x200008 v) s = exec (.ringWrite f) s) ∧
    (v.toNat / 2 ^ 30 = 1 → exec (.registerWrite f 0x405008 v) s = exec (.partitionReset f 5) s) ∧
    (v.toNat / 2 ^ 30 = 2 → exec (.registerWrite f 0x405008 v) s = exec (.assign f 5) s) ∧
    (v.toNat / 2 ^ 30 = 3 → exec (.registerWrite f 0x405008 v) s = exec (.release f 5) s) ∧
    (v.toNat / 2 ^ 30 = 1 → exec (.registerWrite f 0x800018 v) s = exec (.markOutOfService f (Fin.ofNat 64 (v.toNat / 2 ^ 24 % 64))) s) ∧
    (∀ t, t = s.modMem (fun m => { m with cmd := if m.cmd.busy = true then m.cmd else { m.cmd with field := v &&& 0x0FF00000 } }) →
      (v.toNat / 2 ^ 28 = 1 → exec (.registerWrite f 0xC00020 v) s = exec (.allocPage f) t) ∧
      (v.toNat / 2 ^ 28 = 2 → exec (.registerWrite f 0xC00020 v) s = exec (.freePage f) t))) ∧
  (∀ (s : State) (f : Func) (o : Fin 67108864), s.reaches f.val = true → o.val % 4 = 0 →
    (∀ lo hi l, s.pairWords o.val = some (lo, hi) → s.sees f.val o.val = true →
      l = Tab.put none s.latch (64 * o.val + f.val) (some hi) →
      exec (.counterLowRead f o) s = .next ({ s with latch := l }.emit (.value f.val (s.readValue f.val o.val)))) ∧
    (s.pairWords o.val = none ∨ s.sees f.val o.val = false →
      exec (.counterLowRead f o) s = .next (s.emit (.value f.val (s.readValue f.val o.val))))) ∧
  (∀ (s : State) (f o : Nat), (o < 0x1808000 ∨ 0x1810000 ≤ o → s.readValue f o = (s.readReg f o).zeroExtend 64) ∧
    (s.sees f o = false → s.readReg f o = 0) ∧
    (∀ lo hi, s.sees f o = true → s.pairWords o = some (lo, hi) → s.readReg f o = lo) ∧
    (∀ lo hi, s.sees f o = true → 4 ≤ o → s.pairWords o = none → s.pairWords (o - 4) = some (lo, hi) →
      s.readReg f o = (Tab.get none s.latch (64 * (o - 4) + f)).getD hi) ∧
    (s.sees f o = true → s.pairWords o = none → s.pairWords (o - 4) = none → plainReg o = true → s.readReg f o = s.reg o)) ∧
  (∀ (s : State) (f : Func) (o : Fin 67108864), s.reaches f.val = true → s.mayWrite f.val o.val = true → isCounter o.val = true →
    exec (.counterClear f o) s = .next (s.setCtr o.val {}))

/-- A BAR4 read of the host to a function that it reaches, within the BAR and without an uncorrectable line in reach, returns the
bytes of the pages that the function reaches, and zero for the others; with such a line it is answered with a Completer Abort. A
BAR4 write within one page that the function reaches and that is not sealed is stored; of any other page it is discarded and
counted. An access to BAR0 or BAR2 of another size or alignment is answered with Unsupported Request when it reads, and is counted
when it writes. (That the answers are logged as errors of the function is presumed, log 157.) An access that goes beyond its BAR
is a fault of the model. (R262 (10_memory_system), R284 (10_memory_system), R285 (10_memory_system), R290 (10_memory_system), R295
(11_host_interface_and_rings), R297 (11_host_interface_and_rings), R298 (11_host_interface_and_rings)) -/
def Obligations.BarAccessesReachWhatTheirFunctionMay : Prop :=
  (∀ (s : State) (f : Func) (off len a : Nat), s.reaches f.val = true → 0 < len → off + len ≤ s.barSize f.val 4 →
    a = (s.fent f.val).bar4Base + off → (pagesOf a len).all (s.bar4Page f.val) = true →
    (∀ l ∈ s.badRead none a len, s.bar4Page f.val (l / 32768) = false) →
    exec (.bar4Read f off len) s = .next ((s.demand none a len false none).emit (.data f.val ((fromTo a len).map (fun b =>
      if s.bar4Page f.val (pageOf b) = true then s.devByte none b else 0))))) ∧
  (∀ (s : State) (f : Func) (off len a : Nat) (l : List Nat), s.reaches f.val = true → 0 < len → off + len ≤ s.barSize f.val 4 →
    a = (s.fent f.val).bar4Base + off → (pagesOf a len).all (s.bar4Page f.val) = true → l ≠ [] →
    (s.badRead none a len).filter (fun l => s.bar4Page f.val (l / 32768)) = l →
    exec (.bar4Read f off len) s = .next ((((s.demand none a len false none).memUEs 1 l).aerError f.val 15).emit (.completerAbort f.val))) ∧
  (∀ (s : State) (f : Func) (off a : Nat) (bs : List W8), s.reaches f.val = true → bs ≠ [] → off + bs.length ≤ s.barSize f.val 4 →
    a = (s.fent f.val).bar4Base + off → splitPages a bs = [(a, bs)] →
    (s.bar4Page f.val (pageOf a) = true ∧ s.sealedPage (pageOf a) = false → exec (.bar4Write f off bs) s =
      .next ((s.demand none a bs.length true none).devStore 1 a bs)) ∧
    (¬ (s.bar4Page f.val (pageOf a) = true ∧ s.sealedPage (pageOf a) = false) → exec (.bar4Write f off bs) s = .next (s.bump (memBase + 0x40) 1))) ∧
  (∀ (s : State) (f : Func) (bar : Fin 6) (off size : Nat), s.reaches f.val = true → off + size ≤ s.barSize f.val bar.val → bar = 0 ∨ bar = 2 →
    ¬ (size = 8 ∧ off % 8 = 0) → ¬ (bar = 0 ∧ size = 4 ∧ off % 4 = 0) →
    exec (.barBadAccess f bar true off size) s = .next (s.bump 0x100008 1) ∧
    exec (.barBadAccess f bar false off size) s = .next ((s.aerError f.val 20).emit (.unsupported f.val))) ∧
  (∀ (s : State) (f : Func) (bar : Fin 6) (w : Bool) (off size : Nat), s.reaches f.val = true → s.barSize f.val bar.val < off + size →
    exec (.barBadAccess f bar w off size) s = .fault .beyondBar)

/-- A write of HIF_FUNC_RINGS by the physical function of the port, not locked: it is refused exactly when some ring would lie in two
ranges, when it gives a virtual function more than 131,072 rings, or when BASE + COUNT exceeds 2^20; refused, the old range stays
and BAD is set; accepted, BASE and COUNT are as written and BAD is clear. A ring belongs to the function whose range holds it,
where no ring lies in two; number i names ring i for a physical function, and ring BASE + i for a virtual one. (R303) -/
def Obligations.RingRangesNeverOverlap : Prop :=
  (∀ (s : State) (f target : Func) (v : W64) (base count : Nat) (bad : Prop), s.writesEntry f.val target.val = true → base = v.toNat % 2 ^ 20 →
    count = v.toNat / 2 ^ 32 % 2 ^ 21 →
    (bad ↔ (∃ g < 64, g ≠ target.val ∧ ∃ r, base ≤ r ∧ r < base + count ∧ (s.fent g).base ≤ r ∧ r < (s.fent g).base + (s.fent g).count) ∨
      (target.val % 32 ≠ 0 ∧ 131072 < count) ∨ 2 ^ 20 < base + count) →
    (bad → exec (.hifFuncRingsWrite f target v) s = .next (s.modFent target.val (fun e => { e with bad := true }))) ∧
    (¬ bad → exec (.hifFuncRingsWrite f target v) s = .next (s.modFent target.val (fun e => { e with bad := false, base := base, count := count })))) ∧
  (∀ (s : State) (r : Nat), s.ringsApart → ∀ f < 64,
    (s.ringOwner r = some f ↔ (s.fent f).base ≤ r ∧ r < (s.fent f).base + (s.fent f).count)) ∧
  (∀ (s : State) (f i : Nat), s.absRing f i = if f % 32 = 0 then i else (s.fent f).base + i)

namespace Sys2Proof.Machine

/-- The state after a use of a ring's context (R306, R307). -/
def State.usedCtx (s : State) (r : Nat) : State :=
  if s.ctxBad r = true then (if (s.ring r).error = true ∧ (s.ring r).ecause = 1 then s else s.ctxError r) else s.useCtx r

end Sys2Proof.Machine

/-- HIF_LOCK of a physical function locks its port's entries. RING_CMD reads the context of an addressable ring into RING_DATA, a
cached context being written back first; a write installs a checked context in a disabled ring, with ARMED as given and the
engine's fields zero, stores the host's fields of one that stays disabled, disables a live ring that is idle or in error and of
which nothing else changes, changes the free fields of a live ring, and is refused otherwise; a ring that may not be addressed, or
a kind that is none, is refused and RING_DATA is unchanged. A context that is written is whole again and cached. A doorbell that
breaks no check stores TAIL, sets ARMED where bit 32 is set, and lets a pending overflow record and the watermarks act; one that
breaks a check is ignored, counted and raises DB_BAD. Each use of a context that has to be read from an uncorrectable line puts
its ring in error. (The choice of the crust block whose cache holds a context is the model's, log 84.) (R302
(11_host_interface_and_rings), R304 (11_host_interface_and_rings), R305 (11_host_interface_and_rings), R306
(11_host_interface_and_rings), R307 (11_host_interface_and_rings), R308 (11_host_interface_and_rings), R309
(11_host_interface_and_rings), R328 (11_host_interface_and_rings), R330 (11_host_interface_and_rings)) -/
def Obligations.RingWindowAndDoorbells : Prop :=
  (∀ (s : State) (f : Func), s.reachesPF f.val = true → exec (.hifLock f) s = .next (s.modPort (portOf f.val) (fun p => { p with lock := true }))) ∧
  (∀ (s : State) (f : Func), s.reaches f.val = true → (s.rwin f.val).cmd.busy = false →
    (s.selRing f.val = none → exec (.ringRead f) s = .next (s.ringCmdDone f.val 1 0x0102) ∧ exec (.ringWrite f) s = .next (s.ringCmdDone f.val 2 0x0102)) ∧
    (∀ r o u t, s.selRing f.val = some (r, o) → u = s.usedCtx r → t = (if u.ctxCached r = true then u.writeBack [r] else u) →
      exec (.ringRead f) s = .next ((t.modRwin f.val (fun w => { w with data := (t.ring r).bytes })).ringCmdDone f.val 1 0x0000)) ∧
    (∀ r o d k put, s.selRing f.val = some (r, o) → d = (s.rwin f.val).data → dataKind d = some k →
      put = (fun g : Ring → Ring => (((s.modRing r g).useCtx r).writeBack [r])) →
      ((s.ring r).kind = .disabled → k = .disabled → exec (.ringWrite f) s = .next ((put (hostFields d k)).ringCmdDone f.val 2 0x0000)) ∧
      ((s.ring r).kind = .disabled → k ≠ .disabled → s.enableBad o d k = false → exec (.ringWrite f) s =
        .next ((put (fun _ => { hostFields d k {} with armed := bitOf (dataField d 30 1) 3 })).ringCmdDone f.val 2 0x0000)) ∧
      ((s.ring r).kind = .disabled → k ≠ .disabled → s.enableBad o d k = true → exec (.ringWrite f) s = .next (s.ringCmdDone f.val 2 0x0102)) ∧
      ((s.ring r).kind ≠ .disabled → k = .disabled →
        (liveChange d (s.ring r).kind (s.ring r) = true ∧ (s.ring r).inprog = 0 ∧ ((s.ring r).head = (s.ring r).tail ∨ (s.ring r).error = true) →
          exec (.ringWrite f) s = .next ((put (fun g => { hostFields d k g with lagging := false, ovfDue := false })).ringCmdDone f.val 2 0x0000)) ∧
        (¬ (liveChange d (s.ring r).kind (s.ring r) = true ∧ (s.ring r).inprog = 0 ∧ ((s.ring r).head = (s.ring r).tail ∨ (s.ring r).error = true)) →
          exec (.ringWrite f) s = .next (s.ringCmdDone f.val 2 0x8004))) ∧
      ((s.ring r).kind ≠ .disabled → k ≠ .disabled → liveChange d k (s.ring r) = true → exec (.ringWrite f) s =
        .next (((put (hostFields d k)).lagCheck o r).ringCmdDone f.val 2 0x0000)) ∧
      ((s.ring r).kind ≠ .disabled → k ≠ .disabled → liveChange d k (s.ring r) = false → exec (.ringWrite f) s =
        .next (s.ringCmdDone f.val 2 0x8004))) ∧
    (∀ r o, s.selRing f.val = some (r, o) → dataKind (s.rwin f.val).data = none → exec (.ringWrite f) s =
      .next (s.ringCmdDone f.val 2 (if (s.ring r).kind = .disabled then 0x0102 else 0x8004)))) ∧
  (∀ (s u : State) (f : Func) (i : Fin 1048576) (v : W64) (r : Nat), s.reaches f.val = true → 8 * i.val + 8 ≤ s.barSize f.val 2 →
    r = s.absRing f.val i.val → u = (if s.inRange f.val i.val = true then s.usedCtx r else s) →
    (u.doorbellBad f.val i.val v = false → exec (.doorbell f i v) s = .next (((u.modRing r (fun g =>
      { g with tail := v.setWidth 32, armed := g.armed || v.getLsbD 32 })).evRoomBack f.val r).lagCheck f.val r)) ∧
    (u.doorbellBad f.val i.val v = true → exec (.doorbell f i v) s =
      .next ((u.bump offDbBad 1).raise (some (f.val, i.val)) false 0x0004 (v.toNat % 2 ^ 32)))) ∧
  (∀ (s : State) (f : Func) (i : Fin 1048576) (v : W64) (r : Nat), r = s.absRing f.val i.val →
    (s.ring r).kind = .disabled ∨ (s.ring r).error = true ∨ s.resetting f.val = true ∨ s.inRange f.val i.val = false ∨ 2 ^ 33 ≤ v.toNat →
    s.doorbellBad f.val i.val v = true)

/-- When a work or pool ring in service has descriptors that have not been taken, fewer than 64 in progress and its turn among its
crust block's rings, and its partition is not resetting, the turn passes on and the context is used: one that has to be read from
an uncorrectable line puts the ring in error with ECAUSE 1. The 64 bytes at BASE + 64 x (HEAD mod 2^LOG2SZ) of host memory, or of
device memory within its function's pages and without a bad line, become a descriptor in progress with index HEAD, after those
that are, and HEAD and INPROG advance, and the watermarks act; a LAUNCH that must wait for a group of a pool or for RESUME stays
at the head. A failed read from the host puts the ring in error with ECAUSE 2 or 3, a base outside the pages with ECAUSE 4, a bad
line with ECAUSE 5; a ring with 64 in progress takes none. (The order of turns among the functions is the model's, log 84.) (R262
(10_memory_system), R279 (10_memory_system), R303 (11_host_interface_and_rings), R306 (11_host_interface_and_rings), R307
(11_host_interface_and_rings), R311 (11_host_interface_and_rings), R313 (11_host_interface_and_rings), R330
(11_host_interface_and_rings), R331 (11_host_interface_and_rings)) -/
def Obligations.DescriptorsAreTakenInOrder : Prop :=
  ∀ (s t : State) (r : Fin 1048576) (f a : Nat) (g : Ring) (took : State → List W8 → State), s.ringOwner r.val = some f → g = s.ring r.val → s.ready = true →
    g.kind = .work ∨ g.kind = .pool → g.error = false → g.head ≠ g.tail → s.resetting f = false →
    (64 ≤ g.inprog ∨ s.myTurn f r.val = false → ∀ w, exec (.descriptorTake r w) s = .next s) ∧
    (g.inprog < 64 → s.myTurn f r.val = true → s.ctxBad r.val = true → ∀ w, exec (.descriptorTake r w) s = .next ((s.serve f r.val).ctxError r.val)) ∧
    (g.inprog < 64 → s.myTurn f r.val = true → s.ctxBad r.val = false → t = (s.serve f r.val).useCtx r.val →
      a = g.base.toNat + 64 * (g.head.toNat % 2 ^ g.logsz) →
      took = (fun u raw => let d : Desc := { ring := r.val, index := (u.ring r.val).head, func := f, raw := raw }
        let v := if u.onPool d = true ∧ d.opcode = 5 then u.readTable d else u
        if v.headWaits d = true then v
        else ((v.modDescs (fun l => l ++ [{ ring := r.val, index := (v.ring r.val).head, func := f, raw := raw, taken := v.now }])).modRing r.val
          (fun g => { g with head := g.head + 1, inprog := g.inprog + 1 })).lagCheck f r.val) →
      (g.dloc = false → exec (.descriptorTake r none) s = .next (took t (t.hst.mem.read a 64)) ∧
        exec (.descriptorTake r (some .unsupported)) s = .next (t.ringErr r.val 2) ∧
        exec (.descriptorTake r (some .translation)) s = .next (t.ringErr r.val 3)) ∧
      (∀ w, g.dloc = true → t.owns f a 64 = false → exec (.descriptorTake r w) s = .next (t.ringErr r.val 4)) ∧
      (∀ w, g.dloc = true → t.owns f a 64 = true → t.badRead none a 64 = [] →
        exec (.descriptorTake r w) s = .next (took (t.demand none a 64 false none) (t.devRead none a 64))) ∧
      (∀ w x l, g.dloc = true → t.owns f a 64 = true → t.badRead none a 64 = x :: l →
        exec (.descriptorTake r w) s = .next (((t.demand none a 64 false none).memUEs 8 (x :: l)).ringErr r.val 5)))

/-- PART_CMD reset by the physical function of the port, with PART_CMD not busy, marks and halts its target and stays busy; a function
that is resetting already joins its reset. FLR of a virtual function resets it, of a physical function every function of its port;
clearing VF Enable resets the port's virtual functions; a hot reset every function of the port, its controller with VF Enable and
the MSI-X tables, and its HIF_LOCK. Setting VF Enable makes the virtual functions up to NumVFs exist; PERST# is released; an ATS
invalidation is completed. (R27 (01_engine_organisation), R294 (11_host_interface_and_rings), R301 (11_host_interface_and_rings),
R302 (11_host_interface_and_rings), R333 (12_partitions_and_reset), R335 (12_partitions_and_reset), R336
(12_partitions_and_reset), R337 (12_partitions_and_reset), R342 (12_partitions_and_reset), R345 (12_partitions_and_reset), R498
(19_security_and_attestation)) -/
def Obligations.ResetsMarkTheirFunctions : Prop :=
  (∀ (s : State) (f g : Func), s.reachesPF f.val = true → portOf f.val = portOf g.val → (s.prt g.val).cmd.busy = false →
    exec (.partitionReset f g) s = .next ((if s.resetting g.val = true then s else s.markReset g.val).modPart g.val (fun p =>
      { p with cmd := { field := 0x40000000, busy := true, status := 0x0000 } }))) ∧
  (∀ (s : State) (f : Func), s.reaches f.val = true → f.val % 32 ≠ 0 → s.resetting f.val = false → exec (.flr f) s = .next (s.markReset f.val)) ∧
  (∀ (s : State) (f : Func), s.reaches f.val = true → f.val % 32 = 0 →
    exec (.flr f) s = .next ((s.each (portFuncs (portOf f.val)) State.requestReset).dropConns [portOf f.val])) ∧
  (∀ (s : State) (h : HPort), s.ready = true → exec (.hotReset h) s =
    .next ((((s.each (portFuncs h.val) State.requestReset).dropConns [h.val]).resetVectors h.val).modPort h.val (fun p => { p with vfEnable := false, numVfs := 0, lock := false }))) ∧
  (∀ (s : State) (h : HPort), s.ready = true → (s.port h.val).perst = false → (s.port h.val).vfEnable = true → exec (.vfEnableClear h) s =
    .next ((s.each ((portFuncs h.val).drop 1) State.requestReset).modPort h.val (fun p => { p with vfEnable := false, numVfs := 0 }))) ∧
  (∀ (s : State) (h : HPort) (n : Fin 32), s.ready = true → (s.port h.val).perst = false → (s.port h.val).vfEnable = false →
    exec (.vfEnableSet h n) s = .next (s.modPort h.val (fun p => { p with vfEnable := true, numVfs := n.val }))) ∧
  (∀ (s : State) (h : HPort), exec (.perstDeassert h) s = .next (s.modPort h.val (fun p => { p with perst := false }))) ∧
  (∀ (s : State) (f : Func) (a : W64) (p : BitVec 20), s.reaches f.val = true → exec (.atsInvalidate f a p) s = .next (s.emit (.invalidated f.val a p)))

/-- ASSIGN that is not refused gives the function every enabled cluster of the rectangle that belongs to none, with its lineage window
cleared; RELEASE that is not refused takes its clusters of the rectangle; a site pending retirement retires as it leaves. A
refused command reports ILLEGAL_DESCRIPTOR and changes nothing else. The flush of a reset ends when nothing of the function is in
flight and no credit of its clusters is on its way, or 10 ms after the request; then the clear phase ends the reset, which is
counted, with assignment, range and rectangle kept. A REMAP whose record is good moves its logical clusters to spare sites, and
once the map change is done the old sites leave and it completes with OK; a record or a move that breaks a rule completes with
ILLEGAL_DESCRIPTOR, an uncorrectable line of the record or a section, or a word of a scratchpad to be copied, with
MEM_UNCORRECTABLE, and nothing moves. (R291 (10_memory_system), R316 (11_host_interface_and_rings), R332
(11_host_interface_and_rings), R334 (12_partitions_and_reset), R335 (12_partitions_and_reset), R338 (12_partitions_and_reset),
R341 (12_partitions_and_reset), R409 (15_result_integrity), R431 (16_defects_and_bring_up), R432 (16_defects_and_bring_up), R433
(16_defects_and_bring_up), R476 (18_thermal_and_ageing)) -/
def Obligations.PartitionsGainLoseAndMoveClusters : Prop :=
  (∀ (s : State) (f g : Func), s.reachesPF f.val = true → portOf f.val = portOf g.val → (s.prt g.val).cmd.busy = false →
    (s.assignBad g.val = false → exec (.assign f g) s = .next ((s.each ((rectSites (s.prt g.val).rect.toNat).filter (fun i =>
      s.enabled i && (s.clu i).owner.isNone)) (fun u i => u.modClu i (fun c => { c.clearWindow with owner := some g.val }))).partDone g.val 2 0x0000)) ∧
    (s.assignBad g.val = true → exec (.assign f g) s = .next (s.partDone g.val 2 0x0102)) ∧
    (s.releaseBad g.val = false → exec (.release f g) s = .next ((s.each ((rectSites (s.prt g.val).rect.toNat).filter (fun i =>
      (s.clu i).owner == some g.val)) (fun u i => (u.modClu i (fun c => { c with owner := none })).retirePending i)).partDone g.val 3 0x0000)) ∧
    (s.releaseBad g.val = true → exec (.release f g) s = .next (s.partDone g.val 3 0x0102))) ∧
  (∀ (s : State) (f : Func) (r : ResetRun), (s.prt f.val).reset = some r →
    (Tab.get 0 s.fab.inflight f.val = 0 → (∀ k ∈ s.fab.credits, (s.clu k.site).owner ≠ some f.val) →
      exec (.resetFlushDone f) s = .next (s.modPart f.val (fun p => { p with reset := some { r with flushed := true } }))) ∧
    (r.flushed = false → r.since + 10000 ≤ s.now → exec (.resetFlushLimit f) s =
      .next ((s.dropFlight f.val).modPart f.val (fun p => { p with reset := some { r with flushed := true } }))) ∧
    (r.flushed = true → exec (.resetClearDone f) s = .next (((s.clearPhase f.val).modPart f.val (fun p =>
      { cmd := { p.cmd with busy := false }, rect := p.rect, lastRing := p.lastRing, lastTag := p.lastTag, lastStatus := p.lastStatus })).bump (offPartResets f.val) 1))) ∧
  (∀ (s t : State) (r : DescRef) (d : Desc) (c : Nat) (done : State → W16 → State), s.starts r d 0x0B → c = d.field 20 2 → s.remapDescBad d = false →
    s.remapWaits d.func c = false → t = s.demand none d.map d.mapLen false none →
    done = (fun u st => u.finishDesc r.ring.val r.index { status := st }) →
    (∀ x y, s.badRead none d.map d.mapLen = x :: y → exec (.remap r) s = .next (done (t.memUEs 7 (x :: y)) 0x0301)) ∧
    (∀ b l o u, s.badRead none d.map d.mapLen = [] → b = s.devRead none d.map d.mapLen → l = (List.range (rd b 2 2)).map (moveOf b) →
      o = l.filter (fun m => s.sectionOwned d.func m.addr) → u = t.readSections o →
      (recordBad b = true → exec (.remap r) s = .next (done t 0x0102)) ∧
      (recordBad b = false →
        (∀ x y, (s.remapLines o).eraseDups = x :: y → exec (.remap r) s = .next (done (u.memUEs 7 (x :: y)) 0x0301)) ∧
        ((s.remapLines o).eraseDups = [] → s.remapBad d.func c l = true → exec (.remap r) s = .next (done u 0x0102)) ∧
        ((s.remapLines o).eraseDups = [] → s.remapBad d.func c l = false →
          ((∃ m ∈ l, m.copySp = true ∧ (s.clu m.old).spBad ≠ []) → exec (.remap r) s = .next (done u 0x0301)) ∧
          ((∀ m ∈ l, m.copySp = true → (s.clu m.old).spBad = []) →
            exec (.remap r) s = .next ((u.started d).remapCommit d.func c l)))))) ∧
  (∀ (s : State) (r : DescRef) (d : Desc), s.inWork r d 0x0B → s.fab.recomputing = false → exec (.remap r) s = .next (s.remapEnd d))

/-- When a reset command of function f, or the end of its clear phase, gives a next state: every cluster that is not among the
clusters of f is as before; every page-table entry of a page that f does not own is as before; and every configuration, quiescing
mark, epoch and reset of every other function is as before. (R332 (11_host_interface_and_rings), R336 (12_partitions_and_reset),
R338 (12_partitions_and_reset), R341 (12_partitions_and_reset), R342 (12_partitions_and_reset)) -/
def Obligations.PartitionResetsTouchTheirOwnFunctionAlone : Prop :=
  ∀ (s t : State) (f g : Func), exec (.partitionReset g f) s = .next t ∨ exec (.resetClearDone f) s = .next t →
    (∀ i, i ∉ s.clustersOf f.val → t.clu i = s.clu i) ∧
    (∀ p, (∀ e ∈ s.mem.page, e.1 = p → e.2.v = true → e.2.owner ≠ f.val) → t.page p = s.page p) ∧
    (∀ h, h ≠ f.val → t.prt h = s.prt h)

/-- MEDIA_LOCK locks; a change of mode or speed that R365 allows retrains the port, one that it refuses sets REFUSED, and PTP stops on
a port that leaves media mode; a stream context that is valid changes only to invalid while unbound, one that is not becomes valid
after its checks, or BAD, and keeps no reserved field while it is not valid. Links of media ports go up and down. An Announce of
the port's domain selects the best master and takes an UNLOCKED time base to LOCKING, to step at the next Sync; a Sync steps, or
slews by no more than the largest slew; 16 Syncs below 1 us in a row lock; a master that has not been heard for ANN_TO announce
intervals is lost: that leads from LOCKED to HOLDOVER and else to UNLOCKED; HOLDMAX, of 1 to 3,600 seconds, ends HOLDOVER. (R16
(01_engine_organisation), R346 (13_media_ports_and_frame_slots), R349 (13_media_ports_and_frame_slots), R350
(13_media_ports_and_frame_slots), R355 (13_media_ports_and_frame_slots), R356 (13_media_ports_and_frame_slots), R364
(13_media_ports_and_frame_slots), R365 (13_media_ports_and_frame_slots), R427 (16_defects_and_bring_up), R537 (00_scope)) -/
def Obligations.MediaPortsAreConfiguredAndKeepTime : Prop :=
  (∀ (s : State) (f : Func), s.reachesPF f.val = true → exec (.mediaLock f) s = .next { s with media := { s.media with lock := true } }) ∧
  (∀ (s u : State) (f : Func) (p : EPort) (v : W32) (mode : PortMode), s.reachesPF f.val = true → s.media.lock = false →
    u = s.modMport p.val (fun m => { m with vlanEn := bitOf v.toNat 27, pcp := bits v.toNat 26 24, vid := bits v.toNat 23 12 }) →
    mode = modeOf (bits v.toNat 31 30) →
    (s.modeRefused p.val (bits v.toNat 31 30) = true ∨ bits v.toNat 29 28 = 3 →
      exec (.mediaPortCfgWrite f p v) s = .next (u.modMport p.val (fun m => { m with refused := true }))) ∧
    (s.modeRefused p.val (bits v.toNat 31 30) = false → bits v.toNat 29 28 ≠ 3 →
      ((s.mport p.val).mode = mode ∧ (s.mport p.val).speed = bits v.toNat 29 28 →
        exec (.mediaPortCfgWrite f p v) s = .next (u.modMport p.val (fun m => { m with refused := false }))) ∧
      (¬ ((s.mport p.val).mode = mode ∧ (s.mport p.val).speed = bits v.toNat 29 28) →
        exec (.mediaPortCfgWrite f p v) s = .next (((u.modMport p.val (fun m =>
          { m with mode := mode, speed := bits v.toNat 29 28, refused := false,
                   link := if mode = .off then .down else .training })).ptpStop p.val (mode == .media)).modTport p.val
            (fun t => t.restart (if mode = .tow then .training else .down)))))) ∧
  (∀ (s : State) (p : Nat), s.ptpStop p true = s ∧
    s.ptpStop p false = (s.modMport p (fun m => { m with masters := [], master := none, step := false })).ptpTo p .unlocked) ∧
  (∀ (s : State) (f : Func) (c : StreamIx) (b : List W8) (x : Ctx), s.reachesPF f.val = true → b.length = 128 →
    x = { raw := b, rtp := (s.ctx c.val).rtp } → ∀ y : Ctx, y = { x with raw := ctxClean b } →
    ((s.ctx c.val).valid = true → x.valid = true ∨ (s.ctx c.val).bound.isSome = true → exec (.mediaCtxWrite f c b) s = .next s) ∧
    ((s.ctx c.val).valid = true → x.valid = false → (s.ctx c.val).bound = none → exec (.mediaCtxWrite f c b) s = .next (s.modCtx c.val (fun _ => y))) ∧
    ((s.ctx c.val).valid = false → x.valid = false → exec (.mediaCtxWrite f c b) s =
      .next (s.modCtx c.val (fun _ => { y with bad := (s.ctx c.val).bad }))) ∧
    ((s.ctx c.val).valid = false → x.valid = true → s.ctxRefused c.val x = false →
      exec (.mediaCtxWrite f c b) s = .next (s.modCtx c.val (fun _ => x))) ∧
    ((s.ctx c.val).valid = false → x.valid = true → s.ctxRefused c.val x = true →
      exec (.mediaCtxWrite f c b) s = .next (s.modCtx c.val (fun y => { y with bad := true })))) ∧
  (∀ (s : State) (p : EPort), s.ready = true → (s.mport p.val).mode = .media →
    exec (.mediaLinkDown p) s = .next (s.modMport p.val (fun m => { m with link := .down })) ∧
    exec (.mediaLinkUp p) s = .next (s.modMport p.val (fun m => { m with link := .up }))) ∧
  (∀ (s u : State) (p : EPort) (a : Announce), s.ptpRuns p.val = true → a.domain.toNat = (s.mport p.val).domain → a.v6 = (s.mport p.val).ptpV6 →
    u = s.modMport p.val (fun m => { m with masters := hearMaster m.masters a s.now, master := bestMaster (hearMaster m.masters a s.now) }) →
    ((s.mport p.val).state ≠ .unlocked → exec (.ptpAnnounce p a) s = .next u) ∧
    ((s.mport p.val).state = .unlocked → exec (.ptpAnnounce p a) s =
      .next ((u.modMport p.val (fun m => { m with step := true })).ptpTo p.val .locking))) ∧
  (∀ (s : State) (p : EPort) (o : Int), s.ptpRuns p.val = true → (s.mport p.val).state ≠ .unlocked → (s.mport p.val).master.isSome = true →
    ((s.mport p.val).step = true → exec (.ptpSync p o) s =
      .next ((s.modMport p.val (fun m => { m with base := m.base - o, step := false, offset := 0, since := s.now })).stepSlots p.val)) ∧
    ((s.mport p.val).step = false → ∃ d ≤ (s.mport p.val).slewMax s.now o, ∃ n u, n = (if o.natAbs < 2000 then (s.mport p.val).good + 1 else 0) ∧
      u = { s with free := s.free + 1 }.modMport p.val (fun m =>
        { m with base := if 0 ≤ o then m.base - d else m.base + d, offset := o, good := n, since := s.now }) ∧
      exec (.ptpSync p o) s = .next (if 16 ≤ n ∧ (s.mport p.val).state ≠ .locked then u.ptpTo p.val .locked else u))) ∧
  (∀ (s : State) (p : EPort), s.ready = true → (s.mport p.val).mode = .media → (s.mport p.val).ptpEn = true →
    (∃ a, (s.mport p.val).master = some a ∧ ∀ x ∈ (s.mport p.val).masters, x.ann.identity = a.identity →
      x.heard + min 7 (max 2 (s.mport p.val).annTo) * (125000 * 2 ^ a.logInterval.val) ≤ s.now) →
    exec (.ptpAnnounceTimeout p) s = .next ((s.modMport p.val (fun m => { m with masters := [], master := none, lost := s.now, step := false })).ptpTo
      p.val (if (s.mport p.val).state = .locked ∨ (s.mport p.val).state = .holdover then .holdover else .unlocked))) ∧
  (∀ (s : State) (p : EPort), (s.mport p.val).state = .holdover → (s.mport p.val).master = none →
    (s.mport p.val).lost + 1000000 * min 3600 (max 1 (s.mport p.val).holdmax) ≤ s.now → exec (.ptpHoldmax p) s = .next (s.ptpTo p.val .unlocked))

/-- A packet on a media port whose link is up, of at most 9,216 bytes with an accepted tag, goes to the stream context of its
destination, or is counted, as are a longer one and one with another tag; of a frame whose slot is not past and whose buffer is
not held, its segments are stored and its sequence number is noted; one of no frame, or with a wrong payload type or segment,
counts as bad, one of a frame that is past or held as late, and a second copy is dropped. At S_n a bound frame waits, or is
dropped for its reason, which is counted and reported. The first waiting frame starts a run when the configuration is free: the
slot record is written and the start broadcast; as it arrives, the cores of a cluster are set. At the later of completion and S_n
+ HOLD the ancillary packets of the oldest completed run leave and its report is written; a bad line or a broken buffer reports
its status. (R120 (04_compute_core), R222 (08_wafer_fabric), R347 (13_media_ports_and_frame_slots), R351
(13_media_ports_and_frame_slots), R352 (13_media_ports_and_frame_slots), R353 (13_media_ports_and_frame_slots), R354
(13_media_ports_and_frame_slots), R358 (13_media_ports_and_frame_slots), R359 (13_media_ports_and_frame_slots), R360
(13_media_ports_and_frame_slots), R361 (13_media_ports_and_frame_slots), R363 (13_media_ports_and_frame_slots)) -/
def Obligations.FrameSlotsRunAndReport : Prop :=
  (∀ (s : State) (p : EPort) (m : MediaFrame), s.ready = true → (s.mport p.val).link = .up → (s.mport p.val).mode = .media →
    9216 < m.bytes ∨ (s.mport p.val).tagOk m.vlan = false → exec (.mediaPacket p m) s = .next (s.bump (mediaBase + 0x1000 + 0x100 * p.val + 0x30) 1)) ∧
  (∀ (s : State) (p : EPort) (m : MediaFrame) (c : Nat), s.ready = true → (s.mport p.val).link = .up → (s.mport p.val).mode = .media → m.bytes ≤ 9216 →
    (s.mport p.val).tagOk m.vlan = true → s.ctxFor p.val m = some c →
    ((s.ctx c).frameOf (s.ptpTime (s.ctx c).tport) m.ts = none ∨ m.pt.toNat ≠ (s.ctx c).field 6 1 ∨ 3 < m.segs.length ∨
      m.segs.any (s.ctx c).segBad = true → exec (.mediaPacket p m) s = .next (s.bump (ctxStatus c + 0x20) 1)) ∧
    (∀ n, (s.ctx c).frameOf (s.ptpTime (s.ctx c).tport) m.ts = some n → m.pt.toNat = (s.ctx c).field 6 1 → m.segs.length ≤ 3 →
      m.segs.any (s.ctx c).segBad = false →
      (((s.ctx c).getRecv n).seqs.contains m.seq = true → (s.ctx c).red = true ∨ (s.ctx c).past n = false ∧ (s.ctx c).held n = false →
        exec (.mediaPacket p m) s = .next s) ∧
      (¬ ((s.ctx c).red = true ∧ ((s.ctx c).getRecv n).seqs.contains m.seq = true) →
        ((s.ctx c).past n = true → exec (.mediaPacket p m) s = .next (s.latePkt c n m false)) ∧
        ((s.ctx c).past n = false → (s.ctx c).held n = true → exec (.mediaPacket p m) s = .next (s.latePkt c n m true))))) ∧
  (∀ (s : State) (p : EPort) (m : MediaFrame), s.ready = true → (s.mport p.val).link = .up → (s.mport p.val).mode = .media → m.bytes ≤ 9216 →
    (s.mport p.val).tagOk m.vlan = true →
    (s.ctxFor p.val m = none → exec (.mediaPacket p m) s = .next (s.bump (mediaBase + 0x1000 + 0x100 * p.val + 0x30) 1)) ∧
    (∀ c n, s.ctxFor p.val m = some c → (s.ctx c).frameOf (s.ptpTime (s.ctx c).tport) m.ts = some n → m.pt.toNat = (s.ctx c).field 6 1 →
      m.segs.length ≤ 3 → m.segs.any (s.ctx c).segBad = false → (s.ctx c).past n = false → (s.ctx c).held n = false →
      ((s.ctx c).getRecv n).seqs.contains m.seq = false → exec (.mediaPacket p m) s =
        .next ((s.each m.segs (fun t g => t.storeSeg c n g)).modCtx c (fun x => (x.mark n m).modRecv n (fun r =>
          { r with seqs := m.seq :: r.seqs, marker := if m.marker = true then some m.seq else r.marker }))))) ∧
  (∀ (s u : State) (c : StreamIx) (b : Binding) (n : Nat), (s.ctx c.val).bound = some b → n = b.next → s.ready = true → s.resetting b.func = false →
    b.unbind = none → (s.ctx c.val).slotAt n ≤ s.ptpTime (s.ctx c.val).tport →
    u = (s.modCtx c.val (fun x => { x with decided := some n })).modBound c.val (fun b => { b with next := n + 1, sinceRise := b.sinceRise.map (· + 1) }) →
    (s.dropReason (s.ctx c.val) b n = none → exec (.slotDecide c) s = .next (u.modBound c.val (fun b => { b with waiting := b.waiting ++ [n] }))) ∧
    (∀ r, s.dropReason (s.ctx c.val) b n = some r → r ≠ .overrun → exec (.slotDecide c) s =
      .next ((u.bump (ctxStatus c.val + 0x10) 1).frameReport c.val n 0x0801 0 r.code 0)) ∧
    (s.dropReason (s.ctx c.val) b n = some .overrun → exec (.slotDecide c) s =
      .next (((u.modBound c.val (fun b => b.rise ((s.ctx c.val).field 5 1))).bump (ctxStatus c.val + 0x10) 1).frameReport c.val n 0x0801 0 7 0))) ∧
  (∀ (s : State) (c : StreamIx) (x : Ctx) (b : Binding) (m : Nat) (l : List Nat) (u : Run), x = s.ctx c.val → x.bound = some b → b.waiting = m :: l →
    s.mayStart b = true → u = { stream := some c.val, args := b.args } → ∀ v, v = (if s.owns b.func (x.field 120 8) 64 = true then
      (s.demand none (x.field 120 8) 64 true none).devStore 9 (x.field 120 8) (x.slotRecord m) else s) →
    exec (.slotRunStart c) s = .next ((v.modBound c.val (fun b =>
      { b.startLevel (s.ptpTime x.tport - x.slotAt m) (x.field 56 4) (x.field 5 1) with waiting := l, running := some m })).startRun b.func b.cfgid u true)) ∧
  (∀ (s : State) (x : Site) (u : State) (f : Nat) (r : Run), Site.idx x ∈ s.fab.starts →
    u = s.modFab (fun b => { b with starts := b.starts.filter (· != Site.idx x) }) → s.runOf (Site.idx x) = some (f, r) → r.stream.isSome = true →
    exec (.slotStartArrive x) s = .next (u.beginAt (Site.idx x) r.args)) ∧
  (∀ (s : State) (c : StreamIx) (x : Ctx) (b : Binding) (a : AncWait) (l : List AncWait) (buf : Nat), x = s.ctx c.val → x.bound = some b → b.anc = a :: l →
    x.field 60 4 = 0 ∨ x.slotAt a.frame + 2000 * x.field 60 4 ≤ s.ptpTime x.tport → buf = x.resultBuf (a.frame % 4) →
    (∀ bad, bad ≠ [] → s.badRead none buf (x.field 112 4) = bad →
      exec (.ancTransmit c) s = .next ((s.memUEs 9 bad).ancReport c.val a { a.report with status := 0x0301, flags := 0 })) ∧
    (∀ w, s.badRead none buf (x.field 112 4) = [] → s.owns b.func buf (x.field 112 4) = true → s.ancOf x a.frame = some w → x.field 112 4 ≠ 0 →
      exec (.ancTransmit c) s = .next (((s.demand none buf (x.field 112 4) false none).sendAnc c.val a.frame (ancGroup [] w)).ancReport c.val a a.report)) ∧
    (s.badRead none buf (x.field 112 4) = [] → s.ancOf x a.frame = none →
      exec (.ancTransmit c) s = .next (s.ancReport c.val a { a.report with status := 0x0102, flags := 0 })))

/-- On a Tow port that is up: a frame of another EtherType or version is counted and discarded; a good frame with the expected SEQ is
accepted, and its ACK, NAK and credits act; a good frame with another SEQ is not accepted and asks for a replay with NAK, but its
ACK, NAK and credits act; a bad one asks for a replay where its SEQ is beyond the expected one; a good LINK frame acts alike. An
ACK can be sent at any time; while the port trains, LINK frames each way with ACK 0 bring it up, which raises TOW_LINK. After 4 us
without a good frame the link is down: its records in transit mark their steps LOST, its forwarded records are void, which is
counted and raised. A message for another engine, the first that can leave of the four receive buffers' heads, leaves by its
route, with HOPS one less, or is discarded at HOPS 0. TOW_LOCK locks. (R366 (14_tow_links_and_parameter_updates), R368
(14_tow_links_and_parameter_updates), R369 (14_tow_links_and_parameter_updates), R370 (14_tow_links_and_parameter_updates), R371
(14_tow_links_and_parameter_updates), R372 (14_tow_links_and_parameter_updates), R373 (14_tow_links_and_parameter_updates), R374
(14_tow_links_and_parameter_updates), R376 (14_tow_links_and_parameter_updates), R377 (14_tow_links_and_parameter_updates), R383
(14_tow_links_and_parameter_updates), R394 (14_tow_links_and_parameter_updates)) -/
def Obligations.TowPortsExchangeFrames : Prop :=
  (∀ (s : State) (p : EPort) (h : TowHead) (m : TowMsg), s.towTakes p.val = true → (h.etype ≠ s.tow.etype ∨ h.ver ≠ 1) → ∀ g,
    exec (.towDataFrame p g h m) s = .next (s.bump (offRxDisc p.val) 1) ∧ exec (.towLinkFrame p g h) s = .next (s.bump (offRxDisc p.val) 1)) ∧
  (∀ (s : State) (p : EPort) (h : TowHead) (m : TowMsg) (t : TPort), s.towTakes p.val = true → h.etype = s.tow.etype → h.ver = 1 → t = s.tport p.val →
    t.state = .up →
    (h.seq = t.rxSeq → exec (.towDataFrame p true h m) s = .next (((s.modTport p.val (fun t =>
      { t with rxSeq := t.rxSeq + 1, ackDue := true, heard := s.now })).towAccept p.val m).linkPart p.val h)) ∧
    (h.seq ≠ t.rxSeq → exec (.towDataFrame p true h m) s = .next (((s.modTport p.val (fun t => { t with nak := true })).modTport p.val
      (fun t => { t with heard := s.now })).linkPart p.val h)) ∧
    exec (.towDataFrame p false h m) s = .next (s.modTport p.val (fun t => { t with nak := t.nak || serialBefore 32 t.rxSeq.toNat h.seq.toNat })) ∧
    exec (.towLinkFrame p true h) s = .next ((s.modTport p.val (fun t => { t with heard := s.now })).linkPart p.val h) ∧
    exec (.towAckSend p) s = .next (s.sendFrame p.val 0 none)) ∧
  (∀ (s : State) (p : EPort) (h : TowHead), s.towTakes p.val = true → (s.tport p.val).state = .training →
    (h.etype = s.tow.etype → h.ver = 1 → h.ack = 0 → exec (.towLinkFrame p true h) s = .next (s.modTport p.val (fun t =>
      { t with linkSeen := true, heard := s.now, peer := [h.credReq0, h.credReq1, h.credAns0, h.credAns1] }))) ∧
    exec (.towAckSend p) s = .next ((s.sendFrame p.val 0 none).modTport p.val (fun t => { t with linkSent := true })) ∧
    ((s.tport p.val).linkSent = true → (s.tport p.val).linkSeen = true → exec (.towLinkUp p) s =
      .next (((s.modTport p.val (fun t => { t with state := .up, heard := s.now })).raiseWide 0x0018 (p.val + 16)).towDrain))) ∧
  (∀ (s u : State) (p : EPort) (sent : List TowMsg), s.towTakes p.val = true → (s.tport p.val).state = .up → (s.tport p.val).heard + 4 ≤ s.now →
    sent = (s.tport p.val).replay.map Prod.snd → u = (s.modTport p.val (fun t => t.restart .training)).each (raccs (sent ++ (s.tport p.val).rx))
      (fun u m => u.loseStep m.vgroup.val m.step) →
    exec (.towLinkDown p) s = .next ((((u.each (u.tow.fwd.filter (fun f => f.port == some p.val &&
      (raccs sent).any (fun m => m.arg.toNat / 2 ^ 32 == f.mtag.toNat && m.srcEng == u.eng))) State.voidRecord).bump (offTowDown p.val) 1).raiseWide
        0x0018 p.val).towDrain)) ∧
  (∀ (s : State) (p : EPort) (m : TowMsg) (o : Nat), s.ready = true → s.towTransit p.val = some m →
    (m.hops = 0 → exec (.towForward p) s = .next ((s.towRelease p.val m).bump (towBase + 0x10) 1)) ∧
    (m.hops ≠ 0 → s.towPort m.dstEng.val = some o → (s.tport o).canSend (msgThrough m (s.tport p.val) (s.tport o)) = true →
      exec (.towForward p) s = .next (((s.towRelease p.val m).sendData o (msgThrough m (s.tport p.val) (s.tport o))).bump (offTowTransit o) 1))) ∧
  (∀ (m : TowMsg) (a b : TPort), (msgThrough m a b).hops = m.hops - 1 ∧ (msgThrough m a b).payload = m.payload ∧ (msgThrough m a b).dstEng = m.dstEng) ∧
  (∀ (s : State) (f : Func), s.reachesPF f.val = true → exec (.towLock f) s = .next { s with tow := { s.tow with lock := true } })

namespace Sys2Proof.Machine

/-- The first message of a type for this engine in a port's receive buffers is `m`, of a group whose table is loaded and whose owner
does not reset, and of a step that has not ended (R377, R391). -/
def State.towHas (s : State) (p : EPort) (t : W8) (m : TowMsg) : Prop :=
  s.ready = true ∧ s.towFirst p.val (fun m => m.dstEng == s.eng && m.msg == t) = some m ∧ s.towStale m = false

end Sys2Proof.Machine

/-- A record that reaches a crust block, for the open step of a group whose table is loaded: where its block is homed in another
engine it is forwarded there with a new tag; where this engine is the home, the elements are added into the buffer of the step's
parity, CHECKSUM into its total, and the packet is answered; a record of no open step, or that the home may not add, is discarded
and counted. RACC_ACK advances the transfer's completion count, and one that answers no open transfer of its cluster is discarded
and counted. A Tow RACC message whose records are all added is acknowledged; an acknowledgement answers the packet of the record
it names, and is discarded where that was answered already; TOW_ACK_TO after a record left, its packet is answered and its step
marked LOST. LOAD reads and checks a block table while the group is OPEN, CLEAR drops it; else they end with ILLEGAL_DESCRIPTOR.
(R204 (08_wafer_fabric), R369 (14_tow_links_and_parameter_updates), R377 (14_tow_links_and_parameter_updates), R378
(14_tow_links_and_parameter_updates), R379 (14_tow_links_and_parameter_updates), R381 (14_tow_links_and_parameter_updates), R382
(14_tow_links_and_parameter_updates), R383 (14_tow_links_and_parameter_updates), R384 (14_tow_links_and_parameter_updates), R391
(14_tow_links_and_parameter_updates), R394 (14_tow_links_and_parameter_updates)) -/
def Obligations.ContributionsReachTheirHomes : Prop :=
  (∀ (s u : State) (id i g : Nat) (p : Packet) (t : TStep) (b : Block), s.arrived id .racc = some (p, i) → g = p.arg / 2 ^ 40 % 256 →
    s.resetting p.func = false → u = s.removePacket p →
    ((s.tgroup g).step = none → exec (.racc id) s = .next (u.bump (offVgStale g) 1)) ∧
    ((s.tgroup g).step = some t → (s.tgroup g).loaded = true → t.step.toNat % 2 = (p.arg / 2 ^ 39) % 2 →
      (s.tgroup g).block (rd p.payload 0 4 / 16384) = some b →
      (b.homeEng ≠ s.tow.engineId → exec (.racc id) s = .next (u.forward p g t b.homeEng)) ∧
      (∀ v, b.homeEng = s.tow.engineId → u.homeAdd g t.step p.payload = some v → exec (.racc id) s = .next (v.answerRacc p)) ∧
      (b.homeEng = s.tow.engineId → u.homeAdd g t.step p.payload = none → exec (.racc id) s = .next (u.bump (offVgStale g) 1)))) ∧
  (∀ (s : State) (g k a : Nat) (step : W32) (r : List W8) (b : Block) (buf new : AccBuf), s.recordBlock g r = some (b, k) →
    buf = Tab.get {} (s.tgroup g).acc (2 * k + step.toNat % 2) → a = b.acc + 131072 * (step.toNat % 2) + 8 * (rd r 0 4 % 16384) →
    new = { step := some step, sum := buf.sum + BitVec.ofNat 64 (rd r 8 8) } →
    (serialBefore 32 (s.tgroup g).ended.toNat step.toNat = true → buf.step = none ∨ buf.step = some step →
      s.homeAdd g step r = some ((((s.demand none a (8 * rd r 4 1) true none).memUEs 10 (s.badRead none a (8 * rd r 4 1))).accumulate a
        (recordElems r)).modTgroup g (fun y => { y with acc := Tab.put {} y.acc (2 * k + step.toNat % 2) new }))) ∧
    (serialBefore 32 (s.tgroup g).ended.toNat step.toNat = false → s.homeAdd g step r = none) ∧
    (∀ other, buf.step = some other → other ≠ step → s.homeAdd g step r = none)) ∧
  (∀ (s : State) (id i : Nat) (p : Packet) (x : Xfer), s.arrived id .raccAck = some (p, i) → (s.clu i).resetting = false →
    (s.clu i).slotOf p = some x → exec (.raccAck id) s = .next ((s.removePacket p).both i (fun c => c.answer p s.now))) ∧
  (∀ (s : State) (id i : Nat) (p : Packet), s.arrived id .raccAck = some (p, i) → (s.clu i).resetting = true ∨ (s.clu i).slotOf p = none →
    exec (.raccAck id) s = .next (s.discardAt i p)) ∧
  (∀ (s u : State) (p : EPort) (m : TowMsg), s.towHas p 1 m → u = s.towRelease p.val m →
    (∀ v, u.addRecords m.vgroup.val m.step (splitRecords 16 m.payload) = (v, true) → exec (.towRacc p) s = .next (v.answerTow m 2)) ∧
    (∀ v, u.addRecords m.vgroup.val m.step (splitRecords 16 m.payload) = (v, false) → exec (.towRacc p) s = .next v)) ∧
  (∀ (s u : State) (p : EPort) (m : TowMsg), s.towHas p 2 m → u = s.towRelease p.val m →
    (∀ f, u.tow.fwd.find? (fun f => f.mtag.toNat == m.arg.toNat / 2 ^ 32) = some f → exec (.towRaccAck p) s =
      .next ({ u with tow := { u.tow with fwd := u.tow.fwd.filter (fun x => x.mtag != f.mtag) } }.answerRacc f.packet)) ∧
    (u.tow.fwd.find? (fun f => f.mtag.toNat == m.arg.toNat / 2 ^ 32) = none → exec (.towRaccAck p) s = .next u)) ∧
  (∀ (s : State) (mtag : W32) (f : Fwd) (o : Nat), s.tow.fwd.find? (fun f => f.mtag == mtag) = some f → f.port = some o →
    f.sent + s.ackTimeout ≤ s.now → exec (.towAckTimeout mtag) s =
      .next (({ s with tow := { s.tow with fwd := s.tow.fwd.filter (fun x => x.mtag != f.mtag) } }.loseStep f.group f.step).answerRacc f.packet)) ∧
  (∀ (s : State) (f : Func) (g : VGroup) (n a : Nat) (raws : List (List W8)), s.reachesPF f.val = true →
    n = blockCount (s.tgroup g.val).nelem.toNat → a = (s.tgroup g.val).table.toNat →
    raws = (List.range n).map (fun b => s.devRead none (a + 48 * b) 48) →
    (s.group g.val).state = .openG → s.owns (s.group g.val).owner a (48 * n) = true →
    (s.badRead none a (48 * n) = [] → (∀ x ∈ raws, s.blockBad g.val x = false) → exec (.towVgLoad f g) s =
      .next (((s.demand none a (48 * n) false none).modTgroup g.val (fun x =>
        { x with loaded := true, blocks := raws.map blockOf })).vgDone g.val 1 0x0000)) ∧
    (s.badRead none a (48 * n) = [] → (∃ x ∈ raws, s.blockBad g.val x = true) → exec (.towVgLoad f g) s =
      .next ((s.demand none a (48 * n) false none).vgDone g.val 1 0x0102)) ∧
    (∀ x l, s.badRead none a (48 * n) = x :: l → exec (.towVgLoad f g) s =
      .next (((s.demand none a (48 * n) false none).memUEs 3 (x :: l)).vgDone g.val 1 0x0102))) ∧
  (∀ (s : State) (f : Func) (g : VGroup), s.reachesPF f.val = true →
    s.owns (s.group g.val).owner (s.tgroup g.val).table.toNat (48 * blockCount (s.tgroup g.val).nelem.toNat) = false →
    exec (.towVgLoad f g) s = .next (s.vgDone g.val 1 0x0102)) ∧
  (∀ (s : State) (f : Func) (g : VGroup), s.reachesPF f.val = true →
    ((s.group g.val).state = .openG → exec (.towVgClear f g) s = .next ((s.modTgroup g.val (fun x =>
      { x with loaded := false, blocks := [], acc := [] })).vgDone g.val 2 0x0000)) ∧
    ((s.group g.val).state ≠ .openG → exec (.towVgLoad f g) s = .next (s.vgDone g.val 1 0x0102) ∧
      exec (.towVgClear f g) s = .next (s.vgDone g.val 2 0x0102)))

/-- STEP_BEGIN opens its step, with its deadline, for a sealed group of its function with a loaded table, no open step, a STEP after
the last ended one and this engine in ENGINES, gives it the messages held for it, and completes with OK; else it completes with
ILLEGAL_DESCRIPTOR. A STEP_COMMIT whose OPT, PFMT, HYPER or group is bad completes with ILLEGAL_DESCRIPTOR, one whose 4-bit or
6-bit PFMT does not fit the group too; one of a step that ended before it with STEP_REPEAT; one that names no step it can commit
with ILLEGAL_DESCRIPTOR; one whose HYPER is uncorrectable with MEM_UNCORRECTABLE (the model takes them in this order, log 112);
else it starts and sends DONE. A home that holds every DONE gives STEP_REPEAT where one is LOST, ILLEGAL_DESCRIPTOR where one
differs in ENGINES or SCALE, CHECKSUM_DISAGREE where a block disagrees, MEM_UNCORRECTABLE where a line it must read is
uncorrectable; else it updates each block by R388 once no view of the slot is held. PARAM messages are written to the next slot
and acknowledged; when the last is acknowledged the verdict is OK. DONE and VERDICT act on the open step or are held for another.
The first verdict that is not OK ends the step with its status; the last OK advances V_g and ends it with the flags; the deadline
ends it with STEP_REPEAT. (R287 (10_memory_system), R316 (11_host_interface_and_rings), R375 (14_tow_links_and_parameter_updates),
R377 (14_tow_links_and_parameter_updates), R378 (14_tow_links_and_parameter_updates), R385 (14_tow_links_and_parameter_updates),
R386 (14_tow_links_and_parameter_updates), R387 (14_tow_links_and_parameter_updates), R388 (14_tow_links_and_parameter_updates),
R390 (14_tow_links_and_parameter_updates), R391 (14_tow_links_and_parameter_updates)) -/
def Obligations.TrainingStepsOpenCommitAndEnd : Prop :=
  (∀ (s : State) (r : DescRef) (d : Desc) (g : Nat) (t : TStep), s.starts r d 7 → g = d.field 8 1 →
    t = { step := BitVec.ofNat 32 (d.field 12 4), scale := BitVec.ofNat 16 (d.field 10 2), engines := BitVec.ofNat 16 (d.field 18 2),
          deadline := d.taken + 1000 * (if d.field 16 2 = 0 then 50 else d.field 16 2) } →
    (s.beginBad d = false ↔ (s.group g).state = .sealed ∧ (s.group g).owner = d.func ∧ (s.tgroup g).loaded = true ∧ (s.tgroup g).step = none ∧
      serialBefore 32 (s.tgroup g).ended.toNat t.step.toNat = true ∧ s.eng ∈ enginesOf t.engines) ∧
    (s.beginBad d = false → exec (.stepBegin r) s = .next (((s.modTgroup g (fun x =>
      { x with step := some t, uncommitted := none, early := [] })).each (s.tgroup g).early (fun u m =>
        if serialBefore 32 (s.tgroup g).ended.toNat m.step.toNat = true then u.holdOrGive m else u)).finishDesc r.ring.val r.index { status := 0x0000 })) ∧
    (s.beginBad d = true → exec (.stepBegin r) s = .next (s.finishDesc r.ring.val r.index { status := 0x0102 }))) ∧
  (∀ (s : State) (r : DescRef) (d : Desc) (g : Nat) (t : TStep), s.starts r d 8 → g = d.field 8 1 →
    (s.commitFieldsBad d = false ↔ d.field 9 1 ≤ 1 ∧ pfmtBad (d.field 10 1) = false ∧ (s.tgroup g).packBad (d.field 10 1) = false ∧
      (s.group g).owner = d.func ∧ s.owns d.func (d.field 16 8) 64 = true) ∧
    ((s.tgroup g).step = some t → (s.commitBad d = false ↔ t.step = BitVec.ofNat 32 (d.field 12 4) ∧ t.commit = none)) ∧
    ((s.tgroup g).step = none → s.commitBad d = true) ∧
    (s.commitFieldsBad d = true → exec (.stepCommit r) s = .next (s.finishDesc r.ring.val r.index { status := 0x0102 })) ∧
    (s.commitFieldsBad d = false → (s.tgroup g).uncommitted = some d.stepNo → exec (.stepCommit r) s =
      .next ((s.modTgroup g (fun x => { x with uncommitted := none })).finishDesc r.ring.val r.index { status := 0x0601 })) ∧
    (s.commitFieldsBad d = false → (s.tgroup g).uncommitted ≠ some d.stepNo → s.commitBad d = true →
      exec (.stepCommit r) s = .next (s.finishDesc r.ring.val r.index { status := 0x0102 })) ∧
    (s.commitFieldsBad d = false → (s.tgroup g).uncommitted ≠ some d.stepNo → s.commitBad d = false → (s.tgroup g).step = some t →
      (s.badRead none (d.field 16 8) 64 = [] → exec (.stepCommit r) s = .next (s.startCommit d t)) ∧
      (∀ x l, s.badRead none (d.field 16 8) 64 = x :: l → exec (.stepCommit r) s =
        .next ((s.memUEs 3 (x :: l)).finishDesc r.ring.val r.index { status := 0x0301 })))) ∧
  (∀ (x : TGroup) (p : Nat), x.packBad p = true ↔
    (vecFmt (BitVec.ofNat 5 p)).width < 8 ∧ (x.nelem.toNat % 32 ≠ 0 ∨ ∃ b ∈ x.blocks, b.pelem % 64 ≠ 0)) ∧
  (∀ (s : State) (g : VGroup) (t : TStep), (s.tgroup g.val).step = some t → t.deadline ≤ s.now →
    exec (.stepDeadline g) s = .next (s.endStep g.val { status := 0x0601 } true)) ∧
  (∀ (s : State) (g : Nat) (t : TStep) (p : Report) (home : Bool) (u : State), (s.tgroup g).step = some t → u = s.freeBuffers g (t.step.toNat % 2) →
    (∀ c, t.commit = some c → s.endStep g p home = (fun v : State => if home = true then v.finishDesc c.desc.1 c.desc.2 p
      else v.completeDesc c.desc.1 c.desc.2 p) (u.modTgroup g (fun x =>
      { x with step := none, ended := t.step, lastDone := engineBits (t.dones.map DoneMsg.eng), uncommitted := none,
               lastOk := engineBits ((t.verdicts.filter (fun v => v.2 == 0x0000)).map Prod.fst) }))) ∧
    (t.commit = none → s.endStep g p home = u.modTgroup g (fun x =>
      { x with step := none, ended := t.step, lastDone := engineBits (t.dones.map DoneMsg.eng), uncommitted := some t.step,
               lastOk := engineBits ((t.verdicts.filter (fun v => v.2 == 0x0000)).map Prod.fst) }))) ∧
  (∀ (s u : State) (g e : Nat) (st : W16) (t : TStep) (vs : List (Nat × W16)), (s.tgroup g).step = some t →
    vs = (e, st) :: t.verdicts.filter (fun v => v.1 != e) → u = s.modTgroup g (fun x => { x with step := some { t with verdicts := vs } }) →
    (st ≠ 0x0000 → s.verdictIn g e st = u.endStep g { status := st } (e == s.tow.engineId)) ∧
    (st = 0x0000 → (∀ x ∈ enginesOf t.engines, ∃ v ∈ vs, v.1 = x.val) → s.verdictIn g e st =
      (u.modGroup g (fun x => { x with vg := x.vg + 1 })).endStep g
        { status := if t.flags = 0 then 0x0000 else 0x0001, flags := t.flags, r0 := ((u.modGroup g (fun x => { x with vg := x.vg + 1 })).group g).vg.toNat } true)) ∧
  (∀ (s : State) (g : VGroup) (t : TStep) (c : Commit) (v : W16), (s.tgroup g.val).step = some t → t.commit = some c → t.sentVerdict = false →
    t.updated = false → (∀ e ∈ enginesOf t.engines, ∃ d ∈ t.dones, d.eng = e.val) →
    (s.homeVerdict g.val t = some v → exec (.paramUpdate g) s = .next (s.sendVerdict g.val t v)) ∧
    (∀ x l, s.homeVerdict g.val t = none → s.viewHeld g.val = false →
      (s.homed (s.tgroup g.val)).flatMap (fun e => s.blockUE t e.1 (blockElems (s.tgroup g.val).nelem.toNat e.2)) = x :: l →
      exec (.paramUpdate g) s = .next ((s.memUEs 3 (x :: l)).sendVerdict g.val t 0x0301)) ∧
    (∀ (u : State) (y : TStep), s.homeVerdict g.val t = none → s.viewHeld g.val = false →
      (∀ e ∈ s.homed (s.tgroup g.val), s.blockUE t e.1 (blockElems (s.tgroup g.val).nelem.toNat e.2) = []) →
      u = (s.each (s.homed (s.tgroup g.val)) (fun x e => x.runBlock g.val t c e)).modTgroup g.val (fun x =>
        { x with step := x.step.map (fun y => { y with updated := true }) }) → (u.tgroup g.val).step = some y →
      exec (.paramUpdate g) s = .next (if y.await = [] then u.sendVerdict g.val y 0x0000 else u))) ∧
  (∀ (s : State) (g : Nat) (t : TStep), s.homed (s.tgroup g) ≠ [] →
    ((∃ d ∈ t.dones, d.lost = true) → s.homeVerdict g t = some 0x0601) ∧
    ((∀ d ∈ t.dones, d.lost = false) → (∃ d ∈ t.dones, d.engines ≠ t.engines ∨ d.scale ≠ t.scale) → s.homeVerdict g t = some 0x0102) ∧
    ((∀ d ∈ t.dones, d.lost = false ∧ d.engines = t.engines ∧ d.scale = t.scale) → (∃ e ∈ s.homed (s.tgroup g), s.checksumBad g t e = true) →
      s.homeVerdict g t = some 0x0602)) ∧
  (∀ (opt : Nat) (h : List Nat) (scale acc : Int) (w m v : Nat) (x g m1 v1 : Flagged) (k : Nat → Flagged), k = (fun i => (h.getD i 0, 0)) →
    x = (w, 0) → g = op32 .mul (Fmt.fp32.convert false (.fin (acc < 0) acc.natAbs scale)) (k 5) →
    (opt = 0 → m1 = op32 .add (op32 .mul (k 1) (m, 0)) g →
      updateElem opt h scale acc w m v = (op32 .sub x (op32 .mul (k 0) (op32 .add m1 (op32 .mul (k 3) x))), m1, (v, 0))) ∧
    (opt = 1 → m1 = op32 .add (op32 .mul (k 1) (m, 0)) (op32 .mul (op32 .sub one32 (k 1)) g) →
      v1 = op32 .add (op32 .mul (k 2) (v, 0)) (op32 .mul (op32 .sub one32 (k 2)) (op32 .mul g g)) →
      updateElem opt h scale acc w m v = (op32 .sub x (op32 .mul (k 0) (op32 .add
        (op32 .div (op32 .mul m1 (k 6)) (op32 .add (op32 .sqrt (op32 .mul v1 (k 7)) (0, 0)) (k 4))) (op32 .mul (k 3) x))), m1, v1))) ∧
  (∀ (s u : State) (p : EPort) (m : TowMsg) (a : Nat) (t : TStep), s.towHas p 3 m → u = s.towRelease p.val m → u.paramAddr m = some a →
    (u.tgroup m.vgroup.val).step = some t → t.step = m.step → u.versionedIn m.vgroup.val a m.payload.length = true →
    u.viewHeld m.vgroup.val = false → exec (.towParam p) s = .next ((u.writeNext m.vgroup.val a m.payload).answerTow m 4)) ∧
  (∀ (s u v : State) (p : EPort) (m : TowMsg) (t y : TStep), s.towHas p 4 m → u = s.towRelease p.val m → (u.tgroup m.vgroup.val).step = some t →
    y = { t with await := t.await.filter (fun e => !(e.1 == m.srcEng.val && e.2 == m.arg)) } →
    v = u.modTgroup m.vgroup.val (fun x => { x with step := some y }) →
    (t.updated = true → t.sentVerdict = false → y.await = [] → exec (.towParamAck p) s = .next (v.sendVerdict m.vgroup.val y 0x0000)) ∧
    (y.await ≠ [] → exec (.towParamAck p) s = .next v)) ∧
  (∀ (s u : State) (p : EPort) (m : TowMsg), u = s.towRelease p.val m →
    (∀ t, (u.tgroup m.vgroup.val).step = some t → t.step = m.step →
      (s.towHas p 5 m → exec (.towDone p) s = .next (u.doneIn m.vgroup.val (doneOf m.srcEng.val m.arg))) ∧
      (s.towHas p 6 m → exec (.towVerdict p) s = .next (u.verdictIn m.vgroup.val m.srcEng.val (m.arg.setWidth 16)))) ∧
    ((∀ t, (u.tgroup m.vgroup.val).step = some t → t.step ≠ m.step) →
      (s.towHas p 5 m → exec (.towDone p) s = .next (u.modTgroup m.vgroup.val (fun x => { x with early := x.early ++ [m] }))) ∧
      (s.towHas p 6 m → exec (.towVerdict p) s = .next (u.modTgroup m.vgroup.val (fun x => { x with early := x.early ++ [m] })))))

/-- CRUMB_COMPARE on the oldest capture counts it and, where the checker agrees, gives a clean verdict; where it differs, keeps the
result for a second check. CRUMB_SECOND_CHECK gives ORIGINAL where the second checker agrees with the first, CHECKER where with
the original, else UNDECIDED; so does CRUMB_UNDECIDED 100 us after the operation. A verdict is counted and raises INTEG_SDE;
ORIGINAL and UNDECIDED also freeze the window and mark the run. At the end of a second of a field INTEG_RATE_LOW is raised where
fewer than 1/256 of its checked operations were compared, and its counts begin afresh. PAIR_COMPARE sends the primary's packet
where the twin's is the same, and halts the pair where it differs; so does PAIR_WAIT_TIMEOUT. QUARANTINE takes an enabled cluster
out of use; RETURN_TO_SPARE clears a quarantined one that no configuration uses; else each ends with ILLEGAL_DESCRIPTOR.
INTEG_LIN_SEL selects a window, and UNFREEZE unfreezes it. (R119 (04_compute_core), R141 (05_cluster_and_scratchpad), R397
(15_result_integrity), R399 (15_result_integrity), R400 (15_result_integrity), R401 (15_result_integrity), R402
(15_result_integrity), R405 (15_result_integrity), R409 (15_result_integrity), R412 (15_result_integrity), R413
(15_result_integrity), R415 (15_result_integrity)) -/
def Obligations.IntegrityChecksGiveVerdicts : Prop :=
  (∀ (s : State) (x : Site) (k : Capture) (b : List W8), (s.clu (Site.idx x)).caps.find? (fun k => k.first.isNone) = some k →
    (s.clu (Site.idx x)).checker.isSome = true → ∀ fld, fld = fieldOf (Site.idx x) →
    (b = k.orig → exec (.crumbCompare x b) s = .next (((s.bump offSampled 1).countCompared fld).cleanVerdict (Site.idx x) k)) ∧
    (b ≠ k.orig → exec (.crumbCompare x b) s = .next (((s.bump offSampled 1).countCompared fld).modClu (Site.idx x) (fun c =>
      { c with caps := c.caps.map (fun y => if y = k then { y with first := some b } else y) })))) ∧
  (∀ (s : State) (x : Site) (k : Capture) (a b : List W8), (s.clu (Site.idx x)).caps.find? (fun k => k.first.isSome) = some k →
    k.first = some a → a ≠ k.orig →
    (b = a → exec (.crumbSecondCheck x b) s = .next (s.giveVerdict (Site.idx x) k .original)) ∧
    (b = k.orig → exec (.crumbSecondCheck x b) s = .next (s.giveVerdict (Site.idx x) k .checker)) ∧
    (b ≠ a → b ≠ k.orig → exec (.crumbSecondCheck x b) s = .next (s.giveVerdict (Site.idx x) k .undecided)) ∧
    (k.since + 100 ≤ s.now → exec (.crumbUndecided x) s = .next (s.giveVerdict (Site.idx x) k .undecided))) ∧
  (∀ (s t : State) (i : Nat) (k : Capture), t = (s.bump offMismatch 1).modClu i (fun c => { c with caps := c.caps.filter (· != k), cleanRun := 0 }) →
    s.giveVerdict i k .checker = t.sdeEvent .checker i ((s.clu i).checker.getD 0) k.opcode.toNat k.core k.entry ∧
    (∀ v, v = .original ∨ v = .undecided → s.giveVerdict i k v = ((t.modClu i (fun c => { c with linFrozen := true })).markSde i k).sdeEvent v i
      ((s.clu i).checker.getD 0) k.opcode.toNat k.core k.entry)) ∧
  (∀ (s u : State) (fld : FieldIx) (a b : Nat), s.ready = true → Tab.get 0 s.integ.since fld.val + 1000000 ≤ s.now →
    Tab.get 0 s.integ.checked fld.val = a → Tab.get 0 s.integ.compared fld.val = b →
    u = { s with integ := { s.integ with checked := Tab.put 0 s.integ.checked fld.val 0,
                                         compared := Tab.put 0 s.integ.compared fld.val 0,
                                         since := Tab.put 0 s.integ.since fld.val s.now } } →
    (256 * b < a → exec (.integRateLow fld a b) s = .next (u.raiseWide 0x0021 fld.val)) ∧
    (a ≤ 256 * b → exec (.integRateLow fld a b) s = .next u)) ∧
  (∀ (s : State) (fld f : Nat), Tab.get 0 (s.countCompared fld).integ.compared f =
    if f = fld then Tab.get 0 s.integ.compared f + 1 else Tab.get 0 s.integ.compared f) ∧
  (∀ (s : State) (f : Func), s.reachesPF f.val = true → s.quarSite = none →
    exec (.quarantine f) s = .next (s.quarDone 1 0x0102) ∧ exec (.returnToSpare f) s = .next (s.quarDone 2 0x0102)) ∧
  (∀ (s : State) (x : Site) (i : Nat) (k : PairInfo) (p q : Packet) (n : Nat) (rest : List (Packet × Nat)), i = Site.idx x →
    (s.clu i).pair = some k → k.held = (p, n) :: rest → k.twin.find? (fun q => p.counterpart q) = some q →
    (p.same q = true → exec (.pairCompare x) s = .next ((s.modClu i (fun c =>
      { c with pair := some { k with held := rest, twin := dropFirst (fun r => r == q) k.twin } })).inject p)) ∧
    (p.same q = false → exec (.pairCompare x) s = .next (s.pairHalt i k))) ∧
  (∀ (s : State) (x : Site) (i f : Nat) (k : PairInfo) (p : Packet) (n : Nat) (rest : List (Packet × Nat)), i = Site.idx x →
    (s.clu i).pair = some k → (s.clu i).owner = some f → k.held = (p, n) :: rest → n + s.pairWait f ≤ s.now →
    (∀ q ∈ k.twin, p.counterpart q = false) → exec (.pairWaitTimeout x) s = .next (s.pairHalt i k)) ∧
  (∀ (s : State) (i : Nat) (k : PairInfo) (stop : Cluster → Cluster),
    stop = (fun c => { c with linFrozen := true, pair := c.pair.map (fun y => { y with held := [], twin := [] }) }) →
    s.pairHalt i k = ((((s.bump offMismatch 1).modClu i stop).modClu k.other stop).haltClusterRun i { status := 0x0701 }).sdeEvent .pair i
      k.other 0 0 (match s.runOf i with | some (f, u) => s.runEntry f u | none => 0)) ∧
  (∀ (s : State) (f : Func) (i : Nat), s.reachesPF f.val = true → s.quarSite = some i →
    (s.enabled i = true → exec (.quarantine f) s = .next (((((s.setSite i .quarantined).haltClusterRun i { status := 0x0701 }).dropCaptures
      (· == i)).assignCheckers.mapDirty).quarDone 1 0x0000)) ∧
    (s.enabled i = false → exec (.quarantine f) s = .next (s.quarDone 1 0x0102)) ∧
    (s.siteState i = .quarantined → (s.clu i).cfg = none → exec (.returnToSpare f) s =
      .next ((((((s.clearCluster i).modClu i (fun c => { c with owner := none })).setSite i .spare).assignCheckers).mapDirty).quarDone 2 0x0000)) ∧
    (s.siteState i ≠ .quarantined ∨ (s.clu i).cfg ≠ none → exec (.returnToSpare f) s = .next (s.quarDone 2 0x0102))) ∧
  (∀ (s u : State) (f : Func) (v : W32) (x y : Nat), s.reaches f.val = true → x = bits v.toNat 15 8 → y = bits v.toNat 7 0 →
    x < 160 → y < 160 → isPF f.val = true ∨ (s.clu (siteIdx x y)).owner = some f.val →
    u = { s with integ := { s.integ with linSel := Tab.put 0 s.integ.linSel f.val (v &&& 0xFFFF#32) } } →
    (bitOf v.toNat 31 = true → exec (.integLinSelWrite f v) s = .next (u.modClu (siteIdx x y) (fun c => { c with linFrozen := false }))) ∧
    (bitOf v.toNat 31 = false → exec (.integLinSelWrite f v) s = .next u))

/-- LINK_RETRAIN takes a link that retrains out of use at both ends with one more strike, breaks the timetables that use it, and is
counted. LINK_RETRAIN_END records the lanes that failed and disables a physical link that still fails or has a group with more
failed lanes than spares, for which a field edge takes an unused physical link; the link then returns, or is off, which is counted
and makes the map due, where nothing can carry it or it has STRIKES strikes within the hour. REGION_SHORT takes a field dark,
locked off where it came back less than 10 s before or is starting. REGION_ON on a dark field clears what is lost, retrains its
links, clears its clusters and stays busy until they have trained; when they have, the field is on, with its event. Both mailbox
commands end with ILLEGAL_DESCRIPTOR where the argument is not as R459 gives. FABRIC_BIN to another rate retrains the links, to
the rate that is set completes at once and to the one that is coming waits for it (the last is the model's reading, log 132), and
FABRIC_CHANGE_DONE returns them at the new rate and ends the command. (R201 (08_wafer_fabric), R344 (12_partitions_and_reset),
R427 (16_defects_and_bring_up), R429 (16_defects_and_bring_up), R430 (16_defects_and_bring_up), R437 (16_defects_and_bring_up),
R441 (17_clocks_and_supplies), R454 (17_clocks_and_supplies), R456 (17_clocks_and_supplies), R457 (17_clocks_and_supplies), R458
(17_clocks_and_supplies), R459 (17_clocks_and_supplies)) -/
def Obligations.LinksRetrainAndRegionsReturn : Prop :=
  (∀ (s t : State) (l : LinkEnd), s.ready = true → s.retrains l = true →
    t = s.modEnds l (fun k => { state := .training, strikes := s.now :: recent k.strikes 3600000000 s.now }) →
    exec (.linkRetrain l) s = .next ((t.each t.allCfgs (fun u e => u.breakTable { link := some (Site.idx l.site, l.port) } e.1 e.2)).mapChange.bump
      offRetrains 1)) ∧
  (∀ (s u : State) (l : LinkEnd) (found : LinkFinding) (n : Nat) (flds : List Nat), flds = (linkEnds l).map (fun k => fieldOf (k / 4)) →
    n = ((linkEnds l).map (fun k => (recent (s.link k).strikes 3600000000 s.now).length)).foldl max 0 →
    (∃ k ∈ linkEnds l, (s.link k).state = .training) → (∀ k ∈ flds, (s.field k).slowNext = none) → u = s.spare (Site.idx l.site) l.port found.failed found.good →
    (u.linkGone (Site.idx l.site) l.port found.good = true ∨ s.strikeMax ≤ n → exec (.linkRetrainEnd l found) s =
      .next ((((u.modEnds l (fun k => { k with state := .off })).bump offLinkOff 1).mapDirty).mapChange.each flds State.fieldBack)) ∧
    (u.linkGone (Site.idx l.site) l.port found.good = false → n < s.strikeMax → u.fab.lanes = s.fab.lanes → u.fab.edge = s.fab.edge →
      exec (.linkRetrainEnd l found) s = .next ((u.modEnds l (fun k => { k with state := .up })).mapChange.each flds State.fieldBack)) ∧
    (u.linkGone (Site.idx l.site) l.port found.good = false → n < s.strikeMax → u.fab.lanes ≠ s.fab.lanes ∨ u.fab.edge ≠ s.fab.edge →
      exec (.linkRetrainEnd l found) s = .next ((u.modEnds l (fun k => { k with state := .up })).mapDirty.mapChange.each flds State.fieldBack))) ∧
  (∀ (s : State) (i : Nat) (d : Dir) (failed : List LaneEx) (good : Bool),
    (s.physLink i d = none → s.spare i d failed good = s ∧ s.linkGone i d good = true) ∧
    (∀ n t, s.physLink i d = some n → t = s.modFab (fun b =>
        { b with lanes := addLanes b.lanes (failed.filter (fun x => x.fld == fieldOf i && x.link == n)) }) →
      (good = true → linkWorn t.fab.lanes (fieldOf i) n = false → s.spare i d failed good = t) ∧
      (good = false ∨ linkWorn t.fab.lanes (fieldOf i) n = true → s.spare i d failed good = t.disableLink (fieldOf i) n) ∧
      (s.linkGone i d good = true ↔ n < 760 ∧ (good = false ∨ linkWorn s.fab.lanes (fieldOf i) n = true)))) ∧
  (∀ (l : List LaneEx) (fld link : Nat), linkWorn l fld link = true ↔ ∃ x ∈ l, x.fld = fld ∧ x.link = link ∧
    groupSpares x.net x.group < (l.filter (sameGroup x)).length) ∧
  (∀ (s : State) (fld : FieldIx),
    ((s.field fld.val).region = .on → s.pwr.step = .released → exec (.regionShort fld) s = .next (s.goDark fld.val (s.justOn fld.val))) ∧
    ((s.field fld.val).region = .starting → exec (.regionShort fld) s = .next (s.goDark fld.val true))) ∧
  (∀ (s : State) (fld t : Nat), (s.field fld).regionOnAt = some t → (s.justOn fld = true ↔ s.now < t + 10000000)) ∧
  (∀ (s t u : State) (f : Func) (k : Nat), s.reachesPF f.val = true → s.pwr.mbox.busy = false → k = bits s.pwr.arg.toNat 29 24 →
    t = ((s.mboxSet 2 true 0x0000).modFab (fun b => { b with oos := setBit64 b.oos k true, dark := setBit64 b.dark k false })).modField k
      (fun x => { x with region := .starting, regionOnAt := none }) → u = ((t.loseField k).retrainField k true).mapChange →
    (s.pwr.arg.toNat % 2 ^ 24 = 0 → s.pwr.arg.toNat / 2 ^ 30 = 0 → (s.field k).region = .dark → exec (.regionOn f) s =
      .next (u.each (u.cl.filterMap (fun e => if fieldOf e.1 = k ∧ e.2.needsClear = true then some e.1 else none)) State.clearCluster)) ∧
    (s.pwr.arg.toNat % 2 ^ 24 ≠ 0 ∨ s.pwr.arg.toNat / 2 ^ 30 ≠ 0 ∨ (s.field k).region ≠ .dark → exec (.regionOn f) s = .next (s.mboxSet 2 false 0x0102))) ∧
  (∀ (s : State) (k : Nat), s.fieldTrained k = true → s.fab.fieldCmd.busy = false → (s.field k).region = .starting → s.fieldBack k =
    ((s.modField k (fun x => { x with region := .on, regionOnAt := some s.now, wasReset := true })).mboxSet 2 false 0x0000).fieldEvent k 0x0032
      (k + 512)) ∧
  (∀ (s : State) (f : Func) (k : Nat), s.reachesPF f.val = true → s.pwr.mbox.busy = false → k = bits s.pwr.arg.toNat 29 24 →
    (s.argClean = true → s.isDark k = false →
      ((s.field k).slowNext = none → (s.field k).slow ≠ bitOf s.pwr.arg.toNat 0 → exec (.fabricBin f) s =
        .next ((s.mboxSet 1 true 0x0000).changeFabric k (bitOf s.pwr.arg.toNat 0))) ∧
      ((s.field k).slowNext = none → (s.field k).slow = bitOf s.pwr.arg.toNat 0 → exec (.fabricBin f) s = .next (s.mboxSet 1 false 0x0000)) ∧
      ((s.field k).slowNext = some (bitOf s.pwr.arg.toNat 0) → exec (.fabricBin f) s = .next (s.mboxSet 1 true 0x0000)) ∧
      ((s.field k).slowNext = some (!bitOf s.pwr.arg.toNat 0) → exec (.fabricBin f) s =
        .next ((s.mboxSet 1 true 0x0000).changeFabric k (bitOf s.pwr.arg.toNat 0)))) ∧
    (s.argClean = false → exec (.fabricBin f) s = .next (s.mboxSet 1 false 0x0102)) ∧
    (s.isDark k = true → exec (.fabricBin f) s = .next (s.mboxSet 1 false 0x0102))) ∧
  (∀ (s t : State) (fld : FieldIx) (v : Bool), (s.field fld.val).slowNext = some v →
    t = ((s.each (fieldLinks fld.val) (fun t e => if (t.link e).state = .training then t.modLink e (fun x => { x with state := .up }) else t)).modField
      fld.val (fun x => { x with slow := v, slowNext := none })).mapChange →
    (t.pwr.mbox.busy = true → t.pwr.mbox.field.toNat / 2 ^ 24 = 1 → t.argField = fld.val →
      exec (.fabricChangeDone fld) s = .next (t.mboxSet 1 false 0x0000)) ∧
    (t.pwr.mbox.busy = false → exec (.fabricChangeDone fld) s = .next t))

/-- With a feed present, POWER_UP_STEP leads from no power to standby, where uptime starts at 0; from standby the LMC starts where its
image passes, else the recovery endpoint is served; then, where the logic side is wanted on, the converters with four buses in
regulation, the crust rails, the field regions, and the release of module reset, which after a wafer trip waits until the wafer is
cool. BRINGUP_START chooses the CRUST and SERDES banks, and fails where none passes. Each BRINGUP_PHASE_END with the phase
complete has the phase's effect and goes to the next: the maps, the clocks, the link tests with the lanes spared and the edge
maps, failing sites retired, exclusions, the merge, the margins; the ninth writes the service map, sets ready and raises
GEN_READY; a phase that cannot complete sets FAIL. SERVICE_MAP_WRITE writes a changed map, which is then signed. (R26
(01_engine_organisation), R417 (16_defects_and_bring_up), R419 (16_defects_and_bring_up), R420 (16_defects_and_bring_up), R424
(16_defects_and_bring_up), R425 (16_defects_and_bring_up), R427 (16_defects_and_bring_up), R452 (17_clocks_and_supplies), R453
(17_clocks_and_supplies), R485 (19_security_and_attestation), R488 (19_security_and_attestation), R489
(19_security_and_attestation)) -/
def Obligations.PowerUpAndBringUpProceedInOrder : Prop :=
  (∀ (s : State), s.pwr.step = .off → s.pwr.feedA.present = true ∨ s.pwr.feedB.present = true →
    exec .powerUpStep s = .next { s.toStep .standby with now := 0 }) ∧
  (∀ (s : State), s.pwr.step = .standby → s.sec.recovery = false → exec .powerUpStep s =
    .next (if s.chooseLmc.runs 1 = true then s.chooseLmc.lmcStarts else { s.chooseLmc with sec := { s.chooseLmc.sec with recovery := true } })) ∧
  (∀ (s : State), s.pwr.step = .started → s.pwr.wantOn = true → s.pwr.feedA.present = true ∨ s.pwr.feedB.present = true →
    exec .powerUpStep s = .next { s with pwr := { s.pwr with step := .converters, quadOk := 0xF, quadCv := [(0, 4800), (1, 4800), (2, 4800), (3, 4800)] } }) ∧
  (∀ (s : State), s.pwr.step = .converters → exec .powerUpStep s = .next (s.toStep .crust)) ∧
  (∀ (s : State), s.pwr.step = .crust → exec .powerUpStep s = .next (s.regionsOn.toStep .regions)) ∧
  (∀ (s : State), s.pwr.step = .regions → s.thm.waitCool = false ∨ s.coolEnough = true →
    exec .powerUpStep s = .next { s.toStep .released with thm := { s.thm with waitCool := false } }) ∧
  (∀ (s : State), s.pwr.step = .regions → s.thm.waitCool = true → s.coolEnough = false → exec .powerUpStep s = .next s) ∧
  (∀ (s t : State), s.pwr.step = .released → s.ready = false → s.boot.active = false → s.boot.phase = 0 →
    t = (({ s with boot := { s.boot with kind := s.boot.nextKind, nextKind := .cold, phase := 1, active := true, releasedAt := s.now } }).chooseBank
      2).chooseBank 3 →
    exec .bringupStart s = .next (if t.runs 2 = true ∧ t.runs 3 = true then t else
      { t with boot := { t.boot with fail := true, active := false }, mgmt := { t.mgmt with busy := none } })) ∧
  (∀ (s t : State) (x : PhaseFinding), s.boot.active = true →
    (x.ok = false → exec (.bringupPhaseEnd x) s =
      .next { s with boot := { s.boot with fail := true, active := false }, mgmt := { s.mgmt with busy := none } }) ∧
    (x.ok = true → s.boot.phase = 9 → exec (.bringupPhaseEnd x) s = .next s.commitReady) ∧
    (x.ok = true → s.boot.phase < 9 → t = s.endPhase x →
      exec (.bringupPhaseEnd x) s = .next { t with boot := { t.boot with phase := s.boot.phase + 1 } })) ∧
  (∀ (s : State) (x : PhaseFinding),
    (s.boot.phase = 1 → s.endPhase x = s.loadMaps x.serviceMapGood) ∧
    (s.boot.phase = 2 → s.endPhase x = s.each ((List.range 64).filter (fun k => !s.isDark k)) (fun t k => t.modField k (fun y => y.startClocks k))) ∧
    (s.boot.phase = 3 → s.endPhase x = s) ∧
    (s.boot.phase = 4 → s.endPhase x = s.testLinks x) ∧
    (s.boot.phase = 5 → s.endPhase x = (fun u : State => { u with boot := { u.boot with failed := x.failedSites.map Site.idx } })
      (s.each (x.failedSites.map Site.idx) (fun t i => t.setSite i .retired))) ∧
    (s.boot.phase = 6 → s.endPhase x = s.exclude x.excluded) ∧
    (s.boot.phase = 7 → s.endPhase x = s.merge) ∧
    (s.boot.phase = 8 → s.endPhase x = s.margins)) ∧
  (∀ (s : State) (t : Nat), s.boot.mapDue = some t → exec .serviceMapWrite s = .next ({ s with boot := { s.boot with
      mapDue := none, map := { s.boot.map with sites := s.site, gen := s.boot.map.gen + 1, hours := s.mgmt.hours, edge := s.fab.edge, lanes := s.fab.lanes } } }.signRecord
        .serviceMap)) ∧
  (∀ (s : State) (x : PhaseFinding) (lanes : List LaneEx) (edge : Tab EdgeLink),
    lanes = addLanes (if s.boot.kind = .cold ∨ s.boot.reverted = true then [] else s.boot.map.lanes) (Config.factoryLanes.map laneOfWord) →
    edge = (if s.boot.kind = .cold ∨ s.boot.reverted = true then factoryEdge else s.boot.map.edge) →
    s.testLinks x = s.sparing lanes edge x.failedLanes ((s.modFab (fun b => { b with edge := edge })).linkNos x.failedLinks)) ∧
  (∀ (s : State) (k e : Nat) (pass on off : List Nat),
    pass = (fieldSites k).filter (fun i => s.siteState i == .enabled || s.siteState i == .spare) →
    on = pass.filter (fun i => s.siteState i == .enabled) → off = pass.filter (fun i => s.siteState i == .spare) →
    e = max (min pass.length 384) (pass.length - s.boot.map.reserve) → s.selection k = (off.take (e - on.length), on.drop e)) ∧
  (∀ (s : State), s.pwr.step = .started → s.pwr.wantOn = false ∨ (s.pwr.feedA.present = false ∧ s.pwr.feedB.present = false) →
    exec .powerUpStep s = .next s)

/-- CLOCK_STEP moves a clock that is not held by 25 MHz towards the least of its bin and ceilings. A PLL that loses lock is held,
counted and reported, and relocks. A feed within 260 to 400 V becomes present; outside 250 to 410 V it is lost, which starts the
cap at 350 MHz where the other is present and the logic side is on. Each 10 ms of cap the ceiling rises below 11,500 W and falls
above 12,000 W; 20 ms above at the lowest step, a field is gated each 1 ms in descending index. After 10 s with both feeds the cap
ends: fields are ungated in ascending index, then the ceiling rises to its end. A lost quadrant bus is a module reset with cause
5, or the end of the standby supply. The isolator link's loss and return are reported. An interlock or a trip opens the inlet; a
second trip within an hour latches it; else it recloses after 10 s. (R24 (01_engine_organisation), R440 (17_clocks_and_supplies),
R442 (17_clocks_and_supplies), R444 (17_clocks_and_supplies), R447 (17_clocks_and_supplies), R448 (17_clocks_and_supplies), R449
(17_clocks_and_supplies), R450 (17_clocks_and_supplies), R451 (17_clocks_and_supplies), R458 (17_clocks_and_supplies), R520
(21_module_electrical_and_mechanical), R526 (21_module_electrical_and_mechanical)) -/
def Obligations.FeedsClocksAndTheCapAct : Prop :=
  (∀ (s : State) (fld : FieldIx) (x : FieldSt), x = s.field fld.val → s.isDark fld.val = false → x.holdC = false →
    (x.cclk < min x.bin (min x.spCeil x.capCeil) → exec (.clockStep fld) s = .next (s.modField fld.val (fun x => { x with cclk := x.cclk + 1 }))) ∧
    (min x.bin (min x.spCeil x.capCeil) < x.cclk → exec (.clockStep fld) s = .next (s.modField fld.val (fun x => { x with cclk := x.cclk - 1 }))) ∧
    (x.cclk = min x.bin (min x.spCeil x.capCeil) → exec (.clockStep fld) s = .next s)) ∧
  (∀ (s : State) (p : Pll), s.pwr.step = .released →
    (s.held p = false → exec (.pllLockLoss p) s =
      .next (((s.setHold p true).each (pllFields p) (fun t k => t.bump (offPllSlip k) 1)).raiseWide 0x0033 (pllData p))) ∧
    (s.held p = true → exec (.pllRelock p) s = .next ((s.setHold p false).raiseWide 0x0033 (pllData p + 512)))) ∧
  (∀ (s : State) (x : Feed) (dv : Nat), (s.feed x).tripped = false → (s.feed x).latched = false → 2600 ≤ dv → dv ≤ 4000 → (s.feed x).present = false →
    exec (.feedPresent x dv) s = .next (s.modFeed x (fun f => { f with dv := dv, present := true, presentAt := s.now, interlock := false }))) ∧
  (∀ (s u : State) (x : Feed) (dv : Nat), (s.feed x).present = true → dv < 2500 ∨ 4100 < dv →
    u = (s.modFeed x (fun f => { f with dv := dv })).modFeed x (fun f => { f with present := false }) →
    (s.logicOn = true → (s.feed (otherFeed x)).present = true → exec (.feedLost x dv) s = .next (({ u with
      pwr := { u.pwr with capActive := true, capEnding := false, capAt := s.now, capLow := none } }.setCap 14).feedEvent.capEvent)) ∧
    (s.logicOn = true → (s.feed (otherFeed x)).present = false → exec (.feedLost x dv) s = .next u.feedEvent) ∧
    (s.logicOn = false → s.pwr.step ≠ .off → (s.feed (otherFeed x)).present = false → exec (.feedLost x dv) s = .next u.feedEvent.standbyLost)) ∧
  (∀ (s t : State) (w c : Nat), s.pwr.capActive = true → s.pwr.linkLost = false → s.pwr.capAt + 10000 ≤ s.now → s.pwr.capEnding = false →
    c = (s.field 0).capCeil →
    t = { s with pwr := { s.pwr with input := w, capAt := s.now,
                                     capLow := if c = 14 ∧ 12000 < w then some (s.pwr.capLow.getD s.now) else none } } →
    (w < 11500 → exec (.capAdjust w) s = .next (t.setCap (min 28 (c + 1)))) ∧
    (11500 ≤ w → w ≤ 12000 → exec (.capAdjust w) s = .next (t.setCap c)) ∧
    (12000 < w → exec (.capAdjust w) s = .next (t.setCap (max 14 (c - 1))))) ∧
  (∀ (s t : State) (w k since : Nat), s.pwr.capActive = true → s.pwr.capEnding = false → s.pwr.capLow = some since → since + 20000 ≤ s.now →
    12000 < w → s.pwr.gateAt + 1000 ≤ s.now → (List.range 64).reverse.find? (fun k => !(s.field k).gateCap && !s.isDark k) = some k →
    t = { s with pwr := { s.pwr with input := w, gateAt := s.now } } →
    exec (.capGateField w) s = .next (t.modGate k (fun x => { x with gateCap := true }))) ∧
  (∀ (s : State), s.pwr.capActive = true → s.pwr.capEnding = false → s.pwr.feedA.present = true → s.pwr.feedB.present = true →
    s.pwr.feedA.presentAt + 10000000 ≤ s.now → s.pwr.feedB.presentAt + 10000000 ≤ s.now →
    exec .capEnd s = .next { s with pwr := { s.pwr with capEnding := true, capLow := none } }) ∧
  (∀ (s : State) (k : Nat), s.pwr.capEnding = true → s.pwr.gateAt + 1000 ≤ s.now → (List.range 64).find? (fun k => (s.field k).gateCap) = some k →
    exec .capRestoreField s = .next ({ s with pwr := { s.pwr with gateAt := s.now } }.modGate k (fun x => { x with gateCap := false }))) ∧
  (∀ (s t : State) (q : BitVec 4), s.logicOn = true → q ≠ 0 → t = s.moduleReset 5 q 0 false .started →
    (s.pwr.feedA.present = true ∨ s.pwr.feedB.present = true → exec (.quadBusLoss q) s =
      .next { t with pwr := { t.pwr with quadOk := 0, quadCv := [] } }) ∧
    (s.pwr.feedA.present = false → s.pwr.feedB.present = false → exec (.quadBusLoss q) s = .next s.standbyLost)) ∧
  (∀ (s : State), s.pwr.step ≠ .off →
    (s.pwr.linkLost = false → exec .supplyLinkLoss s = .next ({ s with pwr := { s.pwr with linkLost := true } }.raiseWide 0x0034 1)) ∧
    (s.pwr.linkLost = true → exec .supplyLinkRestore s = .next ({ s with pwr := { s.pwr with linkLost := false } }.raiseWide 0x0034 2))) ∧
  (∀ (s u : State) (x : Feed), u = s.modFeed x (fun f => { f with interlock := true }) →
    exec (.interlockOpen x) s = .next (if (u.feed x).present = true then u.loseFeed x else u)) ∧
  (∀ (s u : State) (x : Feed) (b : Bool), (s.feed x).present = true →
    (b = true ↔ ∃ t, (s.feed x).lastTrip = some t ∧ s.now < t + 3600000000) →
    u = s.modFeed x (fun f => { f with tripped := true, lastTrip := some s.now, latched := f.latched || b }) →
    exec (.inletTrip x) s = .next (if (u.feed x).present = true then u.loseFeed x else u)) ∧
  (∀ (s : State) (x : Feed) (t : Nat), (s.feed x).lastTrip = some t → (s.feed x).tripped = true → (s.feed x).latched = false →
    t + 10000000 ≤ s.now → exec (.inletReclose x) s = .next (s.modFeed x (fun f => { f with tripped := false }))) ∧
  (∀ (s t : State) (w c : Nat), s.pwr.capActive = true → s.pwr.linkLost = false → s.pwr.capAt + 10000 ≤ s.now → s.pwr.capEnding = true →
    c = (s.field 0).capCeil → t = { s with pwr := { s.pwr with input := w, capAt := s.now } } →
    (s.capGates = true → exec (.capAdjust w) s = .next t) ∧
    (s.capGates = false → exec (.capAdjust w) s = .next ((t.setCap (min 28 (c + 1))).capFinish))) ∧
  (∀ (s t : State), t = { s with pwr := { s.pwr with capActive := false, capEnding := false } } →
    ((∀ k < 64, min (s.field k).bin (s.field k).spCeil ≤ (s.field k).capCeil) → s.capFinish = (t.setCap 28).capEvent) ∧
    ((∃ k < 64, (s.field k).capCeil < min (s.field k).bin (s.field k).spCeil) → s.capFinish = s)) ∧
  (∀ (s : State) (p q : Pll) (b : Bool), p ≠ .reference → q ≠ .reference → p ≠ q →
    (s.setHold p b).held p = b ∧ (s.setHold p b).held q = s.held q) ∧
  (∀ (s : State) (x : Feed) (dv : Nat), (s.feed x).tripped = true ∨ (s.feed x).latched = true ∨ dv < 2600 ∨ 4000 < dv →
    exec (.feedPresent x dv) s = .next s) ∧
  (∀ (s : State) (x : Feed) (dv : Nat), (s.feed x).present = false ∨ (2500 ≤ dv ∧ dv ≤ 4100) → exec (.feedLost x dv) s = .next s)

/-- SENSOR_SAMPLE records each reading, judges the ceiling and gate of every field read, and starts a module reset with cause 6, which
waits until the wafer is cool, where a working sensor has read 100 C or more twice running. A field at 92 C or more is gated; the
gate opens at a ceiling of 350 MHz when it has stayed below 88 C for 1 ms; a field with fewer than 12 working sensors is held at
350 MHz. SNOWPLOUGH_STEP lowers the ceiling every 1 ms at 82 C or more, and raises it every 10 ms once below 79 C for 10 ms.
COOLANT is raised after 5 s outside the limits, and again after 5 s within. PDM_SAMPLE converts and records a sample;
THERMAL_MODEL_UPDATE learns from an hour at 0.15 kW. REWAX runs by drift or schedule, REWAX_NOW at once. PLAN_APPLY and
VOLTAGE_STEP move a field to its plan: voltage up, bin, voltage down, fabric clock; with a frame-bound program in the field it
waits for a slot start. HOURS_UPDATE keeps the powered hours. (R463 (18_thermal_and_ageing), R464 (18_thermal_and_ageing), R465
(18_thermal_and_ageing), R466 (18_thermal_and_ageing), R467 (18_thermal_and_ageing), R469 (18_thermal_and_ageing), R471
(18_thermal_and_ageing), R473 (18_thermal_and_ageing), R474 (18_thermal_and_ageing), R475 (18_thermal_and_ageing), R477
(18_thermal_and_ageing), R506 (20_management_and_telemetry)) -/
def Obligations.SensorsCoolingAndAgeingAct : Prop :=
  (∀ (s u : State) (l : List (Sensor × Option Int)), s.pwr.step = .crust ∨ s.pwr.step = .regions ∨ s.pwr.step = .released → u = s.each l (fun t e => t.sampleOne e.1 e.2) →
    (u.trips s (l.map Prod.fst) = none → exec (.sensorSample l) s = .next (u.each (sensorFields (l.map Prod.fst)) State.judgeField)) ∧
    (∀ x t, u.trips s (l.map Prod.fst) = some x → t = u.moduleReset 6 0 (sensorIndex x) false .crust →
      exec (.sensorSample l) s = .next { t with thm := { t.thm with waitCool := true }, mgmt := t.mgmt.record (u.sense x) })) ∧
  (∀ (x : Sense) (now : Nat) (v : Int), 0 ≤ v → v ≤ 16 * 125 →
    x.sample now (some v) = { x with temp := v, time := now, was := (x.temp, x.time), bad := 0, hot := 16 * 100 ≤ v }) ∧
  (∀ (x : Sense) (now : Nat) (v : Int), v < 0 ∨ 16 * 125 < v → x.sample now (some v) =
    { x with temp := v, time := now, was := (x.temp, x.time), bad := x.bad + 1, hot := 16 * 100 ≤ v, failed := x.failed || 10 ≤ x.bad + 1 }) ∧
  (∀ (x : Sense) (now : Nat), x.sample now none = { x with bad := x.bad + 1, failed := x.failed || 10 ≤ x.bad + 1, hot := false }) ∧
  (∀ (m : Mgmt) (x : Sense) (e : ResetEntry) (l : List ResetEntry), m.resets = e :: l →
    m.record x = { m with resets := { e with readings := [x.was, (x.temp, x.time)] } :: l }) ∧
  (∀ (x : FieldSt) (now t : Nat), 12 ≤ x.working.length → x.held350 = false →
    (16 * 92 ≤ x.hottest → (x.judge now).gateSp = true ∧ (x.judge now).spCeil = x.spCeil) ∧
    (x.hottest < 16 * 88 → x.openSince = some t → t + 1000 ≤ now → x.gateSp = true → (x.judge now).gateSp = false ∧ (x.judge now).spCeil = 14)) ∧
  (∀ (x : FieldSt) (now : Nat), x.working.length < 12 → (x.judge now).spCeil = 14 ∧ (x.judge now).held350 = true) ∧
  (∀ (s : State) (fld : FieldIx) (x : FieldSt), s.pwr.step = .released → s.isDark fld.val = false → x = s.field fld.val →
    (16 * 82 ≤ x.hottest → 14 < x.spCeil → x.lowered + 1000 ≤ s.now → exec (.snowploughStep fld) s =
      .next ((s.modGate fld.val (fun x => { x with spCeil := x.spCeil - 1, lowered := s.now })).bump (offSpSteps fld.val) 1)) ∧
    (∀ t, x.hottest < 16 * 79 → x.coolSince = some t → t + 10000 ≤ s.now → x.raised + 10000 ≤ s.now → x.spCeil < 28 → x.held350 = false →
      x.gateSp = false → exec (.snowploughStep fld) s =
        .next (s.modGate fld.val (fun x => { x with spCeil := x.spCeil + 1, raised := s.now })))) ∧
  (∀ (s : State) (i o : Int) (fl : Nat) (t : Thermal), s.pwr.step ≠ .off → s.pwr.step ≠ .standby →
    (16 * 35 < i ∨ fl < 400 → t = { s.thm with inlet := i, outlet := o, flow := fl, outSince := some (s.thm.outSince.getD s.now), inSince := none } →
      (s.thm.alarm = false → s.thm.outSince.getD s.now + 5000000 ≤ s.now → exec (.coolantSample i o fl) s = .next ({ s with
        thm := { t with alarm := true } }.raiseWide 0x0041 ((decide (16 * 35 < i)).toNat + 2 * (decide (fl < 400)).toNat))) ∧
      (s.now < s.thm.outSince.getD s.now + 5000000 → exec (.coolantSample i o fl) s = .next { s with thm := t })) ∧
    (i ≤ 16 * 35 → 400 ≤ fl → t = { s.thm with inlet := i, outlet := o, flow := fl, outSince := none, inSince := some (s.thm.inSince.getD s.now) } →
      s.thm.alarm = true → s.thm.inSince.getD s.now + 5000000 ≤ s.now →
        exec (.coolantSample i o fl) s = .next ({ s with thm := { t with alarm := false } }.raiseWide 0x0041 4))) ∧
  (∀ (s u : State) (x : Site) (m : Bool) (d raw : W16) (i : Nat) (p : Pdm), s.pwr.step = .released → i = Site.idx x → s.isDark (fieldOf i) = false →
    s.siteState i ≠ .retired → d = Config.pdmConvert i m raw (s.field (fieldOf i)).volt
      ((List.range 16).map (fun k => (Tab.get {} (s.field (fieldOf i)).sensor k : Sense).temp)) →
    u = s.modClu i (fun c => if m = true then { c with pdm1 := { c.pdm1 with sample := c.pdm1.sample + 1, delay := d } }
      else { c with pdm0 := { c.pdm0 with sample := c.pdm0.sample + 1, delay := d } }) →
    p = (if m = true then (u.clu i).pdm1 else (u.clu i).pdm0) →
    exec (.pdmSample x m raw) s = .next { u with thm := { u.thm with drift := u.thm.drift || decide (p.ref.toNat + 32 ≤ p.delay.toNat) } }) ∧
  (∀ (s : State) (fld : FieldIx) (w : Nat), s.pwr.step = .released → s.isDark fld.val = false → 150 ≤ w → exec (.thermalModelUpdate fld w) s =
    .next (s.modField fld.val (fun x => { x with rf := Config.thermalLearn fld.val x.rf w }))) ∧
  (∀ (s : State), s.ready = true → (s.thm.drift = true → exec .rewax s = .next (s.rewaxAll 1)) ∧
    (s.thm.drift = false → s.thm.rewaxHours + s.rewaxInterval ≤ s.mgmt.hours.toNat → exec .rewax s = .next (s.rewaxAll 0)) ∧
    (s.thm.drift = false → s.mgmt.hours.toNat < s.thm.rewaxHours + s.rewaxInterval → exec .rewax s = .next s)) ∧
  (∀ (s : State) (f : Func), s.reachesPF f.val = true → s.pwr.mbox.busy = false →
    (s.pwr.arg = 0 → exec (.rewaxNow f) s = .next ((s.rewaxAll 2).mboxSet 3 false 0x0000)) ∧
    (s.pwr.arg ≠ 0 → exec (.rewaxNow f) s = .next (s.mboxSet 3 false 0x0102))) ∧
  (∀ (s : State) (fld : FieldIx), s.pwr.step = .released →
    (s.framed fld.val = [] ∨ (∃ c ∈ s.framed fld.val, s.slotSince c (s.field fld.val).planAt = true) →
      exec (.planApply fld) s = .next (s.beginPlan fld.val)) ∧
    (s.framed fld.val ≠ [] → (∀ c ∈ s.framed fld.val, s.slotSince c (s.field fld.val).planAt = false) → exec (.planApply fld) s = .next s)) ∧
  (∀ (s t : State) (k : Nat), t = s.modField k (fun x => { x with applying := true }) →
    (s.isDark k = true ∨ (s.field k).applying = true ∨ (s.field k).atPlan = true → s.beginPlan k = s) ∧
    (∀ p, s.isDark k = false → (s.field k).applying = false → (s.field k).atPlan = false → (t.field k).plan = some p →
      s.beginPlan k = (if (t.field k).volt < p.volt then t else t.planStep k).endPlan k)) ∧
  (∀ (s : State) (fld : FieldIx), s.pwr.step = .released → s.isDark fld.val = false → (s.field fld.val).applying = true →
    exec (.voltageStep fld) s = .next ((s.planStep fld.val).endPlan fld.val)) ∧
  (∀ (x : FieldSt) (p : Plan), x.plan = some p →
    (x.volt < p.volt → x.towards = { x with volt := min p.volt (x.volt + 5) }) ∧
    (p.volt ≤ x.volt → x.bin ≠ p.bin → x.towards = { x with bin := p.bin }) ∧
    (p.volt < x.volt → x.bin = p.bin → x.cclk ≤ p.bin → x.towards = { x with volt := max p.volt (x.volt - 5) })) ∧
  (∀ (s : State) (h : W32), s.logicOn = true → s.mgmt.hours ≤ h → exec (.hoursUpdate h) s = .next { s with mgmt := { s.mgmt with hours := h } })

/-- STAGE of bytes in the function's pages with sound lines checks the image; one that passes is written to the bank that is not
active and becomes pending, one that fails is reported and rejected with IMAGE_REJECTED. The checks are those of R483 in their
order: header, key slot, counter, body digest, RSA signature, SLH-DSA signature. STAGE outside the pages or of an uncorrectable
line, and CANCEL of a type that is not listed, end with ILLEGAL_DESCRIPTOR; CANCEL clears the pending mark. In recovery,
RESTORE_RPF with counters whose digest equals the LSE's own restores the partition; a RECOVERY_IMAGE that passes and is an LMC
image becomes active bank A, else it is rejected. (R481 (19_security_and_attestation), R482 (19_security_and_attestation), R483
(19_security_and_attestation), R484 (19_security_and_attestation), R485 (19_security_and_attestation), R487
(19_security_and_attestation), R488 (19_security_and_attestation), R489 (19_security_and_attestation), R499
(19_security_and_attestation), R500 (19_security_and_attestation)) -/
def Obligations.ImagesAreCheckedStagedAndRecovered : Prop :=
  (∀ (s u : State) (f : Func) (img : List W8), s.reachesPF f.val = true → s.sec.mbox.busy = false →
    s.owns f.val s.sec.addr.toNat s.sec.len.toNat = true → s.badRead none s.sec.addr.toNat s.sec.len.toNat = [] →
    img = s.devRead none s.sec.addr.toNat s.sec.len.toNat → u = s.demand none s.sec.addr.toNat s.sec.len.toNat false none →
    exec (.stage f) s = .next (if s.imageCause img ≠ 0 then (u.rejectImage 0 (s.imageCause img) (imgType img) img).secDone 1 s.heldType 0x8010
      else (u.modBanks (imgType img) (fun k => if k.active = true then { k with a := some img, pending := some false }
        else { k with b := img, pending := some true })).secDone 1 s.heldType 0x0000)) ∧
  (∀ (s : State) (f : Func) (x : Nat) (l : List Nat), s.reachesPF f.val = true → s.sec.mbox.busy = false →
    s.owns f.val s.sec.addr.toNat s.sec.len.toNat = true → s.badRead none s.sec.addr.toNat s.sec.len.toNat = x :: l → exec (.stage f) s =
      .next (((s.demand none s.sec.addr.toNat s.sec.len.toNat false none).memUEs 2 (x :: l)).secDone 1 s.heldType 0x0102)) ∧
  (∀ (s : State) (f : Func), s.reachesPF f.val = true → s.sec.mbox.busy = false →
    s.owns f.val s.sec.addr.toNat s.sec.len.toNat = false → exec (.stage f) s = .next (s.secDone 1 s.heldType 0x0102)) ∧
  (∀ (s : State) (img : List W8),
    (imgField img 0 4 ≠ 0x57465753 ∨ bodyLimit (imgType img) = 0 → s.imageCause img = 1) ∧
    (imgField img 0 4 = 0x57465753 → bodyLimit (imgType img) ≠ 0 → imgBodyLen img ≤ bodyLimit (imgType img) →
      img.length = 17120 + imgBodyLen img → zeroAt img 6 2 = true → zeroAt img 14 2 = true → zeroAt img 20 12 = true →
      (3 < imgSlot img ∨ s.sec.revoked.getLsbD (imgSlot img) = true → s.imageCause img = 2) ∧
      s.imageCause img =
        (if 3 < imgSlot img ∨ s.sec.revoked.getLsbD (imgSlot img) = true ∨ Config.sha384 (imgKeys img) ≠ Config.slotDigest (imgSlot img) then 2
         else if s.sec.rpfOk = false ∨ imgSvn img < s.svnCounter (imgType img) then 3
         else if BitVec.ofNat 384 (imgField img 32 48) ≠ Config.sha384 (imgBody img) then 4
         else if Config.rsaVerify ((img.drop 128).take 384) (imgSigned img) ((img.drop 512).take 384) = false then 5
         else if Config.slhVerify ((img.drop 80).take 48) (imgSigned img) ((img.drop 896).take 16224) = false then 6
         else 0))) ∧
  (∀ (s : State) (f : Func) (ty : Fin 16), s.reachesPF f.val = true → s.sec.mbox.busy = false →
    (1 ≤ ty.val ∧ ty.val ≤ 3 → exec (.cancel f ty) s = .next ((s.modBanks ty.val (fun k => { k with pending := none })).secDone 2 ty.val 0x0000)) ∧
    (ty.val = 0 ∨ 3 < ty.val → exec (.cancel f ty) s = .next (s.secDone 2 ty.val 0x0102))) ∧
  (∀ (s : State) (a b c : W32) (n : W64) (t : Tab (Option W32)), s.sec.recovery = true → s.mgmt.i3c.isSome = true → s.sec.rpfOk = false →
    t = [(1, some a), (2, some b), (3, some c)] →
    exec (.restoreRpf [a, b, c] n) s = .next (if Config.sha384 (rpfBytes t n) = s.sec.ownDigest then
      { s with sec := { s.sec.writeRpf t n with rpfOk := true, recovery := false } } else s)) ∧
  (∀ (s u : State) (img : List W8) (c : Nat), s.sec.recovery = true → s.mgmt.i3c.isSome = true →
    c = (if s.imageCause img = 0 ∧ imgType img ≠ 1 then 1 else s.imageCause img) →
    u = s.modBanks 1 (fun k => { k with a := some img, active := false, pending := if k.pending = some false then none else k.pending }) →
    exec (.recoveryImage img) s = .next (if c ≠ 0 then s.rejectImage 2 c (imgType img) img else { u with sec := { u.sec with recovery := false } }))

/-- On a connection that is up: GET_VERSION starts afresh with version 1.3; GET_CAPABILITIES needs it and NEGOTIATE_ALGORITHMS needs
both, else the answer is UnexpectedRequest, as for any other request before all three. GET_DIGESTS answers the digest of the chain
of slot 0; GET_CERTIFICATE a portion of it, InvalidRequest for another slot or an offset beyond it; SLHCHAIN the other chain.
CHALLENGE, signed GET_MEASUREMENTS and REPORT start the LSE where it is free; else the requester is told to ask again and the
answer will be held. GET_MEASUREMENTS without a signature answers at once. SIGNING_DONE sends or holds the answer and takes what
is signed next, a record before any request. RESPOND_IF_READY gives what is held. (R490 (19_security_and_attestation), R491
(19_security_and_attestation), R492 (19_security_and_attestation), R493 (19_security_and_attestation), R494
(19_security_and_attestation), R495 (19_security_and_attestation), R496 (19_security_and_attestation), R498
(19_security_and_attestation)) -/
def Obligations.TheLseAnswersAndSigns : Prop :=
  (∀ (s : State) (c : Conn) (k : Nat), s.spdmUp c = true → k = connKey c →
    exec (.getVersion c) s = .next ((s.modSpdm k (fun _ => { version := true })).emit (.spdm k (.version 0x13))) ∧
    ((s.spdm k).version = true → exec (.getCapabilities c) s =
      .next ((s.modSpdm k (fun x => { x with caps := true })).emit (.spdm k (.capabilities true true true)))) ∧
    ((s.spdm k).version = false → exec (.getCapabilities c) s = .next (s.emit (.spdm k .unexpectedRequest))) ∧
    ((s.spdm k).caps = true → exec (.negotiateAlgorithms c) s =
      .next ((s.modSpdm k (fun x => { x with algs := true })).emit (.spdm k (.algorithms true true)))) ∧
    ((s.spdm k).caps = false → exec (.negotiateAlgorithms c) s = .next (s.emit (.spdm k .unexpectedRequest))) ∧
    ((s.spdm k).algs = false → ∀ x, (x = .getDigests c ∨ x = .slhchain c ∨ x = .respondIfReady c ∨ (∃ slot off len, x = .getCertificate c slot off len) ∨
      (∃ slot nonce, x = .challenge c slot nonce) ∨ (∃ op b nonce, x = .getMeasurements c op b nonce) ∨ ∃ nonce, x = .report c nonce) →
      exec x s = .next (s.emit (.spdm k .unexpectedRequest)))) ∧
  (∀ (s : State) (c : Conn) (k : Nat), s.spdmUp c = true → k = connKey c → (s.spdm k).algs = true →
    exec (.getDigests c) s = .next (s.emit (.spdm k (.digests 1 (Config.sha384 Config.rsaChain)))) ∧
    exec (.slhchain c) s = .next (s.emit (.spdm k (.vendor Config.slhChain))) ∧
    (∀ slot off len, exec (.getCertificate c slot off len) s = .next (s.emit (.spdm k (if slot ≠ 0 ∨ Config.rsaChain.length ≤ off.toNat
      then .invalidRequest else .certificate 0 ((Config.rsaChain.drop off.toNat).take (min len.toNat 20472))
        (Config.rsaChain.length - off.toNat - ((Config.rsaChain.drop off.toNat).take (min len.toNat 20472)).length))))) ∧
    (∀ slot nonce, slot ≠ 0 → exec (.challenge c slot nonce) s = .next (s.emit (.spdm k .invalidRequest))) ∧
    (∀ nonce, exec (.challenge c 0 nonce) s = .next (s.askSigned c (.challenge nonce))) ∧
    (∀ op nonce, op.toNat ≤ 8 ∨ op = 0xFF → exec (.getMeasurements c op true nonce) s = .next (s.askSigned c (.measurements op nonce))) ∧
    (∀ op nonce, op.toNat ≤ 8 ∨ op = 0xFF → op ≠ 0 → exec (.getMeasurements c op false nonce) s =
      .next ({ s with free := s.free + 4 }.emit (.spdm k (.measurements (s.blocks op) none)))) ∧
    (∀ nonce, exec (.getMeasurements c 0 false nonce) s =
      .next ({ s with free := s.free + 4 }.emit (.spdm k (.measurementCount 8 none)))) ∧
    (∀ op b nonce, 8 < op.toNat → op ≠ 0xFF → exec (.getMeasurements c op b nonce) s = .next (s.emit (.spdm k .invalidRequest))) ∧
    ((s.spdm k).held = none →
      (∀ r, Signing.answer k r true ∈ s.sec.waiting ∨ s.sec.signing = some (.answer k r true) →
        exec (.respondIfReady c) s = .next (s.emit (.spdm k (.notReady 20 1)))) ∧
      ((∀ r, Signing.answer k r true ∉ s.sec.waiting ∧ s.sec.signing ≠ some (.answer k r true)) →
        exec (.respondIfReady c) s = .next (s.emit (.spdm k .unexpectedRequest)))) ∧
    (∀ nonce, exec (.report c nonce) s = .next (s.askSigned c (.report nonce))) ∧
    (∀ a, (s.spdm k).held = some a → exec (.respondIfReady c) s =
      .next ((s.modSpdm k (fun x => { x with held := none })).emit (.spdm k a)))) ∧
  (∀ (s u : State) (c : Conn) (r : SignReq) (k : Nat), k = connKey c → u = s.modSpdm k (fun x => { x with held := none }) →
    (s.sec.signing = none → s.askSigned c r = { u with sec := { u.sec with signing := some (.answer k r false) } }) ∧
    (∀ x, s.sec.signing = some x → s.askSigned c r =
      ({ u with sec := { u.sec with waiting := u.sec.waiting.filter (Signing.notOf k) ++ [Signing.answer k r true] } }).emit (.spdm k (.notReady 20 1)))) ∧
  (∀ (s : State) (x : Signing), s.sec.signing = some x → exec .signingDone s = .next { s.signed x with sec := (s.signed x).sec.takeNext }) ∧
  (∀ (s : State) (k : Nat) (r : SignReq), s.signed (.answer k r false) = ({ s with free := s.free + 4 }).emit (.spdm k (s.signedAnswer r)) ∧
    s.signed (.answer k r true) = ({ s with free := s.free + 4 }).modSpdm k (fun x => { x with held := some (s.signedAnswer r) })) ∧
  (∀ (s : State) (x : Signing), x.isRecord = true → s.signed x = s) ∧
  (∀ (x : Sec),
    (∀ r, x.waiting.find? Signing.isRecord = some r → x.takeNext = { x with signing := some r, waiting := x.waiting.erase r }) ∧
    (∀ r l, x.waiting = r :: l → (∀ y ∈ x.waiting, y.isRecord = false) → x.takeNext = { x with signing := some r, waiting := l }) ∧
    (x.waiting = [] → x.takeNext = { x with signing := none }))

/-- A command from a source that is heard, with no command in progress, raises MGMT_CMD and has its effect: RESET_COLD and RESET_WARM
a module reset with cause 2 or 3 from the rails that are up, refused while the logic side is off; POWER_ON, refused while it is
on, the wish for it and a power-up with cause 4; SET_AUTO_ON; SET_RESERVE up to 16, kept in the service map, which is signed
again. FULL_RESTART and POWER_OFF take effect while another command is in progress: the standby devices restart; the logic side is
cleared and stays off. Any other command is answered 503, or not ready over MCTP. A command from a source that is not heard has no
effect. I3C_ENTDAA, in recovery too, and MGMT_PORT_LINK record the address and the link. (R345 (12_partitions_and_reset), R417
(16_defects_and_bring_up), R423 (16_defects_and_bring_up), R449 (17_clocks_and_supplies), R452 (17_clocks_and_supplies), R453
(17_clocks_and_supplies), R488 (19_security_and_attestation), R501 (20_management_and_telemetry), R502
(20_management_and_telemetry), R503 (20_management_and_telemetry), R515 (20_management_and_telemetry)) -/
def Obligations.ManagementCommandsAct : Prop :=
  (∀ (s t : State) (src : MgmtSource), s.mgmtHears src = true → s.mgmt.busy = none → s.logicOn = true →
    (t = s.raiseWide 0x0062 (1 + 256 * (overMctp src).toNat) → exec (.resetCold src) s =
      .next ((t.moduleReset 2 0 0 false t.keptStep).setBusy (some 1))) ∧
    (t = s.raiseWide 0x0062 (2 + 256 * (overMctp src).toNat) → exec (.resetWarm src) s =
      .next ((t.moduleReset 3 0 0 true t.keptStep).setBusy (some 2)))) ∧
  (∀ (s t : State) (src : MgmtSource), s.mgmtHears src = true →
    (t = s.raiseWide 0x0062 (3 + 256 * (overMctp src).toNat) → exec (.fullRestart src) s =
      .next (((t.moduleReset 4 0 0 false .standby).standbyRestart).setBusy (some 3))) ∧
    (t = ((s.raiseWide 0x0062 (4 + 256 * (overMctp src).toNat)).clearLogic.toStep .started).setBusy none → exec (.powerOff src) s =
      .next { t with pwr := { t.pwr with wantOn := false, quadOk := 0, quadCv := [] } })) ∧
  (∀ (s t : State) (src : MgmtSource), s.mgmtHears src = true → s.mgmt.busy = none → s.logicOn = false →
    t = ((s.raiseWide 0x0062 (5 + 256 * (overMctp src).toNat)).moduleReset 4 0 0 false .started).setBusy (some 5) →
    exec (.powerOn src) s = .next { t with pwr := { t.pwr with wantOn := true } }) ∧
  (∀ (s t : State) (src : MgmtSource) (on : Bool), s.mgmtHears src = true → s.mgmt.busy = none →
    t = s.raiseWide 0x0062 (6 + 256 * (overMctp src).toNat + 65536 * on.toNat) →
    exec (.setAutoOn src on) s = .next { t with mgmt := { t.mgmt with autoOn := on } }) ∧
  (∀ (s t : State) (src : MgmtSource) (v : W8), s.mgmtHears src = true → s.mgmt.busy = none →
    t = s.raiseWide 0x0062 (7 + 256 * (overMctp src).toNat + 65536 * v.toNat) →
    (v.toNat ≤ 16 → exec (.setReserve src v) s =
      .next ({ t with boot := { t.boot with map := { t.boot.map with reserve := v.toNat } } }.signRecord .serviceMap)) ∧
    (16 < v.toNat → exec (.setReserve src v) s = .next s)) ∧
  (∀ (s : State) (src : MgmtSource) (x : Nat), s.mgmtHears src = true → s.mgmt.busy = some x → ∀ c, c = .resetCold src ∨ c = .resetWarm src ∨
    c = .powerOn src ∨ (∃ b, c = .setAutoOn src b) ∨ (∃ v, c = .setReserve src v) →
    exec c s = .next (s.emit (if overMctp src = true then .mctpNotReady else .http 503))) ∧
  (∀ (s : State) (src : MgmtSource), s.mgmtHears src = true → s.mgmt.busy = none → s.logicOn = false →
    exec (.resetCold src) s = .next s ∧ exec (.resetWarm src) s = .next s) ∧
  (∀ (s : State) (src : MgmtSource), s.mgmtHears src = true → s.mgmt.busy = none → s.logicOn = true → exec (.powerOn src) s = .next s) ∧
  (∀ (s : State) (a : BitVec 7), s.lmcUp = true ∨ (s.pwr.step = .standby ∧ s.sec.recovery = true) →
    exec (.i3cEntdaa a) s = .next { s with mgmt := { s.mgmt with i3c := some a } }) ∧
  (∀ (s : State) (src : MgmtSource), s.mgmtHears src = false → ∀ c, c = .resetCold src ∨ c = .resetWarm src ∨ c = .fullRestart src ∨
    c = .powerOff src ∨ c = .powerOn src ∨ (∃ b, c = .setAutoOn src b) ∨ (∃ v, c = .setReserve src v) → exec c s = .next s) ∧
  (∀ (s : State) (up : Bool), s.lmcUp = true →
    exec (.mgmtPortLink up) s = .next { s with mgmt := { s.mgmt with link := up } })

/-- For every command c and every state s, the step of s with c at the front of its queue is exec of c on s with the rest of the
queue. (How the model takes commands, log entry 1; the commands are those of the spec's chapters.) (00_scope,
11_host_interface_and_rings) -/
def Obligations.StepTakesTheFrontCommand : Prop :=
  ∀ (s : State) (c : Instr) (rest : List Instr), step { s with pending := c :: rest } = exec c { s with pending := rest }

/-- With an empty queue the step advances the uptime count of R505 by one microsecond, and changes nothing else; without the standby
supply it changes nothing. (The model's choice, log entry 2.) (R505 (20_management_and_telemetry)) -/
def Obligations.IdleEngineTicks : Prop :=
  ∀ (s : State), s.pending = [] →
    (s.pwr.step ≠ .off → step s = .next { s with now := s.now + 1 }) ∧ (s.pwr.step = .off → step s = .next s)

/-- At reset no two functions' ring ranges meet and every one lies within the 2^20 rings, some key slot is not revoked, and RESERVE is
at most 16. (R303 (11_host_interface_and_rings), R417 (16_defects_and_bring_up), R484 (19_security_and_attestation)) -/
def Obligations.ResetMeetsTheInvariant : Prop :=
  State.reset.Inv

/-- From every state in which the functions' ring ranges lie apart and within the 2^20 rings, a virtual function's with at most
131,072 rings, some key slot is not revoked, and RESERVE is at most 16, every step that answers a next state gives one for which
the same holds. (R303 (11_host_interface_and_rings), R417 (16_defects_and_bring_up), R484 (19_security_and_attestation)) -/
def Obligations.StepKeepsTheInvariant : Prop :=
  ∀ (s t : State), s.Inv → step s = .next t → t.Inv

/-- For every step that answers a next state: a key slot that was revoked is revoked; and where MEDIA_LOCK or TOW_LOCK was set, it is
set, or the step reset the module: then both locks are clear and every HIF_FUNC entry is back at its reset value. (R26
(01_engine_organisation), R302 (11_host_interface_and_rings), R365 (13_media_ports_and_frame_slots), R394
(14_tow_links_and_parameter_updates), R484 (19_security_and_attestation)) -/
def Obligations.RevocationsAndLocksStay : Prop :=
  ∀ (s t : State), step s = .next t →
    (∀ n, s.sec.revoked.getLsbD n = true → t.sec.revoked.getLsbD n = true) ∧
    (s.media.lock = true → t.media.lock = true ∨ (t.media.lock = false ∧ t.tow.lock = false ∧ ∀ f, t.fent f = {})) ∧
    (s.tow.lock = true → t.tow.lock = true ∨ (t.media.lock = false ∧ t.tow.lock = false ∧ ∀ f, t.fent f = {}))

/-- For every step that answers a next state, the queue is the queue before without its front: no command is added, dropped or
reordered. The uptime stays, rises by a microsecond where the queue was empty, or is 0, as a start or loss of the standby supply
leaves it. (R23 (01_engine_organisation), R449 (17_clocks_and_supplies), R505 (20_management_and_telemetry)) -/
def Obligations.EveryStepTakesOneCommandAndKeepsTheUptime : Prop :=
  ∀ (s t : State), step s = .next t →
    t.pending = s.pending.tail ∧ (t.now = s.now ∨ (s.pending = [] ∧ t.now = s.now + 1) ∨ t.now = 0)

/-- Each event adds its amount to the 48-bit count; where the sum would exceed 2^48 - 1, the count becomes 2^48 - 1 and OVF is set. A
count at 2^48 - 1 stays there whatever amounts are added; writing CLR sets it to 0 with OVF clear; writing 1 to OVF alone clears
OVF and leaves the count. The low word reads count bits [31:0], the high word OVF in bit 31 and count bits [47:32]. (R510) -/
def Obligations.CountersStickUntilCleared : Prop :=
  (∀ (c : Counter) (n : Nat), c.count ≤ 2 ^ 48 - 1 →
    (c.count + n ≤ 2 ^ 48 - 1 → (c.add n).count = c.count + n ∧ (c.add n).ovf = c.ovf) ∧
    (2 ^ 48 - 1 < c.count + n → (c.add n).count = 2 ^ 48 - 1 ∧ (c.add n).ovf = true) ∧
    (c.add n).count ≤ 2 ^ 48 - 1) ∧
  (∀ (c : Counter) (l : List Nat), c.count = 2 ^ 48 - 1 → (l.foldl Counter.add c).count = 2 ^ 48 - 1) ∧
  (∀ (c : Counter) (v : W32), (v.getLsbD 30 = true → (c.write v).count = 0 ∧ (c.write v).ovf = false) ∧
    (v.getLsbD 30 = false → (c.write v).count = c.count ∧ (c.write v).ovf = (c.ovf && !v.getLsbD 31))) ∧
  (∀ (c : Counter), c.count ≤ 2 ^ 48 - 1 → c.low.toNat = c.count % 2 ^ 32 ∧ c.high.toNat % 2 ^ 16 = c.count / 2 ^ 32 ∧
    c.high.toNat / 2 ^ 31 = c.ovf.toNat)

namespace Sys2Proof.Machine

/-- TOW_ACK_TO (R394). -/
abbrev towAckTo : Nat := towBase + 0x0C

end Sys2Proof.Machine

/-- At reset no feed is present, the engine is not ready, PERST# stands at both ports, no cluster is owned, no ring enabled, no page
valid, every counter is 0 and nothing is locked or revoked; INTEG_CTL, PAIR_WAIT, TOW_ACK_TO, PWR_REWAX_CTL, the Tow EtherType,
AUTO_ON, RESERVE, the thermal resistance and the recorded monitor values hold what their rules give. (That the engine starts
without power is the model's choice, log entry 3.) (R140 (05_cluster_and_scratchpad), R345 (12_partitions_and_reset), R383
(14_tow_links_and_parameter_updates), R394 (14_tow_links_and_parameter_updates), R415 (15_result_integrity), R417
(16_defects_and_bring_up), R459 (17_clocks_and_supplies), R473 (18_thermal_and_ageing), R474 (18_thermal_and_ageing), R479
(18_thermal_and_ageing), R484 (19_security_and_attestation), R502 (20_management_and_telemetry)) -/
def Obligations.ResetHoldsWhatTheSpecGives : Prop :=
  State.reset.ready = false ∧ State.reset.pwr.feedA.present = false ∧ State.reset.pwr.feedB.present = false ∧ State.reset.pending = [] ∧
  (∀ h, (State.reset.port h).perst = true) ∧ (∀ i, (State.reset.clu i).owner = none ∧ (State.reset.clu i).pdm0.ref = 0x0400) ∧
  (∀ r, (State.reset.ring r).kind = .disabled) ∧ (∀ p, (State.reset.page p).v = false) ∧ (∀ o, State.reset.ctr o = {}) ∧
  (∀ k, (State.reset.field k).rf = 170 ∧ (State.reset.field k).spCeil = 28) ∧ State.reset.tow.etype = 0x88B5 ∧
  State.reset.tow.lock = false ∧ State.reset.media.lock = false ∧ State.reset.sec.revoked = 0 ∧ State.reset.mgmt.autoOn = true ∧
  State.reset.boot.map.reserve = 8 ∧ State.reset.reg towAckTo = 200 ∧ State.reset.reg offRewaxCtl = 0x051800A8 ∧
  (∀ f < 64, State.reset.pairWait f = 20) ∧ State.reset.guard = 5 ∧ State.reset.retireBin = 24 ∧ State.reset.rewaxInterval = 168

/-- For a memory in canonical form (addresses strictly rising, no byte listed that equals what an unlisted one reads as): after bytes
are written at an address, the k-th byte there reads as written and every byte outside them as before; zeroed bytes read 0 and the
others as before; the form is kept by both; and two memories in the form that read alike everywhere are equal. (An unlisted byte
reads 0: the model's choice, log entry 4.) (R252 (10_memory_system), R270 (10_memory_system)) -/
def Obligations.BytesReadWhatWasWritten : Prop :=
  (∀ (m : Mem) (a : Nat) (bs : List W8), m.wf → (m.write a bs).wf ∧ (∀ k, k < bs.length → (m.write a bs).get (a + k) = bs.getD k 0) ∧
    (∀ b, b < a ∨ a + bs.length ≤ b → (m.write a bs).get b = m.get b)) ∧
  (∀ (m : Mem) (a n : Nat), m.wf → (m.zero a n).wf ∧ ∀ b, (m.zero a n).get b = if a ≤ b ∧ b < a + n then 0 else m.get b) ∧
  (∀ (m n : Mem), m.wf → n.wf → (∀ b, m.get b = n.get b) → m = n)

/-- After a module reset the engine is not ready; clusters keep only their recorded monitor values; rings, device memory, media, Tow,
sites, registers with their latches, and every counter but the counts of region trips are back at reset; the uptime, the host's
memory, the images, anti-rollback counters and revoked slots, the plans and thermal resistances of the fields, powered hours and
AUTO_ON stay; the cause and its time are recorded, and the power-up sequence resumes at the given step. (R26
(01_engine_organisation), R418 (16_defects_and_bring_up), R423 (16_defects_and_bring_up), R453 (17_clocks_and_supplies), R460
(17_clocks_and_supplies), R513 (20_management_and_telemetry), R515 (20_management_and_telemetry)) -/
def Obligations.ModuleResetsKeepTheStandbyState : Prop :=
  ∀ (s t : State) (cause : Nat) (q : BitVec 4) (n : Nat) (w : Bool) (p : PowerStep), t = s.moduleReset cause q n w p →
    t.ready = false ∧ t.mem = {} ∧ t.media = {} ∧ t.tow = {} ∧ t.site = [] ∧ t.regs = [] ∧ t.latch = [] ∧ t.hst.ring = [] ∧ t.hst.func = [] ∧
    t.fab = {} ∧ t.part = [] ∧ (∀ e ∈ t.ctrs, ∃ k < 64, e.1 = offRegionTrips k) ∧
    t.now = s.now ∧ t.hst.mem = s.hst.mem ∧ t.sec.bank = s.sec.bank ∧ t.sec.counter = s.sec.counter ∧ t.sec.revoked = s.sec.revoked ∧
    (∀ k < 64, (t.field k).plan = (s.field k).plan ∧ (t.field k).rf = (s.field k).rf) ∧ t.mgmt.hours = s.mgmt.hours ∧ t.mgmt.autoOn = s.mgmt.autoOn ∧
    t.mgmt.cause = cause ∧ t.mgmt.resetTime = s.now ∧ t.pwr.step = p
end

