-- ==== Sys2Proof/Laws/Tab.lean ====
section
/-! SUPPORT. Sparse tables and byte memories: reading after writing, and the canonical form that every operation keeps. -/
namespace Sys2Proof.Machine

variable {α : Type}

/-! ### Reading after writing -/

theorem Tab.get_del (d : α) (t : Tab α) (i j : Nat) : Tab.get d (Tab.del t i) j = if j = i then d else Tab.get d t j := by
  induction t with
  | nil => simp [Tab.del, Tab.get]
  | cons e t ih =>
    obtain ⟨k, w⟩ := e
    simp only [Tab.del, Tab.get]
    split
    · rw [ih]; grind
    · simp only [Tab.get]; grind

theorem Tab.get_ins (d : α) (t : Tab α) (i j : Nat) (v : α) : Tab.get d (Tab.ins t i v) j = if j = i then v else Tab.get d t j := by
  induction t with
  | nil => simp [Tab.ins, Tab.get]
  | cons e t ih =>
    obtain ⟨k, w⟩ := e
    simp only [Tab.ins, Tab.get]
    split
    · simp only [Tab.get]; grind
    split
    · simp only [Tab.get]
    · simp only [Tab.get]; grind

/-- Reading after writing: the written key gives the written value, every other key what it gave. -/
@[simp] theorem Tab.get_put [DecidableEq α] (d : α) (t : Tab α) (i j : Nat) (v : α) :
    Tab.get d (Tab.put d t i v) j = if j = i then v else Tab.get d t j := by
  unfold Tab.put
  split
  · rename_i h; rw [Tab.get_del, h]
  · exact Tab.get_ins d t i j v

@[simp] theorem Tab.get_nil (d : α) (i : Nat) : Tab.get d [] i = d := rfl

theorem Tab.get_put_self [DecidableEq α] (d : α) (t : Tab α) (i : Nat) (v : α) : Tab.get d (Tab.put d t i v) i = v := by simp

theorem Tab.get_put_ne [DecidableEq α] (d : α) (t : Tab α) {i j : Nat} (v : α) (h : j ≠ i) : Tab.get d (Tab.put d t i v) j = Tab.get d t j := by
  simp [h]

theorem Tab.get_drop (d : α) (p : Nat → Bool) (t : Tab α) (i : Nat) :
    Tab.get d (Tab.drop p t) i = if p i then d else Tab.get d t i := by
  induction t with
  | nil => simp [Tab.drop, Tab.get]
  | cons e t ih =>
    obtain ⟨k, w⟩ := e
    simp only [Tab.drop, List.filter_cons, Tab.get] at *
    by_cases h : p k = true <;> by_cases hi : i = k <;> simp_all [Tab.get]

@[simp] theorem Mem.get_put (m : Mem) (a b : Nat) (v : W8) : Mem.get (Mem.put m a v) b = if b = a then v else Mem.get m b :=
  Tab.get_put 0 m a b v

/-- A write leaves every byte outside it as it was. -/
theorem Mem.get_write_out (m : Mem) (a b : Nat) (bs : List W8) (h : b < a ∨ a + bs.length ≤ b) :
    Mem.get (Mem.write m a bs) b = Mem.get m b := by
  induction bs generalizing m a with
  | nil => rfl
  | cons x bs ih =>
    simp only [List.length_cons] at h
    rw [Mem.write, ih _ _ (by omega), Mem.get_put, if_neg (by omega)]

/-- A write's bytes read back in their order. -/
theorem Mem.get_write_in (m : Mem) (a i : Nat) (bs : List W8) (h : i < bs.length) :
    Mem.get (Mem.write m a bs) (a + i) = bs[i] := by
  induction bs generalizing m a i with
  | nil => simp at h
  | cons x bs ih =>
    cases i with
    | zero => rw [Mem.write, Mem.get_write_out _ _ _ _ (by omega)]; simp
    | succ i =>
      simp only [List.length_cons] at h
      have := ih (Mem.put m a x) (a + 1) i (by omega)
      rw [Mem.write, ← Nat.add_assoc, Nat.add_right_comm, this]; rfl

theorem Mem.get_zero (m : Mem) (a n b : Nat) : Mem.get (Mem.zero m a n) b = if a ≤ b ∧ b < a + n then 0 else Mem.get m b := by
  unfold Mem.get Mem.zero
  rw [Tab.get_drop]; simp

@[simp] theorem Mem.length_read (m : Mem) (a n : Nat) : (Mem.read m a n).length = n := by
  induction n generalizing a with
  | zero => rfl
  | succ n ih => rw [Mem.read, List.length_cons, ih]

theorem Mem.read_write_out (m : Mem) (a b n : Nat) (bs : List W8) (h : b + n ≤ a ∨ a + bs.length ≤ b) :
    Mem.read (Mem.write m a bs) b n = Mem.read m b n := by
  induction n generalizing b with
  | zero => rfl
  | succ n ih => rw [Mem.read, Mem.read, ih _ (by omega), Mem.get_write_out _ _ _ _ (by omega)]

@[simp] theorem leBytes_length (n v : Nat) : (leBytes n v).length = n := by
  induction n generalizing v with
  | zero => rfl
  | succ n ih => rw [leBytes, List.length_cons, ih]

/-! ### The canonical form -/

theorem Tab.keys_del (t : Tab α) (i : Nat) {P : Nat × α → Prop} (h : ∀ e ∈ t, P e) : ∀ e ∈ Tab.del t i, P e := by
  induction t with
  | nil => exact h
  | cons e t ih =>
    simp only [List.mem_cons, forall_eq_or_imp] at h
    simp only [Tab.del]
    split
    · exact ih h.2
    · simp only [List.mem_cons, forall_eq_or_imp]; exact ⟨h.1, ih h.2⟩

theorem Tab.keys_ins (t : Tab α) (i : Nat) (v : α) {P : Nat × α → Prop} (hv : P (i, v)) (h : ∀ e ∈ t, P e) :
    ∀ e ∈ Tab.ins t i v, P e := by
  induction t with
  | nil => simpa [Tab.ins] using hv
  | cons e t ih =>
    simp only [List.mem_cons, forall_eq_or_imp] at h
    simp only [Tab.ins]
    split
    · simp only [List.mem_cons, forall_eq_or_imp]; exact ⟨hv, h.2⟩
    split
    · simp only [List.mem_cons, forall_eq_or_imp]; exact ⟨hv, h.1, h.2⟩
    · simp only [List.mem_cons, forall_eq_or_imp]; exact ⟨h.1, ih h.2⟩

theorem Tab.rising_del (t : Tab α) (i : Nat) (h : t.Pairwise (fun a b => a.1 < b.1)) :
    (Tab.del t i).Pairwise (fun a b => a.1 < b.1) := by
  induction t with
  | nil => exact h
  | cons e t ih =>
    rw [List.pairwise_cons] at h
    simp only [Tab.del]
    split
    · exact ih h.2
    · exact List.pairwise_cons.2 ⟨Tab.keys_del t i h.1, ih h.2⟩

theorem Tab.rising_ins (t : Tab α) (i : Nat) (v : α) (h : t.Pairwise (fun a b => a.1 < b.1)) :
    (Tab.ins t i v).Pairwise (fun a b => a.1 < b.1) := by
  induction t with
  | nil => simp [Tab.ins]
  | cons e t ih =>
    obtain ⟨k, w⟩ := e
    rw [List.pairwise_cons] at h
    simp only [Tab.ins]
    split
    · rename_i hk
      exact List.pairwise_cons.2 ⟨fun x hx => hk ▸ h.1 x hx, h.2⟩
    split
    · rename_i hk
      refine List.pairwise_cons.2 ⟨?_, List.pairwise_cons.2 h⟩
      simp only [List.mem_cons, forall_eq_or_imp]
      exact ⟨hk, fun x hx => Nat.lt_trans hk (h.1 x hx)⟩
    · exact List.pairwise_cons.2 ⟨Tab.keys_ins t i v (P := fun x => k < x.1) (by show k < i; omega) h.1, ih h.2⟩

theorem Tab.wf_del (d : α) (t : Tab α) (i : Nat) (h : Tab.wf d t) : Tab.wf d (Tab.del t i) :=
  ⟨Tab.rising_del t i h.1, Tab.keys_del t i h.2⟩

theorem Tab.wf_ins (d : α) (t : Tab α) (i : Nat) (v : α) (hv : v ≠ d) (h : Tab.wf d t) : Tab.wf d (Tab.ins t i v) :=
  ⟨Tab.rising_ins t i v h.1, Tab.keys_ins t i v (P := fun x => x.2 ≠ d) hv h.2⟩

/-- Writing keeps the canonical form of a table. -/
theorem Tab.wf_put [DecidableEq α] (d : α) (t : Tab α) (i : Nat) (v : α) (h : Tab.wf d t) : Tab.wf d (Tab.put d t i v) := by
  unfold Tab.put
  split
  · exact Tab.wf_del d t i h
  · rename_i hv; exact Tab.wf_ins d t i v hv h

theorem Tab.wf_drop (d : α) (p : Nat → Bool) (t : Tab α) (h : Tab.wf d t) : Tab.wf d (Tab.drop p t) :=
  ⟨h.1.filter _, fun e he => h.2 e (List.mem_filter.1 he).1⟩

/-- Every operation of a byte memory keeps its canonical form. -/
theorem Mem.wf_put (m : Mem) (a : Nat) (v : W8) (h : Mem.wf m) : Mem.wf (Mem.put m a v) := Tab.wf_put 0 m a v h

theorem Mem.wf_write (m : Mem) (a : Nat) (bs : List W8) (h : Mem.wf m) : Mem.wf (Mem.write m a bs) := by
  induction bs generalizing m a with
  | nil => exact h
  | cons b bs ih => exact ih _ _ (Mem.wf_put m a b h)

theorem Mem.wf_zero (m : Mem) (a n : Nat) (h : Mem.wf m) : Mem.wf (Mem.zero m a n) := Tab.wf_drop _ _ m h

/-- The memories of the reset state are canonical: the host's, and device memory with its moved pages. -/
theorem reset_mem_wf : Mem.wf State.reset.hst.mem ∧ Mem.wf State.reset.mem.bytes ∧ Mem.wf State.reset.mem.slot1 :=
  have h : Mem.wf [] := ⟨List.Pairwise.nil, fun e he => nomatch he⟩
  ⟨h, h, h⟩

end Sys2Proof.Machine
end

