-- ==== Sys2Proof/Laws/State.lean ====
section
/-! SUPPORT. What each update of one part of the state leaves unchanged, and what the part reads as afterwards. -/
namespace Sys2Proof.Machine

section modClu
variable (s : State) (i : Nat) (f : Cluster → Cluster)
@[simp] theorem modClu_pending : (s.modClu i f).pending = s.pending := rfl
@[simp] theorem modClu_now : (s.modClu i f).now = s.now := rfl
@[simp] theorem modClu_free : (s.modClu i f).free = s.free := rfl
@[simp] theorem modClu_site : (s.modClu i f).site = s.site := rfl
@[simp] theorem modClu_ready : (s.modClu i f).ready = s.ready := rfl
@[simp] theorem modClu_fab : (s.modClu i f).fab = s.fab := rfl
@[simp] theorem modClu_mem : (s.modClu i f).mem = s.mem := rfl
@[simp] theorem modClu_hst : (s.modClu i f).hst = s.hst := rfl
@[simp] theorem modClu_part : (s.modClu i f).part = s.part := rfl
@[simp] theorem modClu_media : (s.modClu i f).media = s.media := rfl
@[simp] theorem modClu_tow : (s.modClu i f).tow = s.tow := rfl
@[simp] theorem modClu_integ : (s.modClu i f).integ = s.integ := rfl
@[simp] theorem modClu_fld : (s.modClu i f).fld = s.fld := rfl
@[simp] theorem modClu_pwr : (s.modClu i f).pwr = s.pwr := rfl
@[simp] theorem modClu_thm : (s.modClu i f).thm = s.thm := rfl
@[simp] theorem modClu_boot : (s.modClu i f).boot = s.boot := rfl
@[simp] theorem modClu_sec : (s.modClu i f).sec = s.sec := rfl
@[simp] theorem modClu_mgmt : (s.modClu i f).mgmt = s.mgmt := rfl
@[simp] theorem modClu_regs : (s.modClu i f).regs = s.regs := rfl
@[simp] theorem modClu_ctrs : (s.modClu i f).ctrs = s.ctrs := rfl
@[simp] theorem modClu_latch : (s.modClu i f).latch = s.latch := rfl
@[simp] theorem modClu_evlog : (s.modClu i f).evlog = s.evlog := rfl
@[simp] theorem modClu_subs : (s.modClu i f).subs = s.subs := rfl
@[simp] theorem modClu_out : (s.modClu i f).out = s.out := rfl
end modClu

section modCore
variable (s : State) (r : CoreRef) (f : Core → Core)
@[simp] theorem modCore_pending : (s.modCore r f).pending = s.pending := rfl
@[simp] theorem modCore_now : (s.modCore r f).now = s.now := rfl
@[simp] theorem modCore_free : (s.modCore r f).free = s.free := rfl
@[simp] theorem modCore_site : (s.modCore r f).site = s.site := rfl
@[simp] theorem modCore_ready : (s.modCore r f).ready = s.ready := rfl
@[simp] theorem modCore_fab : (s.modCore r f).fab = s.fab := rfl
@[simp] theorem modCore_mem : (s.modCore r f).mem = s.mem := rfl
@[simp] theorem modCore_hst : (s.modCore r f).hst = s.hst := rfl
@[simp] theorem modCore_part : (s.modCore r f).part = s.part := rfl
@[simp] theorem modCore_media : (s.modCore r f).media = s.media := rfl
@[simp] theorem modCore_tow : (s.modCore r f).tow = s.tow := rfl
@[simp] theorem modCore_integ : (s.modCore r f).integ = s.integ := rfl
@[simp] theorem modCore_fld : (s.modCore r f).fld = s.fld := rfl
@[simp] theorem modCore_pwr : (s.modCore r f).pwr = s.pwr := rfl
@[simp] theorem modCore_thm : (s.modCore r f).thm = s.thm := rfl
@[simp] theorem modCore_boot : (s.modCore r f).boot = s.boot := rfl
@[simp] theorem modCore_sec : (s.modCore r f).sec = s.sec := rfl
@[simp] theorem modCore_mgmt : (s.modCore r f).mgmt = s.mgmt := rfl
@[simp] theorem modCore_regs : (s.modCore r f).regs = s.regs := rfl
@[simp] theorem modCore_ctrs : (s.modCore r f).ctrs = s.ctrs := rfl
@[simp] theorem modCore_latch : (s.modCore r f).latch = s.latch := rfl
@[simp] theorem modCore_evlog : (s.modCore r f).evlog = s.evlog := rfl
@[simp] theorem modCore_subs : (s.modCore r f).subs = s.subs := rfl
@[simp] theorem modCore_out : (s.modCore r f).out = s.out := rfl
end modCore

section modPart
variable (s : State) (f : Nat) (g : Part → Part)
@[simp] theorem modPart_pending : (s.modPart f g).pending = s.pending := rfl
@[simp] theorem modPart_now : (s.modPart f g).now = s.now := rfl
@[simp] theorem modPart_free : (s.modPart f g).free = s.free := rfl
@[simp] theorem modPart_cl : (s.modPart f g).cl = s.cl := rfl
@[simp] theorem modPart_site : (s.modPart f g).site = s.site := rfl
@[simp] theorem modPart_ready : (s.modPart f g).ready = s.ready := rfl
@[simp] theorem modPart_fab : (s.modPart f g).fab = s.fab := rfl
@[simp] theorem modPart_mem : (s.modPart f g).mem = s.mem := rfl
@[simp] theorem modPart_hst : (s.modPart f g).hst = s.hst := rfl
@[simp] theorem modPart_media : (s.modPart f g).media = s.media := rfl
@[simp] theorem modPart_tow : (s.modPart f g).tow = s.tow := rfl
@[simp] theorem modPart_integ : (s.modPart f g).integ = s.integ := rfl
@[simp] theorem modPart_fld : (s.modPart f g).fld = s.fld := rfl
@[simp] theorem modPart_pwr : (s.modPart f g).pwr = s.pwr := rfl
@[simp] theorem modPart_thm : (s.modPart f g).thm = s.thm := rfl
@[simp] theorem modPart_boot : (s.modPart f g).boot = s.boot := rfl
@[simp] theorem modPart_sec : (s.modPart f g).sec = s.sec := rfl
@[simp] theorem modPart_mgmt : (s.modPart f g).mgmt = s.mgmt := rfl
@[simp] theorem modPart_regs : (s.modPart f g).regs = s.regs := rfl
@[simp] theorem modPart_ctrs : (s.modPart f g).ctrs = s.ctrs := rfl
@[simp] theorem modPart_latch : (s.modPart f g).latch = s.latch := rfl
@[simp] theorem modPart_evlog : (s.modPart f g).evlog = s.evlog := rfl
@[simp] theorem modPart_subs : (s.modPart f g).subs = s.subs := rfl
@[simp] theorem modPart_out : (s.modPart f g).out = s.out := rfl
end modPart

section modCfg
variable (s : State) (f c : Nat) (g : Cfg → Cfg)
@[simp] theorem modCfg_pending : (s.modCfg f c g).pending = s.pending := rfl
@[simp] theorem modCfg_now : (s.modCfg f c g).now = s.now := rfl
@[simp] theorem modCfg_free : (s.modCfg f c g).free = s.free := rfl
@[simp] theorem modCfg_cl : (s.modCfg f c g).cl = s.cl := rfl
@[simp] theorem modCfg_site : (s.modCfg f c g).site = s.site := rfl
@[simp] theorem modCfg_ready : (s.modCfg f c g).ready = s.ready := rfl
@[simp] theorem modCfg_fab : (s.modCfg f c g).fab = s.fab := rfl
@[simp] theorem modCfg_mem : (s.modCfg f c g).mem = s.mem := rfl
@[simp] theorem modCfg_hst : (s.modCfg f c g).hst = s.hst := rfl
@[simp] theorem modCfg_media : (s.modCfg f c g).media = s.media := rfl
@[simp] theorem modCfg_tow : (s.modCfg f c g).tow = s.tow := rfl
@[simp] theorem modCfg_integ : (s.modCfg f c g).integ = s.integ := rfl
@[simp] theorem modCfg_fld : (s.modCfg f c g).fld = s.fld := rfl
@[simp] theorem modCfg_pwr : (s.modCfg f c g).pwr = s.pwr := rfl
@[simp] theorem modCfg_thm : (s.modCfg f c g).thm = s.thm := rfl
@[simp] theorem modCfg_boot : (s.modCfg f c g).boot = s.boot := rfl
@[simp] theorem modCfg_sec : (s.modCfg f c g).sec = s.sec := rfl
@[simp] theorem modCfg_mgmt : (s.modCfg f c g).mgmt = s.mgmt := rfl
@[simp] theorem modCfg_regs : (s.modCfg f c g).regs = s.regs := rfl
@[simp] theorem modCfg_ctrs : (s.modCfg f c g).ctrs = s.ctrs := rfl
@[simp] theorem modCfg_latch : (s.modCfg f c g).latch = s.latch := rfl
@[simp] theorem modCfg_evlog : (s.modCfg f c g).evlog = s.evlog := rfl
@[simp] theorem modCfg_subs : (s.modCfg f c g).subs = s.subs := rfl
@[simp] theorem modCfg_out : (s.modCfg f c g).out = s.out := rfl
end modCfg

section modRing
variable (s : State) (r : Nat) (g : Ring → Ring)
@[simp] theorem modRing_pending : (s.modRing r g).pending = s.pending := rfl
@[simp] theorem modRing_now : (s.modRing r g).now = s.now := rfl
@[simp] theorem modRing_free : (s.modRing r g).free = s.free := rfl
@[simp] theorem modRing_cl : (s.modRing r g).cl = s.cl := rfl
@[simp] theorem modRing_site : (s.modRing r g).site = s.site := rfl
@[simp] theorem modRing_ready : (s.modRing r g).ready = s.ready := rfl
@[simp] theorem modRing_fab : (s.modRing r g).fab = s.fab := rfl
@[simp] theorem modRing_mem : (s.modRing r g).mem = s.mem := rfl
@[simp] theorem modRing_part : (s.modRing r g).part = s.part := rfl
@[simp] theorem modRing_media : (s.modRing r g).media = s.media := rfl
@[simp] theorem modRing_tow : (s.modRing r g).tow = s.tow := rfl
@[simp] theorem modRing_integ : (s.modRing r g).integ = s.integ := rfl
@[simp] theorem modRing_fld : (s.modRing r g).fld = s.fld := rfl
@[simp] theorem modRing_pwr : (s.modRing r g).pwr = s.pwr := rfl
@[simp] theorem modRing_thm : (s.modRing r g).thm = s.thm := rfl
@[simp] theorem modRing_boot : (s.modRing r g).boot = s.boot := rfl
@[simp] theorem modRing_sec : (s.modRing r g).sec = s.sec := rfl
@[simp] theorem modRing_mgmt : (s.modRing r g).mgmt = s.mgmt := rfl
@[simp] theorem modRing_regs : (s.modRing r g).regs = s.regs := rfl
@[simp] theorem modRing_ctrs : (s.modRing r g).ctrs = s.ctrs := rfl
@[simp] theorem modRing_latch : (s.modRing r g).latch = s.latch := rfl
@[simp] theorem modRing_evlog : (s.modRing r g).evlog = s.evlog := rfl
@[simp] theorem modRing_subs : (s.modRing r g).subs = s.subs := rfl
@[simp] theorem modRing_out : (s.modRing r g).out = s.out := rfl
end modRing

section modFent
variable (s : State) (f : Nat) (g : FuncEntry → FuncEntry)
@[simp] theorem modFent_pending : (s.modFent f g).pending = s.pending := rfl
@[simp] theorem modFent_now : (s.modFent f g).now = s.now := rfl
@[simp] theorem modFent_free : (s.modFent f g).free = s.free := rfl
@[simp] theorem modFent_cl : (s.modFent f g).cl = s.cl := rfl
@[simp] theorem modFent_site : (s.modFent f g).site = s.site := rfl
@[simp] theorem modFent_ready : (s.modFent f g).ready = s.ready := rfl
@[simp] theorem modFent_fab : (s.modFent f g).fab = s.fab := rfl
@[simp] theorem modFent_mem : (s.modFent f g).mem = s.mem := rfl
@[simp] theorem modFent_part : (s.modFent f g).part = s.part := rfl
@[simp] theorem modFent_media : (s.modFent f g).media = s.media := rfl
@[simp] theorem modFent_tow : (s.modFent f g).tow = s.tow := rfl
@[simp] theorem modFent_integ : (s.modFent f g).integ = s.integ := rfl
@[simp] theorem modFent_fld : (s.modFent f g).fld = s.fld := rfl
@[simp] theorem modFent_pwr : (s.modFent f g).pwr = s.pwr := rfl
@[simp] theorem modFent_thm : (s.modFent f g).thm = s.thm := rfl
@[simp] theorem modFent_boot : (s.modFent f g).boot = s.boot := rfl
@[simp] theorem modFent_sec : (s.modFent f g).sec = s.sec := rfl
@[simp] theorem modFent_mgmt : (s.modFent f g).mgmt = s.mgmt := rfl
@[simp] theorem modFent_regs : (s.modFent f g).regs = s.regs := rfl
@[simp] theorem modFent_ctrs : (s.modFent f g).ctrs = s.ctrs := rfl
@[simp] theorem modFent_latch : (s.modFent f g).latch = s.latch := rfl
@[simp] theorem modFent_evlog : (s.modFent f g).evlog = s.evlog := rfl
@[simp] theorem modFent_subs : (s.modFent f g).subs = s.subs := rfl
@[simp] theorem modFent_out : (s.modFent f g).out = s.out := rfl
end modFent

section modPort
variable (s : State) (h : Nat) (g : Port → Port)
@[simp] theorem modPort_pending : (s.modPort h g).pending = s.pending := rfl
@[simp] theorem modPort_now : (s.modPort h g).now = s.now := rfl
@[simp] theorem modPort_free : (s.modPort h g).free = s.free := rfl
@[simp] theorem modPort_cl : (s.modPort h g).cl = s.cl := rfl
@[simp] theorem modPort_site : (s.modPort h g).site = s.site := rfl
@[simp] theorem modPort_ready : (s.modPort h g).ready = s.ready := rfl
@[simp] theorem modPort_fab : (s.modPort h g).fab = s.fab := rfl
@[simp] theorem modPort_mem : (s.modPort h g).mem = s.mem := rfl
@[simp] theorem modPort_part : (s.modPort h g).part = s.part := rfl
@[simp] theorem modPort_media : (s.modPort h g).media = s.media := rfl
@[simp] theorem modPort_tow : (s.modPort h g).tow = s.tow := rfl
@[simp] theorem modPort_integ : (s.modPort h g).integ = s.integ := rfl
@[simp] theorem modPort_fld : (s.modPort h g).fld = s.fld := rfl
@[simp] theorem modPort_pwr : (s.modPort h g).pwr = s.pwr := rfl
@[simp] theorem modPort_thm : (s.modPort h g).thm = s.thm := rfl
@[simp] theorem modPort_boot : (s.modPort h g).boot = s.boot := rfl
@[simp] theorem modPort_sec : (s.modPort h g).sec = s.sec := rfl
@[simp] theorem modPort_mgmt : (s.modPort h g).mgmt = s.mgmt := rfl
@[simp] theorem modPort_regs : (s.modPort h g).regs = s.regs := rfl
@[simp] theorem modPort_ctrs : (s.modPort h g).ctrs = s.ctrs := rfl
@[simp] theorem modPort_latch : (s.modPort h g).latch = s.latch := rfl
@[simp] theorem modPort_evlog : (s.modPort h g).evlog = s.evlog := rfl
@[simp] theorem modPort_subs : (s.modPort h g).subs = s.subs := rfl
@[simp] theorem modPort_out : (s.modPort h g).out = s.out := rfl
end modPort

section modRwin
variable (s : State) (f : Nat) (g : RingWin → RingWin)
@[simp] theorem modRwin_pending : (s.modRwin f g).pending = s.pending := rfl
@[simp] theorem modRwin_now : (s.modRwin f g).now = s.now := rfl
@[simp] theorem modRwin_free : (s.modRwin f g).free = s.free := rfl
@[simp] theorem modRwin_cl : (s.modRwin f g).cl = s.cl := rfl
@[simp] theorem modRwin_site : (s.modRwin f g).site = s.site := rfl
@[simp] theorem modRwin_ready : (s.modRwin f g).ready = s.ready := rfl
@[simp] theorem modRwin_fab : (s.modRwin f g).fab = s.fab := rfl
@[simp] theorem modRwin_mem : (s.modRwin f g).mem = s.mem := rfl
@[simp] theorem modRwin_part : (s.modRwin f g).part = s.part := rfl
@[simp] theorem modRwin_media : (s.modRwin f g).media = s.media := rfl
@[simp] theorem modRwin_tow : (s.modRwin f g).tow = s.tow := rfl
@[simp] theorem modRwin_integ : (s.modRwin f g).integ = s.integ := rfl
@[simp] theorem modRwin_fld : (s.modRwin f g).fld = s.fld := rfl
@[simp] theorem modRwin_pwr : (s.modRwin f g).pwr = s.pwr := rfl
@[simp] theorem modRwin_thm : (s.modRwin f g).thm = s.thm := rfl
@[simp] theorem modRwin_boot : (s.modRwin f g).boot = s.boot := rfl
@[simp] theorem modRwin_sec : (s.modRwin f g).sec = s.sec := rfl
@[simp] theorem modRwin_mgmt : (s.modRwin f g).mgmt = s.mgmt := rfl
@[simp] theorem modRwin_regs : (s.modRwin f g).regs = s.regs := rfl
@[simp] theorem modRwin_ctrs : (s.modRwin f g).ctrs = s.ctrs := rfl
@[simp] theorem modRwin_latch : (s.modRwin f g).latch = s.latch := rfl
@[simp] theorem modRwin_evlog : (s.modRwin f g).evlog = s.evlog := rfl
@[simp] theorem modRwin_subs : (s.modRwin f g).subs = s.subs := rfl
@[simp] theorem modRwin_out : (s.modRwin f g).out = s.out := rfl
end modRwin

section modDescs
variable (s : State) (g : List Desc → List Desc)
@[simp] theorem modDescs_pending : (s.modDescs g).pending = s.pending := rfl
@[simp] theorem modDescs_now : (s.modDescs g).now = s.now := rfl
@[simp] theorem modDescs_free : (s.modDescs g).free = s.free := rfl
@[simp] theorem modDescs_cl : (s.modDescs g).cl = s.cl := rfl
@[simp] theorem modDescs_site : (s.modDescs g).site = s.site := rfl
@[simp] theorem modDescs_ready : (s.modDescs g).ready = s.ready := rfl
@[simp] theorem modDescs_fab : (s.modDescs g).fab = s.fab := rfl
@[simp] theorem modDescs_mem : (s.modDescs g).mem = s.mem := rfl
@[simp] theorem modDescs_part : (s.modDescs g).part = s.part := rfl
@[simp] theorem modDescs_media : (s.modDescs g).media = s.media := rfl
@[simp] theorem modDescs_tow : (s.modDescs g).tow = s.tow := rfl
@[simp] theorem modDescs_integ : (s.modDescs g).integ = s.integ := rfl
@[simp] theorem modDescs_fld : (s.modDescs g).fld = s.fld := rfl
@[simp] theorem modDescs_pwr : (s.modDescs g).pwr = s.pwr := rfl
@[simp] theorem modDescs_thm : (s.modDescs g).thm = s.thm := rfl
@[simp] theorem modDescs_boot : (s.modDescs g).boot = s.boot := rfl
@[simp] theorem modDescs_sec : (s.modDescs g).sec = s.sec := rfl
@[simp] theorem modDescs_mgmt : (s.modDescs g).mgmt = s.mgmt := rfl
@[simp] theorem modDescs_regs : (s.modDescs g).regs = s.regs := rfl
@[simp] theorem modDescs_ctrs : (s.modDescs g).ctrs = s.ctrs := rfl
@[simp] theorem modDescs_latch : (s.modDescs g).latch = s.latch := rfl
@[simp] theorem modDescs_evlog : (s.modDescs g).evlog = s.evlog := rfl
@[simp] theorem modDescs_subs : (s.modDescs g).subs = s.subs := rfl
@[simp] theorem modDescs_out : (s.modDescs g).out = s.out := rfl
end modDescs

section modPage
variable (s : State) (p : Nat) (g : Page → Page)
@[simp] theorem modPage_pending : (s.modPage p g).pending = s.pending := rfl
@[simp] theorem modPage_now : (s.modPage p g).now = s.now := rfl
@[simp] theorem modPage_free : (s.modPage p g).free = s.free := rfl
@[simp] theorem modPage_cl : (s.modPage p g).cl = s.cl := rfl
@[simp] theorem modPage_site : (s.modPage p g).site = s.site := rfl
@[simp] theorem modPage_ready : (s.modPage p g).ready = s.ready := rfl
@[simp] theorem modPage_fab : (s.modPage p g).fab = s.fab := rfl
@[simp] theorem modPage_hst : (s.modPage p g).hst = s.hst := rfl
@[simp] theorem modPage_part : (s.modPage p g).part = s.part := rfl
@[simp] theorem modPage_media : (s.modPage p g).media = s.media := rfl
@[simp] theorem modPage_tow : (s.modPage p g).tow = s.tow := rfl
@[simp] theorem modPage_integ : (s.modPage p g).integ = s.integ := rfl
@[simp] theorem modPage_fld : (s.modPage p g).fld = s.fld := rfl
@[simp] theorem modPage_pwr : (s.modPage p g).pwr = s.pwr := rfl
@[simp] theorem modPage_thm : (s.modPage p g).thm = s.thm := rfl
@[simp] theorem modPage_boot : (s.modPage p g).boot = s.boot := rfl
@[simp] theorem modPage_sec : (s.modPage p g).sec = s.sec := rfl
@[simp] theorem modPage_mgmt : (s.modPage p g).mgmt = s.mgmt := rfl
@[simp] theorem modPage_regs : (s.modPage p g).regs = s.regs := rfl
@[simp] theorem modPage_ctrs : (s.modPage p g).ctrs = s.ctrs := rfl
@[simp] theorem modPage_latch : (s.modPage p g).latch = s.latch := rfl
@[simp] theorem modPage_evlog : (s.modPage p g).evlog = s.evlog := rfl
@[simp] theorem modPage_subs : (s.modPage p g).subs = s.subs := rfl
@[simp] theorem modPage_out : (s.modPage p g).out = s.out := rfl
end modPage

section modGroup
variable (s : State) (v : Nat) (g : Group → Group)
@[simp] theorem modGroup_pending : (s.modGroup v g).pending = s.pending := rfl
@[simp] theorem modGroup_now : (s.modGroup v g).now = s.now := rfl
@[simp] theorem modGroup_free : (s.modGroup v g).free = s.free := rfl
@[simp] theorem modGroup_cl : (s.modGroup v g).cl = s.cl := rfl
@[simp] theorem modGroup_site : (s.modGroup v g).site = s.site := rfl
@[simp] theorem modGroup_ready : (s.modGroup v g).ready = s.ready := rfl
@[simp] theorem modGroup_fab : (s.modGroup v g).fab = s.fab := rfl
@[simp] theorem modGroup_hst : (s.modGroup v g).hst = s.hst := rfl
@[simp] theorem modGroup_part : (s.modGroup v g).part = s.part := rfl
@[simp] theorem modGroup_media : (s.modGroup v g).media = s.media := rfl
@[simp] theorem modGroup_tow : (s.modGroup v g).tow = s.tow := rfl
@[simp] theorem modGroup_integ : (s.modGroup v g).integ = s.integ := rfl
@[simp] theorem modGroup_fld : (s.modGroup v g).fld = s.fld := rfl
@[simp] theorem modGroup_pwr : (s.modGroup v g).pwr = s.pwr := rfl
@[simp] theorem modGroup_thm : (s.modGroup v g).thm = s.thm := rfl
@[simp] theorem modGroup_boot : (s.modGroup v g).boot = s.boot := rfl
@[simp] theorem modGroup_sec : (s.modGroup v g).sec = s.sec := rfl
@[simp] theorem modGroup_mgmt : (s.modGroup v g).mgmt = s.mgmt := rfl
@[simp] theorem modGroup_regs : (s.modGroup v g).regs = s.regs := rfl
@[simp] theorem modGroup_ctrs : (s.modGroup v g).ctrs = s.ctrs := rfl
@[simp] theorem modGroup_latch : (s.modGroup v g).latch = s.latch := rfl
@[simp] theorem modGroup_evlog : (s.modGroup v g).evlog = s.evlog := rfl
@[simp] theorem modGroup_subs : (s.modGroup v g).subs = s.subs := rfl
@[simp] theorem modGroup_out : (s.modGroup v g).out = s.out := rfl
end modGroup

section modCtl
variable (s : State) (n : Nat) (g : Ctl → Ctl)
@[simp] theorem modCtl_pending : (s.modCtl n g).pending = s.pending := rfl
@[simp] theorem modCtl_now : (s.modCtl n g).now = s.now := rfl
@[simp] theorem modCtl_free : (s.modCtl n g).free = s.free := rfl
@[simp] theorem modCtl_cl : (s.modCtl n g).cl = s.cl := rfl
@[simp] theorem modCtl_site : (s.modCtl n g).site = s.site := rfl
@[simp] theorem modCtl_ready : (s.modCtl n g).ready = s.ready := rfl
@[simp] theorem modCtl_fab : (s.modCtl n g).fab = s.fab := rfl
@[simp] theorem modCtl_hst : (s.modCtl n g).hst = s.hst := rfl
@[simp] theorem modCtl_part : (s.modCtl n g).part = s.part := rfl
@[simp] theorem modCtl_media : (s.modCtl n g).media = s.media := rfl
@[simp] theorem modCtl_tow : (s.modCtl n g).tow = s.tow := rfl
@[simp] theorem modCtl_integ : (s.modCtl n g).integ = s.integ := rfl
@[simp] theorem modCtl_fld : (s.modCtl n g).fld = s.fld := rfl
@[simp] theorem modCtl_pwr : (s.modCtl n g).pwr = s.pwr := rfl
@[simp] theorem modCtl_thm : (s.modCtl n g).thm = s.thm := rfl
@[simp] theorem modCtl_boot : (s.modCtl n g).boot = s.boot := rfl
@[simp] theorem modCtl_sec : (s.modCtl n g).sec = s.sec := rfl
@[simp] theorem modCtl_mgmt : (s.modCtl n g).mgmt = s.mgmt := rfl
@[simp] theorem modCtl_regs : (s.modCtl n g).regs = s.regs := rfl
@[simp] theorem modCtl_ctrs : (s.modCtl n g).ctrs = s.ctrs := rfl
@[simp] theorem modCtl_latch : (s.modCtl n g).latch = s.latch := rfl
@[simp] theorem modCtl_evlog : (s.modCtl n g).evlog = s.evlog := rfl
@[simp] theorem modCtl_subs : (s.modCtl n g).subs = s.subs := rfl
@[simp] theorem modCtl_out : (s.modCtl n g).out = s.out := rfl
end modCtl

section modMem
variable (s : State) (g : MemSys → MemSys)
@[simp] theorem modMem_pending : (s.modMem g).pending = s.pending := rfl
@[simp] theorem modMem_now : (s.modMem g).now = s.now := rfl
@[simp] theorem modMem_free : (s.modMem g).free = s.free := rfl
@[simp] theorem modMem_cl : (s.modMem g).cl = s.cl := rfl
@[simp] theorem modMem_site : (s.modMem g).site = s.site := rfl
@[simp] theorem modMem_ready : (s.modMem g).ready = s.ready := rfl
@[simp] theorem modMem_fab : (s.modMem g).fab = s.fab := rfl
@[simp] theorem modMem_hst : (s.modMem g).hst = s.hst := rfl
@[simp] theorem modMem_part : (s.modMem g).part = s.part := rfl
@[simp] theorem modMem_media : (s.modMem g).media = s.media := rfl
@[simp] theorem modMem_tow : (s.modMem g).tow = s.tow := rfl
@[simp] theorem modMem_integ : (s.modMem g).integ = s.integ := rfl
@[simp] theorem modMem_fld : (s.modMem g).fld = s.fld := rfl
@[simp] theorem modMem_pwr : (s.modMem g).pwr = s.pwr := rfl
@[simp] theorem modMem_thm : (s.modMem g).thm = s.thm := rfl
@[simp] theorem modMem_boot : (s.modMem g).boot = s.boot := rfl
@[simp] theorem modMem_sec : (s.modMem g).sec = s.sec := rfl
@[simp] theorem modMem_mgmt : (s.modMem g).mgmt = s.mgmt := rfl
@[simp] theorem modMem_regs : (s.modMem g).regs = s.regs := rfl
@[simp] theorem modMem_ctrs : (s.modMem g).ctrs = s.ctrs := rfl
@[simp] theorem modMem_latch : (s.modMem g).latch = s.latch := rfl
@[simp] theorem modMem_evlog : (s.modMem g).evlog = s.evlog := rfl
@[simp] theorem modMem_subs : (s.modMem g).subs = s.subs := rfl
@[simp] theorem modMem_out : (s.modMem g).out = s.out := rfl
end modMem

section modFab
variable (s : State) (g : Fabric → Fabric)
@[simp] theorem modFab_pending : (s.modFab g).pending = s.pending := rfl
@[simp] theorem modFab_now : (s.modFab g).now = s.now := rfl
@[simp] theorem modFab_free : (s.modFab g).free = s.free := rfl
@[simp] theorem modFab_cl : (s.modFab g).cl = s.cl := rfl
@[simp] theorem modFab_site : (s.modFab g).site = s.site := rfl
@[simp] theorem modFab_ready : (s.modFab g).ready = s.ready := rfl
@[simp] theorem modFab_mem : (s.modFab g).mem = s.mem := rfl
@[simp] theorem modFab_hst : (s.modFab g).hst = s.hst := rfl
@[simp] theorem modFab_part : (s.modFab g).part = s.part := rfl
@[simp] theorem modFab_media : (s.modFab g).media = s.media := rfl
@[simp] theorem modFab_tow : (s.modFab g).tow = s.tow := rfl
@[simp] theorem modFab_integ : (s.modFab g).integ = s.integ := rfl
@[simp] theorem modFab_fld : (s.modFab g).fld = s.fld := rfl
@[simp] theorem modFab_pwr : (s.modFab g).pwr = s.pwr := rfl
@[simp] theorem modFab_thm : (s.modFab g).thm = s.thm := rfl
@[simp] theorem modFab_boot : (s.modFab g).boot = s.boot := rfl
@[simp] theorem modFab_sec : (s.modFab g).sec = s.sec := rfl
@[simp] theorem modFab_mgmt : (s.modFab g).mgmt = s.mgmt := rfl
@[simp] theorem modFab_regs : (s.modFab g).regs = s.regs := rfl
@[simp] theorem modFab_ctrs : (s.modFab g).ctrs = s.ctrs := rfl
@[simp] theorem modFab_latch : (s.modFab g).latch = s.latch := rfl
@[simp] theorem modFab_evlog : (s.modFab g).evlog = s.evlog := rfl
@[simp] theorem modFab_subs : (s.modFab g).subs = s.subs := rfl
@[simp] theorem modFab_out : (s.modFab g).out = s.out := rfl
end modFab

section modLink
variable (s : State) (k : Nat) (g : Link → Link)
@[simp] theorem modLink_pending : (s.modLink k g).pending = s.pending := rfl
@[simp] theorem modLink_now : (s.modLink k g).now = s.now := rfl
@[simp] theorem modLink_free : (s.modLink k g).free = s.free := rfl
@[simp] theorem modLink_cl : (s.modLink k g).cl = s.cl := rfl
@[simp] theorem modLink_site : (s.modLink k g).site = s.site := rfl
@[simp] theorem modLink_ready : (s.modLink k g).ready = s.ready := rfl
@[simp] theorem modLink_mem : (s.modLink k g).mem = s.mem := rfl
@[simp] theorem modLink_hst : (s.modLink k g).hst = s.hst := rfl
@[simp] theorem modLink_part : (s.modLink k g).part = s.part := rfl
@[simp] theorem modLink_media : (s.modLink k g).media = s.media := rfl
@[simp] theorem modLink_tow : (s.modLink k g).tow = s.tow := rfl
@[simp] theorem modLink_integ : (s.modLink k g).integ = s.integ := rfl
@[simp] theorem modLink_fld : (s.modLink k g).fld = s.fld := rfl
@[simp] theorem modLink_pwr : (s.modLink k g).pwr = s.pwr := rfl
@[simp] theorem modLink_thm : (s.modLink k g).thm = s.thm := rfl
@[simp] theorem modLink_boot : (s.modLink k g).boot = s.boot := rfl
@[simp] theorem modLink_sec : (s.modLink k g).sec = s.sec := rfl
@[simp] theorem modLink_mgmt : (s.modLink k g).mgmt = s.mgmt := rfl
@[simp] theorem modLink_regs : (s.modLink k g).regs = s.regs := rfl
@[simp] theorem modLink_ctrs : (s.modLink k g).ctrs = s.ctrs := rfl
@[simp] theorem modLink_latch : (s.modLink k g).latch = s.latch := rfl
@[simp] theorem modLink_evlog : (s.modLink k g).evlog = s.evlog := rfl
@[simp] theorem modLink_subs : (s.modLink k g).subs = s.subs := rfl
@[simp] theorem modLink_out : (s.modLink k g).out = s.out := rfl
end modLink

section setSite
variable (s : State) (i : Nat) (v : SiteState)
@[simp] theorem setSite_pending : (s.setSite i v).pending = s.pending := rfl
@[simp] theorem setSite_now : (s.setSite i v).now = s.now := rfl
@[simp] theorem setSite_free : (s.setSite i v).free = s.free := rfl
@[simp] theorem setSite_cl : (s.setSite i v).cl = s.cl := rfl
@[simp] theorem setSite_ready : (s.setSite i v).ready = s.ready := rfl
@[simp] theorem setSite_fab : (s.setSite i v).fab = s.fab := rfl
@[simp] theorem setSite_mem : (s.setSite i v).mem = s.mem := rfl
@[simp] theorem setSite_hst : (s.setSite i v).hst = s.hst := rfl
@[simp] theorem setSite_part : (s.setSite i v).part = s.part := rfl
@[simp] theorem setSite_media : (s.setSite i v).media = s.media := rfl
@[simp] theorem setSite_tow : (s.setSite i v).tow = s.tow := rfl
@[simp] theorem setSite_integ : (s.setSite i v).integ = s.integ := rfl
@[simp] theorem setSite_fld : (s.setSite i v).fld = s.fld := rfl
@[simp] theorem setSite_pwr : (s.setSite i v).pwr = s.pwr := rfl
@[simp] theorem setSite_thm : (s.setSite i v).thm = s.thm := rfl
@[simp] theorem setSite_boot : (s.setSite i v).boot = s.boot := rfl
@[simp] theorem setSite_sec : (s.setSite i v).sec = s.sec := rfl
@[simp] theorem setSite_mgmt : (s.setSite i v).mgmt = s.mgmt := rfl
@[simp] theorem setSite_regs : (s.setSite i v).regs = s.regs := rfl
@[simp] theorem setSite_ctrs : (s.setSite i v).ctrs = s.ctrs := rfl
@[simp] theorem setSite_latch : (s.setSite i v).latch = s.latch := rfl
@[simp] theorem setSite_evlog : (s.setSite i v).evlog = s.evlog := rfl
@[simp] theorem setSite_subs : (s.setSite i v).subs = s.subs := rfl
@[simp] theorem setSite_out : (s.setSite i v).out = s.out := rfl
end setSite

section modField
variable (s : State) (i : Nat) (g : FieldSt → FieldSt)
@[simp] theorem modField_pending : (s.modField i g).pending = s.pending := rfl
@[simp] theorem modField_now : (s.modField i g).now = s.now := rfl
@[simp] theorem modField_free : (s.modField i g).free = s.free := rfl
@[simp] theorem modField_cl : (s.modField i g).cl = s.cl := rfl
@[simp] theorem modField_site : (s.modField i g).site = s.site := rfl
@[simp] theorem modField_ready : (s.modField i g).ready = s.ready := rfl
@[simp] theorem modField_fab : (s.modField i g).fab = s.fab := rfl
@[simp] theorem modField_mem : (s.modField i g).mem = s.mem := rfl
@[simp] theorem modField_hst : (s.modField i g).hst = s.hst := rfl
@[simp] theorem modField_part : (s.modField i g).part = s.part := rfl
@[simp] theorem modField_media : (s.modField i g).media = s.media := rfl
@[simp] theorem modField_tow : (s.modField i g).tow = s.tow := rfl
@[simp] theorem modField_integ : (s.modField i g).integ = s.integ := rfl
@[simp] theorem modField_pwr : (s.modField i g).pwr = s.pwr := rfl
@[simp] theorem modField_thm : (s.modField i g).thm = s.thm := rfl
@[simp] theorem modField_boot : (s.modField i g).boot = s.boot := rfl
@[simp] theorem modField_sec : (s.modField i g).sec = s.sec := rfl
@[simp] theorem modField_mgmt : (s.modField i g).mgmt = s.mgmt := rfl
@[simp] theorem modField_regs : (s.modField i g).regs = s.regs := rfl
@[simp] theorem modField_ctrs : (s.modField i g).ctrs = s.ctrs := rfl
@[simp] theorem modField_latch : (s.modField i g).latch = s.latch := rfl
@[simp] theorem modField_evlog : (s.modField i g).evlog = s.evlog := rfl
@[simp] theorem modField_subs : (s.modField i g).subs = s.subs := rfl
@[simp] theorem modField_out : (s.modField i g).out = s.out := rfl
end modField

section modMport
variable (s : State) (p : Nat) (g : MPort → MPort)
@[simp] theorem modMport_pending : (s.modMport p g).pending = s.pending := rfl
@[simp] theorem modMport_now : (s.modMport p g).now = s.now := rfl
@[simp] theorem modMport_free : (s.modMport p g).free = s.free := rfl
@[simp] theorem modMport_cl : (s.modMport p g).cl = s.cl := rfl
@[simp] theorem modMport_site : (s.modMport p g).site = s.site := rfl
@[simp] theorem modMport_ready : (s.modMport p g).ready = s.ready := rfl
@[simp] theorem modMport_fab : (s.modMport p g).fab = s.fab := rfl
@[simp] theorem modMport_mem : (s.modMport p g).mem = s.mem := rfl
@[simp] theorem modMport_hst : (s.modMport p g).hst = s.hst := rfl
@[simp] theorem modMport_part : (s.modMport p g).part = s.part := rfl
@[simp] theorem modMport_tow : (s.modMport p g).tow = s.tow := rfl
@[simp] theorem modMport_integ : (s.modMport p g).integ = s.integ := rfl
@[simp] theorem modMport_fld : (s.modMport p g).fld = s.fld := rfl
@[simp] theorem modMport_pwr : (s.modMport p g).pwr = s.pwr := rfl
@[simp] theorem modMport_thm : (s.modMport p g).thm = s.thm := rfl
@[simp] theorem modMport_boot : (s.modMport p g).boot = s.boot := rfl
@[simp] theorem modMport_sec : (s.modMport p g).sec = s.sec := rfl
@[simp] theorem modMport_mgmt : (s.modMport p g).mgmt = s.mgmt := rfl
@[simp] theorem modMport_regs : (s.modMport p g).regs = s.regs := rfl
@[simp] theorem modMport_ctrs : (s.modMport p g).ctrs = s.ctrs := rfl
@[simp] theorem modMport_latch : (s.modMport p g).latch = s.latch := rfl
@[simp] theorem modMport_evlog : (s.modMport p g).evlog = s.evlog := rfl
@[simp] theorem modMport_subs : (s.modMport p g).subs = s.subs := rfl
@[simp] theorem modMport_out : (s.modMport p g).out = s.out := rfl
end modMport

section modCtx
variable (s : State) (c : Nat) (g : Ctx → Ctx)
@[simp] theorem modCtx_pending : (s.modCtx c g).pending = s.pending := rfl
@[simp] theorem modCtx_now : (s.modCtx c g).now = s.now := rfl
@[simp] theorem modCtx_free : (s.modCtx c g).free = s.free := rfl
@[simp] theorem modCtx_cl : (s.modCtx c g).cl = s.cl := rfl
@[simp] theorem modCtx_site : (s.modCtx c g).site = s.site := rfl
@[simp] theorem modCtx_ready : (s.modCtx c g).ready = s.ready := rfl
@[simp] theorem modCtx_fab : (s.modCtx c g).fab = s.fab := rfl
@[simp] theorem modCtx_mem : (s.modCtx c g).mem = s.mem := rfl
@[simp] theorem modCtx_hst : (s.modCtx c g).hst = s.hst := rfl
@[simp] theorem modCtx_part : (s.modCtx c g).part = s.part := rfl
@[simp] theorem modCtx_tow : (s.modCtx c g).tow = s.tow := rfl
@[simp] theorem modCtx_integ : (s.modCtx c g).integ = s.integ := rfl
@[simp] theorem modCtx_fld : (s.modCtx c g).fld = s.fld := rfl
@[simp] theorem modCtx_pwr : (s.modCtx c g).pwr = s.pwr := rfl
@[simp] theorem modCtx_thm : (s.modCtx c g).thm = s.thm := rfl
@[simp] theorem modCtx_boot : (s.modCtx c g).boot = s.boot := rfl
@[simp] theorem modCtx_sec : (s.modCtx c g).sec = s.sec := rfl
@[simp] theorem modCtx_mgmt : (s.modCtx c g).mgmt = s.mgmt := rfl
@[simp] theorem modCtx_regs : (s.modCtx c g).regs = s.regs := rfl
@[simp] theorem modCtx_ctrs : (s.modCtx c g).ctrs = s.ctrs := rfl
@[simp] theorem modCtx_latch : (s.modCtx c g).latch = s.latch := rfl
@[simp] theorem modCtx_evlog : (s.modCtx c g).evlog = s.evlog := rfl
@[simp] theorem modCtx_subs : (s.modCtx c g).subs = s.subs := rfl
@[simp] theorem modCtx_out : (s.modCtx c g).out = s.out := rfl
end modCtx

section modBound
variable (s : State) (c : Nat) (g : Binding → Binding)
@[simp] theorem modBound_pending : (s.modBound c g).pending = s.pending := rfl
@[simp] theorem modBound_now : (s.modBound c g).now = s.now := rfl
@[simp] theorem modBound_free : (s.modBound c g).free = s.free := rfl
@[simp] theorem modBound_cl : (s.modBound c g).cl = s.cl := rfl
@[simp] theorem modBound_site : (s.modBound c g).site = s.site := rfl
@[simp] theorem modBound_ready : (s.modBound c g).ready = s.ready := rfl
@[simp] theorem modBound_fab : (s.modBound c g).fab = s.fab := rfl
@[simp] theorem modBound_mem : (s.modBound c g).mem = s.mem := rfl
@[simp] theorem modBound_hst : (s.modBound c g).hst = s.hst := rfl
@[simp] theorem modBound_part : (s.modBound c g).part = s.part := rfl
@[simp] theorem modBound_tow : (s.modBound c g).tow = s.tow := rfl
@[simp] theorem modBound_integ : (s.modBound c g).integ = s.integ := rfl
@[simp] theorem modBound_fld : (s.modBound c g).fld = s.fld := rfl
@[simp] theorem modBound_pwr : (s.modBound c g).pwr = s.pwr := rfl
@[simp] theorem modBound_thm : (s.modBound c g).thm = s.thm := rfl
@[simp] theorem modBound_boot : (s.modBound c g).boot = s.boot := rfl
@[simp] theorem modBound_sec : (s.modBound c g).sec = s.sec := rfl
@[simp] theorem modBound_mgmt : (s.modBound c g).mgmt = s.mgmt := rfl
@[simp] theorem modBound_regs : (s.modBound c g).regs = s.regs := rfl
@[simp] theorem modBound_ctrs : (s.modBound c g).ctrs = s.ctrs := rfl
@[simp] theorem modBound_latch : (s.modBound c g).latch = s.latch := rfl
@[simp] theorem modBound_evlog : (s.modBound c g).evlog = s.evlog := rfl
@[simp] theorem modBound_subs : (s.modBound c g).subs = s.subs := rfl
@[simp] theorem modBound_out : (s.modBound c g).out = s.out := rfl
end modBound

section modTport
variable (s : State) (p : Nat) (g : TPort → TPort)
@[simp] theorem modTport_pending : (s.modTport p g).pending = s.pending := rfl
@[simp] theorem modTport_now : (s.modTport p g).now = s.now := rfl
@[simp] theorem modTport_free : (s.modTport p g).free = s.free := rfl
@[simp] theorem modTport_cl : (s.modTport p g).cl = s.cl := rfl
@[simp] theorem modTport_site : (s.modTport p g).site = s.site := rfl
@[simp] theorem modTport_ready : (s.modTport p g).ready = s.ready := rfl
@[simp] theorem modTport_fab : (s.modTport p g).fab = s.fab := rfl
@[simp] theorem modTport_mem : (s.modTport p g).mem = s.mem := rfl
@[simp] theorem modTport_hst : (s.modTport p g).hst = s.hst := rfl
@[simp] theorem modTport_part : (s.modTport p g).part = s.part := rfl
@[simp] theorem modTport_media : (s.modTport p g).media = s.media := rfl
@[simp] theorem modTport_integ : (s.modTport p g).integ = s.integ := rfl
@[simp] theorem modTport_fld : (s.modTport p g).fld = s.fld := rfl
@[simp] theorem modTport_pwr : (s.modTport p g).pwr = s.pwr := rfl
@[simp] theorem modTport_thm : (s.modTport p g).thm = s.thm := rfl
@[simp] theorem modTport_boot : (s.modTport p g).boot = s.boot := rfl
@[simp] theorem modTport_sec : (s.modTport p g).sec = s.sec := rfl
@[simp] theorem modTport_mgmt : (s.modTport p g).mgmt = s.mgmt := rfl
@[simp] theorem modTport_regs : (s.modTport p g).regs = s.regs := rfl
@[simp] theorem modTport_ctrs : (s.modTport p g).ctrs = s.ctrs := rfl
@[simp] theorem modTport_latch : (s.modTport p g).latch = s.latch := rfl
@[simp] theorem modTport_evlog : (s.modTport p g).evlog = s.evlog := rfl
@[simp] theorem modTport_subs : (s.modTport p g).subs = s.subs := rfl
@[simp] theorem modTport_out : (s.modTport p g).out = s.out := rfl
end modTport

section modTgroup
variable (s : State) (v : Nat) (g : TGroup → TGroup)
@[simp] theorem modTgroup_pending : (s.modTgroup v g).pending = s.pending := rfl
@[simp] theorem modTgroup_now : (s.modTgroup v g).now = s.now := rfl
@[simp] theorem modTgroup_free : (s.modTgroup v g).free = s.free := rfl
@[simp] theorem modTgroup_cl : (s.modTgroup v g).cl = s.cl := rfl
@[simp] theorem modTgroup_site : (s.modTgroup v g).site = s.site := rfl
@[simp] theorem modTgroup_ready : (s.modTgroup v g).ready = s.ready := rfl
@[simp] theorem modTgroup_fab : (s.modTgroup v g).fab = s.fab := rfl
@[simp] theorem modTgroup_mem : (s.modTgroup v g).mem = s.mem := rfl
@[simp] theorem modTgroup_hst : (s.modTgroup v g).hst = s.hst := rfl
@[simp] theorem modTgroup_part : (s.modTgroup v g).part = s.part := rfl
@[simp] theorem modTgroup_media : (s.modTgroup v g).media = s.media := rfl
@[simp] theorem modTgroup_integ : (s.modTgroup v g).integ = s.integ := rfl
@[simp] theorem modTgroup_fld : (s.modTgroup v g).fld = s.fld := rfl
@[simp] theorem modTgroup_pwr : (s.modTgroup v g).pwr = s.pwr := rfl
@[simp] theorem modTgroup_thm : (s.modTgroup v g).thm = s.thm := rfl
@[simp] theorem modTgroup_boot : (s.modTgroup v g).boot = s.boot := rfl
@[simp] theorem modTgroup_sec : (s.modTgroup v g).sec = s.sec := rfl
@[simp] theorem modTgroup_mgmt : (s.modTgroup v g).mgmt = s.mgmt := rfl
@[simp] theorem modTgroup_regs : (s.modTgroup v g).regs = s.regs := rfl
@[simp] theorem modTgroup_ctrs : (s.modTgroup v g).ctrs = s.ctrs := rfl
@[simp] theorem modTgroup_latch : (s.modTgroup v g).latch = s.latch := rfl
@[simp] theorem modTgroup_evlog : (s.modTgroup v g).evlog = s.evlog := rfl
@[simp] theorem modTgroup_subs : (s.modTgroup v g).subs = s.subs := rfl
@[simp] theorem modTgroup_out : (s.modTgroup v g).out = s.out := rfl
end modTgroup

section emit
variable (s : State) (o : Out)
@[simp] theorem emit_pending : (s.emit o).pending = s.pending := rfl
@[simp] theorem emit_now : (s.emit o).now = s.now := rfl
@[simp] theorem emit_free : (s.emit o).free = s.free := rfl
@[simp] theorem emit_cl : (s.emit o).cl = s.cl := rfl
@[simp] theorem emit_site : (s.emit o).site = s.site := rfl
@[simp] theorem emit_ready : (s.emit o).ready = s.ready := rfl
@[simp] theorem emit_fab : (s.emit o).fab = s.fab := rfl
@[simp] theorem emit_mem : (s.emit o).mem = s.mem := rfl
@[simp] theorem emit_hst : (s.emit o).hst = s.hst := rfl
@[simp] theorem emit_part : (s.emit o).part = s.part := rfl
@[simp] theorem emit_media : (s.emit o).media = s.media := rfl
@[simp] theorem emit_tow : (s.emit o).tow = s.tow := rfl
@[simp] theorem emit_integ : (s.emit o).integ = s.integ := rfl
@[simp] theorem emit_fld : (s.emit o).fld = s.fld := rfl
@[simp] theorem emit_pwr : (s.emit o).pwr = s.pwr := rfl
@[simp] theorem emit_thm : (s.emit o).thm = s.thm := rfl
@[simp] theorem emit_boot : (s.emit o).boot = s.boot := rfl
@[simp] theorem emit_sec : (s.emit o).sec = s.sec := rfl
@[simp] theorem emit_mgmt : (s.emit o).mgmt = s.mgmt := rfl
@[simp] theorem emit_regs : (s.emit o).regs = s.regs := rfl
@[simp] theorem emit_ctrs : (s.emit o).ctrs = s.ctrs := rfl
@[simp] theorem emit_latch : (s.emit o).latch = s.latch := rfl
@[simp] theorem emit_evlog : (s.emit o).evlog = s.evlog := rfl
@[simp] theorem emit_subs : (s.emit o).subs = s.subs := rfl
end emit

section setReg
variable (s : State) (off : Nat) (v : W32)
@[simp] theorem setReg_pending : (s.setReg off v).pending = s.pending := rfl
@[simp] theorem setReg_now : (s.setReg off v).now = s.now := rfl
@[simp] theorem setReg_free : (s.setReg off v).free = s.free := rfl
@[simp] theorem setReg_cl : (s.setReg off v).cl = s.cl := rfl
@[simp] theorem setReg_site : (s.setReg off v).site = s.site := rfl
@[simp] theorem setReg_ready : (s.setReg off v).ready = s.ready := rfl
@[simp] theorem setReg_fab : (s.setReg off v).fab = s.fab := rfl
@[simp] theorem setReg_mem : (s.setReg off v).mem = s.mem := rfl
@[simp] theorem setReg_hst : (s.setReg off v).hst = s.hst := rfl
@[simp] theorem setReg_part : (s.setReg off v).part = s.part := rfl
@[simp] theorem setReg_media : (s.setReg off v).media = s.media := rfl
@[simp] theorem setReg_tow : (s.setReg off v).tow = s.tow := rfl
@[simp] theorem setReg_integ : (s.setReg off v).integ = s.integ := rfl
@[simp] theorem setReg_fld : (s.setReg off v).fld = s.fld := rfl
@[simp] theorem setReg_pwr : (s.setReg off v).pwr = s.pwr := rfl
@[simp] theorem setReg_thm : (s.setReg off v).thm = s.thm := rfl
@[simp] theorem setReg_boot : (s.setReg off v).boot = s.boot := rfl
@[simp] theorem setReg_sec : (s.setReg off v).sec = s.sec := rfl
@[simp] theorem setReg_mgmt : (s.setReg off v).mgmt = s.mgmt := rfl
@[simp] theorem setReg_ctrs : (s.setReg off v).ctrs = s.ctrs := rfl
@[simp] theorem setReg_latch : (s.setReg off v).latch = s.latch := rfl
@[simp] theorem setReg_evlog : (s.setReg off v).evlog = s.evlog := rfl
@[simp] theorem setReg_subs : (s.setReg off v).subs = s.subs := rfl
@[simp] theorem setReg_out : (s.setReg off v).out = s.out := rfl
end setReg

section setCtr
variable (s : State) (off : Nat) (c : Counter)
@[simp] theorem setCtr_pending : (s.setCtr off c).pending = s.pending := rfl
@[simp] theorem setCtr_now : (s.setCtr off c).now = s.now := rfl
@[simp] theorem setCtr_free : (s.setCtr off c).free = s.free := rfl
@[simp] theorem setCtr_cl : (s.setCtr off c).cl = s.cl := rfl
@[simp] theorem setCtr_site : (s.setCtr off c).site = s.site := rfl
@[simp] theorem setCtr_ready : (s.setCtr off c).ready = s.ready := rfl
@[simp] theorem setCtr_fab : (s.setCtr off c).fab = s.fab := rfl
@[simp] theorem setCtr_mem : (s.setCtr off c).mem = s.mem := rfl
@[simp] theorem setCtr_hst : (s.setCtr off c).hst = s.hst := rfl
@[simp] theorem setCtr_part : (s.setCtr off c).part = s.part := rfl
@[simp] theorem setCtr_media : (s.setCtr off c).media = s.media := rfl
@[simp] theorem setCtr_tow : (s.setCtr off c).tow = s.tow := rfl
@[simp] theorem setCtr_integ : (s.setCtr off c).integ = s.integ := rfl
@[simp] theorem setCtr_fld : (s.setCtr off c).fld = s.fld := rfl
@[simp] theorem setCtr_pwr : (s.setCtr off c).pwr = s.pwr := rfl
@[simp] theorem setCtr_thm : (s.setCtr off c).thm = s.thm := rfl
@[simp] theorem setCtr_boot : (s.setCtr off c).boot = s.boot := rfl
@[simp] theorem setCtr_sec : (s.setCtr off c).sec = s.sec := rfl
@[simp] theorem setCtr_mgmt : (s.setCtr off c).mgmt = s.mgmt := rfl
@[simp] theorem setCtr_regs : (s.setCtr off c).regs = s.regs := rfl
@[simp] theorem setCtr_latch : (s.setCtr off c).latch = s.latch := rfl
@[simp] theorem setCtr_evlog : (s.setCtr off c).evlog = s.evlog := rfl
@[simp] theorem setCtr_subs : (s.setCtr off c).subs = s.subs := rfl
@[simp] theorem setCtr_out : (s.setCtr off c).out = s.out := rfl
end setCtr

/-! ### Reading a part after changing it -/

@[simp] theorem clu_modClu (s : State) (i j : Nat) (f : Cluster → Cluster) : (s.modClu i f).clu j = if j = i then f (s.clu i) else s.clu j :=
  Tab.get_put _ _ _ _ _

@[simp] theorem prt_modPart (s : State) (i j : Nat) (f : Part → Part) : (s.modPart i f).prt j = if j = i then f (s.prt i) else s.prt j :=
  Tab.get_put _ _ _ _ _

@[simp] theorem ring_modRing (s : State) (i j : Nat) (f : Ring → Ring) : (s.modRing i f).ring j = if j = i then f (s.ring i) else s.ring j :=
  Tab.get_put _ _ _ _ _

@[simp] theorem fent_modFent (s : State) (i j : Nat) (f : FuncEntry → FuncEntry) : (s.modFent i f).fent j = if j = i then f (s.fent i) else s.fent j :=
  Tab.get_put _ _ _ _ _

@[simp] theorem port_modPort (s : State) (i j : Nat) (f : Port → Port) : (s.modPort i f).port j = if j = i then f (s.port i) else s.port j :=
  Tab.get_put _ _ _ _ _

@[simp] theorem rwin_modRwin (s : State) (i j : Nat) (f : RingWin → RingWin) : (s.modRwin i f).rwin j = if j = i then f (s.rwin i) else s.rwin j :=
  Tab.get_put _ _ _ _ _

@[simp] theorem page_modPage (s : State) (i j : Nat) (f : Page → Page) : (s.modPage i f).page j = if j = i then f (s.page i) else s.page j :=
  Tab.get_put _ _ _ _ _

@[simp] theorem group_modGroup (s : State) (i j : Nat) (f : Group → Group) : (s.modGroup i f).group j = if j = i then f (s.group i) else s.group j :=
  Tab.get_put _ _ _ _ _

@[simp] theorem ctl_modCtl (s : State) (i j : Nat) (f : Ctl → Ctl) : (s.modCtl i f).ctl j = if j = i then f (s.ctl i) else s.ctl j :=
  Tab.get_put _ _ _ _ _

@[simp] theorem link_modLink (s : State) (i j : Nat) (f : Link → Link) : (s.modLink i f).link j = if j = i then f (s.link i) else s.link j :=
  Tab.get_put _ _ _ _ _

@[simp] theorem field_modField (s : State) (i j : Nat) (f : FieldSt → FieldSt) : (s.modField i f).field j = if j = i then f (s.field i) else s.field j :=
  Tab.get_put _ _ _ _ _

@[simp] theorem mport_modMport (s : State) (i j : Nat) (f : MPort → MPort) : (s.modMport i f).mport j = if j = i then f (s.mport i) else s.mport j :=
  Tab.get_put _ _ _ _ _

@[simp] theorem ctx_modCtx (s : State) (i j : Nat) (f : Ctx → Ctx) : (s.modCtx i f).ctx j = if j = i then f (s.ctx i) else s.ctx j :=
  Tab.get_put _ _ _ _ _

@[simp] theorem tport_modTport (s : State) (i j : Nat) (f : TPort → TPort) : (s.modTport i f).tport j = if j = i then f (s.tport i) else s.tport j :=
  Tab.get_put _ _ _ _ _

@[simp] theorem tgroup_modTgroup (s : State) (i j : Nat) (f : TGroup → TGroup) : (s.modTgroup i f).tgroup j = if j = i then f (s.tgroup i) else s.tgroup j :=
  Tab.get_put _ _ _ _ _

@[simp] theorem siteState_setSite (s : State) (i j : Nat) (v : SiteState) : (s.setSite i v).siteState j = if j = i then v else s.siteState j :=
  Tab.get_put _ _ _ _ _

@[simp] theorem getCore_modCore (c : Cluster) (n m : Nat) (f : Core → Core) : (c.modCore n f).getCore m = if m = n then f (c.getCore n) else c.getCore m :=
  Tab.get_put _ _ _ _ _

@[simp] theorem getCfg_modCfg (p : Part) (c d : Nat) (f : Cfg → Cfg) : (p.modCfg c f).getCfg d = if d = c then f (p.getCfg c) else p.getCfg d :=
  Tab.get_put _ _ _ _ _

@[simp] theorem getQueue_modQueue (c : Cluster) (q r : Nat) (f : Queue → Queue) :
    (c.modQueue q f).getQueue r = if r = q then f (c.getQueue q) else c.getQueue r := Tab.get_put _ _ _ _ _

@[simp] theorem getSlot_setSlot (c : Cluster) (k j : Nat) (x : Option Xfer) : (c.setSlot k x).getSlot j = if j = k then x else c.getSlot j :=
  Tab.get_put _ _ _ _ _

/-- A core after it was changed. -/
@[simp] theorem core_modCore (s : State) (r : CoreRef) (f : Core → Core) : (s.modCore r f).core r = f (s.core r) := by
  simp [State.core, State.modCore]

/-- A configuration after it was changed. -/
@[simp] theorem cfg_modCfg (s : State) (f c : Nat) (g : Cfg → Cfg) : (s.modCfg f c g).cfg f c = g (s.cfg f c) := by
  simp [State.cfg, State.modCfg]

@[simp] theorem reg_setReg (s : State) (o p : Nat) (v : W32) : (s.setReg o v).reg p = if p = o then v else s.reg p := by
  unfold State.reg State.setReg
  simp only [Tab.get_put]
  split
  · subst p; rw [BitVec.xor_assoc, BitVec.xor_self, BitVec.xor_zero]
  · rfl

@[simp] theorem ctr_setCtr (s : State) (o p : Nat) (c : Counter) : (s.setCtr o c).ctr p = if p = o then c else s.ctr p :=
  Tab.get_put _ _ _ _ _

end Sys2Proof.Machine
end

