-- ==== Sys2Proof/Laws/Ops.lean ====
section
/-! SUPPORT. What raising an event, counting and meeting an uncorrectable line leave unchanged: everything but memory's bytes, marks and
caches, ring contexts and their caches, counters, the event log and what has been sent. -/
namespace Sys2Proof.Machine

/-- The memory system without what an access can change. -/
def MemSys.quiet (m : MemSys) : MemSys :=
  { m with bytes := [], slot1 := [], bad := [], soft := [], cacheBad := [], ueLog := {}, ctl := [], mig := [] }

/-- The state without what an event, a count or a record can change. -/
def State.still (s : State) : State :=
  { s with hst := { s.hst with mem := [], ring := [], cached := [], pba := [] }, mem := s.mem.quiet, ctrs := [], evlog := [], subs := [],
           out := [] }

@[simp] theorem still_ite (c : Prop) [Decidable c] (a b : State) : (if c then a else b).still = if c then a.still else b.still := by
  split <;> rfl

theorem still_each {α : Type} (s : State) (l : List α) (f : State → α → State) (hf : ∀ t a, (f t a).still = t.still) :
    (s.each l f).still = s.still := by
  induction l generalizing s with
  | nil => rfl
  | cons x l ih => exact (ih (f s x)).trans (hf s x)

theorem still_foldl {α : Type} (s : State) (l : List α) (f : State → α → State) (hf : ∀ t a, (f t a).still = t.still) :
    (l.foldl f s).still = s.still := still_each s l f hf

@[simp] theorem still_modRing (s : State) (r : Nat) (g : Ring → Ring) : (s.modRing r g).still = s.still := rfl
@[simp] theorem still_setCtr (s : State) (o : Nat) (c : Counter) : (s.setCtr o c).still = s.still := rfl
@[simp] theorem still_emit (s : State) (o : Out) : (s.emit o).still = s.still := rfl
@[simp] theorem still_sendMsix (s : State) (f v : Nat) : (s.sendMsix f v).still = s.still := by
  unfold State.sendMsix
  split <;> rfl
@[simp] theorem still_interrupt (s : State) (r f : Nat) (b : Bool) : (s.interrupt r f b).still = s.still := by
  simp [State.interrupt]
@[simp] theorem still_ueLog (s : State) (u : UeLog) : (s.modMem (fun m => { m with ueLog := u })).still = s.still := rfl
@[simp] theorem still_evlog (s : State) (l : List Event) (x : List Subscription) : ({ s with evlog := l, subs := x } : State).still = s.still := rfl
@[simp] theorem still_hostMem (s : State) (m : Mem) : ({ s with hst := { s.hst with mem := m } } : State).still = s.still := rfl

/-- Writing a slot of a page changes bytes and marks alone. -/
@[simp] theorem quiet_writeSlot (m : MemSys) (k : Nat) (a : Nat) (bs : List W8) : (m.writeSlot k a bs).quiet = m.quiet := by
  unfold MemSys.writeSlot
  repeat' split
  all_goals rfl

theorem still_modMem (s : State) (f : MemSys → MemSys) (h : ∀ m, (f m).quiet = m.quiet) : (s.modMem f).still = s.still := by
  simp only [State.still, State.modMem, h]

@[simp] theorem still_devWrite (s : State) (a : Nat) (bs : List W8) : (s.devWrite a bs).still = s.still := by
  refine still_each _ _ _ (fun t e => still_modMem _ _ (fun m => ?_))
  generalize t.writeSlots _ = l
  induction l generalizing m with
  | nil => rfl
  | cons x l ih => exact (ih _).trans (quiet_writeSlot m x e.1 e.2)

@[simp] theorem still_countAccess (s : State) (p n : Nat) (f : Option Nat) : (s.countAccess p n f).still = s.still := rfl

@[simp] theorem still_modCtl (s : State) (n : Nat) (g : Ctl → Ctl) : (s.modCtl n g).still = s.still := rfl

@[simp] theorem still_writeBack (s : State) (l : List Nat) : (s.writeBack l).still = s.still := by
  unfold State.writeBack
  split <;> rfl

@[simp] theorem still_useCtx (s : State) (r : Nat) : (s.useCtx r).still = s.still := by
  unfold State.useCtx
  exact still_writeBack _ _

@[simp] theorem quiet_meetCopy (m : MemSys) (k : Nat) (d : Bool) : (m.meetCopy k d).quiet = m.quiet := by
  unfold MemSys.meetCopy
  split <;> rfl

@[simp] theorem quiet_evict (m : MemSys) (y : Option CLine) : (m.evict y).quiet = m.quiet := by
  cases y <;> simp [MemSys.evict]

@[simp] theorem still_touchCore (s : State) (k a : Nat) (w b : Bool) : (s.touchCore k a w b).1.still = s.still := by
  unfold State.touchCore
  dsimp only
  split
  · exact (still_modCtl _ _ _).trans (still_modMem _ _ (fun m => quiet_meetCopy m _ _))
  · refine (still_modCtl _ _ _).trans (still_modMem _ _ (fun m => ?_))
    rw [quiet_evict]
    split <;> rfl

@[simp] theorem still_raiseWith (post : Post) (hp : ∀ t a0 a1 a2, (post t a0 a1 a2).still = t.still) (s : State) (conc : Option (Nat × Nat))
    (wide : Bool) (typ : W16) (data : Nat) : (s.raiseWith post conc wide typ data).still = s.still := by
  unfold State.raiseWith
  cases conc <;> cases wide <;> simp [hp, still_each]

@[simp] theorem still_bumpWith (post : Post) (hp : ∀ t a0 a1 a2, (post t a0 a1 a2).still = t.still) (s : State) (off n : Nat) :
    (s.bumpWith post off n).still = s.still := by
  unfold State.bumpWith
  simp [hp]

@[simp] theorem still_touchWith (post : Post) (hp : ∀ t a0 a1 a2, (post t a0 a1 a2).still = t.still) (s : State) (k a : Nat) (w b : Bool) :
    (s.touchWith post k a w b).still = s.still := by
  unfold State.touchWith
  exact (still_foldl _ _ _ (fun t e => still_bumpWith post hp t _ _)).trans (still_touchCore s k a w b)

@[simp] theorem still_demandWith (post : Post) (hp : ∀ t a0 a1 a2, (post t a0 a1 a2).still = t.still) (s : State)
    (view : Option (List Nat)) (a n : Nat) (w : Bool) (fld : Option Nat) : (s.demandWith post view a n w fld).still = s.still := by
  unfold State.demandWith
  dsimp only
  split
  · rfl
  · refine (still_each _ _ _ (fun t p => still_countAccess _ _ _ _)).trans (still_each _ _ _ (fun t l => ?_))
    split
    · exact still_foldl _ _ _ (fun t k => still_touchWith post hp t _ _ _ _)
    · exact still_touchWith post hp t _ _ _ _

@[simp] theorem still_memUEWith (post : Post) (hp : ∀ t a0 a1 a2, (post t a0 a1 a2).still = t.still) (s : State) (source line : Nat) :
    (s.memUEWith post source line).still = s.still := by
  unfold State.memUEWith
  simp [hp]

@[simp] theorem still_ringErrWith (post : Post) (hp : ∀ t a0 a1 a2, (post t a0 a1 a2).still = t.still) (s : State) (r : Nat) (cause : W8) :
    (s.ringErrWith post r cause).still = s.still := by
  unfold State.ringErrWith
  split
  · rfl
  · dsimp only; split <;> simp [hp]

@[simp] theorem still_recordWith (post : Post) (hp : ∀ t a0 a1 a2, (post t a0 a1 a2).still = t.still) (s : State) (f r : Nat)
    (bytes : Nat → List W8) (force : Bool) : (s.recordWith post f r bytes force).still = s.still := by
  unfold State.recordWith
  dsimp only
  split
  · simp [hp]
  · simp only [still_interrupt, still_modRing, still_useCtx]
    split
    · rw [still_foldl _ _ _ (fun t a => still_memUEWith post hp t 8 a), still_devWrite, still_demandWith post hp]
    · simp

@[simp] theorem still_evLostWith (post : Post) (hp : ∀ t a0 a1 a2, (post t a0 a1 a2).still = t.still) (s : State) (f : Nat) :
    (s.evLostWith post f).still = s.still := still_bumpWith post hp s _ _

@[simp] theorem still_postOn (n : Nat) (s : State) (f r : Nat) (e : Event) : (State.postOn n s f r e).still = s.still := by
  induction n generalizing s f r e with
  | zero => rfl
  | succ n ih =>
    unfold State.postOn
    dsimp only
    repeat' split
    all_goals simp [ih]

@[simp] theorem still_post (s : State) (f r : Nat) (e : Event) : (State.post s f r e).still = s.still := still_postOn 4 s f r e

@[simp] theorem still_raise (s : State) (conc : Option (Nat × Nat)) (wide : Bool) (typ : W16) (data : Nat) :
    (s.raise conc wide typ data).still = s.still := still_raiseWith State.post still_post s conc wide typ data

@[simp] theorem still_raiseWide (s : State) (typ : W16) (data : Nat)  : (State.raiseWide s typ data).still = s.still := by
  simp [State.raiseWide]

@[simp] theorem still_bump (s : State) (off n : Nat) : (s.bump off n).still = s.still := still_bumpWith State.post still_post s off n

@[simp] theorem still_demand (s : State) (view : Option (List Nat)) (a n : Nat) (w : Bool) (fld : Option Nat) :
    (s.demand view a n w fld).still = s.still := still_demandWith State.post still_post s view a n w fld

@[simp] theorem still_touchLine (s : State) (k a : Nat) (w b : Bool) : (s.touchLine k a w b).still = s.still :=
  still_touchWith State.post still_post s k a w b

@[simp] theorem still_memUE (s : State) (source line : Nat) : (s.memUE source line).still = s.still := still_memUEWith State.post still_post s source line

@[simp] theorem still_memUEs (s : State) (source : Nat) (l : List Nat) : (s.memUEs source l).still = s.still :=
  still_each _ _ _ (fun t a => still_memUE t source a)

@[simp] theorem still_ringErr (s : State) (r : Nat) (c : W8) : (s.ringErr r c).still = s.still := still_ringErrWith State.post still_post s r c

@[simp] theorem still_devStore (s : State) (x a : Nat) (bs : List W8) : (s.devStore x a bs).still = s.still := by
  simp [State.devStore]

/-- An engine-wide event is the newest of the log (R507). -/
theorem raiseWide_logs (s : State) (typ : W16) (data : Nat) :
    (s.raiseWide typ data).evlog.head? = some { typ := typ, ring := 0, time := s.now, data := data } := rfl

/-! ### The fields that these operations leave -/

section bumpFields
variable (s : State) (o n : Nat)
@[simp] theorem bump_pending : (s.bump o n).pending = s.pending := show (s.bump o n).still.pending = s.still.pending by rw [still_bump]
@[simp] theorem bump_now : (s.bump o n).now = s.now := show (s.bump o n).still.now = s.still.now by rw [still_bump]
@[simp] theorem bump_free : (s.bump o n).free = s.free := show (s.bump o n).still.free = s.still.free by rw [still_bump]
@[simp] theorem bump_cl : (s.bump o n).cl = s.cl := show (s.bump o n).still.cl = s.still.cl by rw [still_bump]
@[simp] theorem bump_site : (s.bump o n).site = s.site := show (s.bump o n).still.site = s.still.site by rw [still_bump]
@[simp] theorem bump_ready : (s.bump o n).ready = s.ready := show (s.bump o n).still.ready = s.still.ready by rw [still_bump]
@[simp] theorem bump_fab : (s.bump o n).fab = s.fab := show (s.bump o n).still.fab = s.still.fab by rw [still_bump]
@[simp] theorem bump_part : (s.bump o n).part = s.part := show (s.bump o n).still.part = s.still.part by rw [still_bump]
@[simp] theorem bump_media : (s.bump o n).media = s.media := show (s.bump o n).still.media = s.still.media by rw [still_bump]
@[simp] theorem bump_tow : (s.bump o n).tow = s.tow := show (s.bump o n).still.tow = s.still.tow by rw [still_bump]
@[simp] theorem bump_integ : (s.bump o n).integ = s.integ := show (s.bump o n).still.integ = s.still.integ by rw [still_bump]
@[simp] theorem bump_fld : (s.bump o n).fld = s.fld := show (s.bump o n).still.fld = s.still.fld by rw [still_bump]
@[simp] theorem bump_pwr : (s.bump o n).pwr = s.pwr := show (s.bump o n).still.pwr = s.still.pwr by rw [still_bump]
@[simp] theorem bump_thm : (s.bump o n).thm = s.thm := show (s.bump o n).still.thm = s.still.thm by rw [still_bump]
@[simp] theorem bump_boot : (s.bump o n).boot = s.boot := show (s.bump o n).still.boot = s.still.boot by rw [still_bump]
@[simp] theorem bump_sec : (s.bump o n).sec = s.sec := show (s.bump o n).still.sec = s.still.sec by rw [still_bump]
@[simp] theorem bump_mgmt : (s.bump o n).mgmt = s.mgmt := show (s.bump o n).still.mgmt = s.still.mgmt by rw [still_bump]
@[simp] theorem bump_regs : (s.bump o n).regs = s.regs := show (s.bump o n).still.regs = s.still.regs by rw [still_bump]
@[simp] theorem bump_latch : (s.bump o n).latch = s.latch := show (s.bump o n).still.latch = s.still.latch by rw [still_bump]
end bumpFields

section demandFields
variable (s : State) (v : Option (List Nat)) (a n : Nat) (w : Bool) (x : Option Nat)
@[simp] theorem demand_pending : (s.demand v a n w x).pending = s.pending := show (s.demand v a n w x).still.pending = s.still.pending by rw [still_demand]
@[simp] theorem demand_now : (s.demand v a n w x).now = s.now := show (s.demand v a n w x).still.now = s.still.now by rw [still_demand]
@[simp] theorem demand_free : (s.demand v a n w x).free = s.free := show (s.demand v a n w x).still.free = s.still.free by rw [still_demand]
@[simp] theorem demand_cl : (s.demand v a n w x).cl = s.cl := show (s.demand v a n w x).still.cl = s.still.cl by rw [still_demand]
@[simp] theorem demand_site : (s.demand v a n w x).site = s.site := show (s.demand v a n w x).still.site = s.still.site by rw [still_demand]
@[simp] theorem demand_ready : (s.demand v a n w x).ready = s.ready := show (s.demand v a n w x).still.ready = s.still.ready by rw [still_demand]
@[simp] theorem demand_fab : (s.demand v a n w x).fab = s.fab := show (s.demand v a n w x).still.fab = s.still.fab by rw [still_demand]
@[simp] theorem demand_part : (s.demand v a n w x).part = s.part := show (s.demand v a n w x).still.part = s.still.part by rw [still_demand]
@[simp] theorem demand_media : (s.demand v a n w x).media = s.media := show (s.demand v a n w x).still.media = s.still.media by rw [still_demand]
@[simp] theorem demand_tow : (s.demand v a n w x).tow = s.tow := show (s.demand v a n w x).still.tow = s.still.tow by rw [still_demand]
@[simp] theorem demand_integ : (s.demand v a n w x).integ = s.integ := show (s.demand v a n w x).still.integ = s.still.integ by rw [still_demand]
@[simp] theorem demand_fld : (s.demand v a n w x).fld = s.fld := show (s.demand v a n w x).still.fld = s.still.fld by rw [still_demand]
@[simp] theorem demand_pwr : (s.demand v a n w x).pwr = s.pwr := show (s.demand v a n w x).still.pwr = s.still.pwr by rw [still_demand]
@[simp] theorem demand_thm : (s.demand v a n w x).thm = s.thm := show (s.demand v a n w x).still.thm = s.still.thm by rw [still_demand]
@[simp] theorem demand_boot : (s.demand v a n w x).boot = s.boot := show (s.demand v a n w x).still.boot = s.still.boot by rw [still_demand]
@[simp] theorem demand_sec : (s.demand v a n w x).sec = s.sec := show (s.demand v a n w x).still.sec = s.still.sec by rw [still_demand]
@[simp] theorem demand_mgmt : (s.demand v a n w x).mgmt = s.mgmt := show (s.demand v a n w x).still.mgmt = s.still.mgmt by rw [still_demand]
@[simp] theorem demand_regs : (s.demand v a n w x).regs = s.regs := show (s.demand v a n w x).still.regs = s.still.regs by rw [still_demand]
@[simp] theorem demand_latch : (s.demand v a n w x).latch = s.latch := show (s.demand v a n w x).still.latch = s.still.latch by rw [still_demand]
end demandFields

section useCtxFields
variable (s : State) (r : Nat)
@[simp] theorem useCtx_pending : (s.useCtx r).pending = s.pending := show (s.useCtx r).still.pending = s.still.pending by rw [still_useCtx]
@[simp] theorem useCtx_now : (s.useCtx r).now = s.now := show (s.useCtx r).still.now = s.still.now by rw [still_useCtx]
@[simp] theorem useCtx_free : (s.useCtx r).free = s.free := show (s.useCtx r).still.free = s.still.free by rw [still_useCtx]
@[simp] theorem useCtx_cl : (s.useCtx r).cl = s.cl := show (s.useCtx r).still.cl = s.still.cl by rw [still_useCtx]
@[simp] theorem useCtx_site : (s.useCtx r).site = s.site := show (s.useCtx r).still.site = s.still.site by rw [still_useCtx]
@[simp] theorem useCtx_ready : (s.useCtx r).ready = s.ready := show (s.useCtx r).still.ready = s.still.ready by rw [still_useCtx]
@[simp] theorem useCtx_fab : (s.useCtx r).fab = s.fab := show (s.useCtx r).still.fab = s.still.fab by rw [still_useCtx]
@[simp] theorem useCtx_part : (s.useCtx r).part = s.part := show (s.useCtx r).still.part = s.still.part by rw [still_useCtx]
@[simp] theorem useCtx_media : (s.useCtx r).media = s.media := show (s.useCtx r).still.media = s.still.media by rw [still_useCtx]
@[simp] theorem useCtx_tow : (s.useCtx r).tow = s.tow := show (s.useCtx r).still.tow = s.still.tow by rw [still_useCtx]
@[simp] theorem useCtx_integ : (s.useCtx r).integ = s.integ := show (s.useCtx r).still.integ = s.still.integ by rw [still_useCtx]
@[simp] theorem useCtx_fld : (s.useCtx r).fld = s.fld := show (s.useCtx r).still.fld = s.still.fld by rw [still_useCtx]
@[simp] theorem useCtx_pwr : (s.useCtx r).pwr = s.pwr := show (s.useCtx r).still.pwr = s.still.pwr by rw [still_useCtx]
@[simp] theorem useCtx_thm : (s.useCtx r).thm = s.thm := show (s.useCtx r).still.thm = s.still.thm by rw [still_useCtx]
@[simp] theorem useCtx_boot : (s.useCtx r).boot = s.boot := show (s.useCtx r).still.boot = s.still.boot by rw [still_useCtx]
@[simp] theorem useCtx_sec : (s.useCtx r).sec = s.sec := show (s.useCtx r).still.sec = s.still.sec by rw [still_useCtx]
@[simp] theorem useCtx_mgmt : (s.useCtx r).mgmt = s.mgmt := show (s.useCtx r).still.mgmt = s.still.mgmt by rw [still_useCtx]
@[simp] theorem useCtx_regs : (s.useCtx r).regs = s.regs := show (s.useCtx r).still.regs = s.still.regs by rw [still_useCtx]
@[simp] theorem useCtx_latch : (s.useCtx r).latch = s.latch := show (s.useCtx r).still.latch = s.still.latch by rw [still_useCtx]
end useCtxFields

section raiseWideFields
variable (s : State) (ty : W16) (d : Nat)
@[simp] theorem raiseWide_pending : (s.raiseWide ty d).pending = s.pending := show (s.raiseWide ty d).still.pending = s.still.pending by rw [still_raiseWide]
@[simp] theorem raiseWide_now : (s.raiseWide ty d).now = s.now := show (s.raiseWide ty d).still.now = s.still.now by rw [still_raiseWide]
@[simp] theorem raiseWide_free : (s.raiseWide ty d).free = s.free := show (s.raiseWide ty d).still.free = s.still.free by rw [still_raiseWide]
@[simp] theorem raiseWide_cl : (s.raiseWide ty d).cl = s.cl := show (s.raiseWide ty d).still.cl = s.still.cl by rw [still_raiseWide]
@[simp] theorem raiseWide_site : (s.raiseWide ty d).site = s.site := show (s.raiseWide ty d).still.site = s.still.site by rw [still_raiseWide]
@[simp] theorem raiseWide_ready : (s.raiseWide ty d).ready = s.ready := show (s.raiseWide ty d).still.ready = s.still.ready by rw [still_raiseWide]
@[simp] theorem raiseWide_fab : (s.raiseWide ty d).fab = s.fab := show (s.raiseWide ty d).still.fab = s.still.fab by rw [still_raiseWide]
@[simp] theorem raiseWide_part : (s.raiseWide ty d).part = s.part := show (s.raiseWide ty d).still.part = s.still.part by rw [still_raiseWide]
@[simp] theorem raiseWide_media : (s.raiseWide ty d).media = s.media := show (s.raiseWide ty d).still.media = s.still.media by rw [still_raiseWide]
@[simp] theorem raiseWide_tow : (s.raiseWide ty d).tow = s.tow := show (s.raiseWide ty d).still.tow = s.still.tow by rw [still_raiseWide]
@[simp] theorem raiseWide_integ : (s.raiseWide ty d).integ = s.integ := show (s.raiseWide ty d).still.integ = s.still.integ by rw [still_raiseWide]
@[simp] theorem raiseWide_fld : (s.raiseWide ty d).fld = s.fld := show (s.raiseWide ty d).still.fld = s.still.fld by rw [still_raiseWide]
@[simp] theorem raiseWide_pwr : (s.raiseWide ty d).pwr = s.pwr := show (s.raiseWide ty d).still.pwr = s.still.pwr by rw [still_raiseWide]
@[simp] theorem raiseWide_thm : (s.raiseWide ty d).thm = s.thm := show (s.raiseWide ty d).still.thm = s.still.thm by rw [still_raiseWide]
@[simp] theorem raiseWide_boot : (s.raiseWide ty d).boot = s.boot := show (s.raiseWide ty d).still.boot = s.still.boot by rw [still_raiseWide]
@[simp] theorem raiseWide_sec : (s.raiseWide ty d).sec = s.sec := show (s.raiseWide ty d).still.sec = s.still.sec by rw [still_raiseWide]
@[simp] theorem raiseWide_mgmt : (s.raiseWide ty d).mgmt = s.mgmt := show (s.raiseWide ty d).still.mgmt = s.still.mgmt by rw [still_raiseWide]
@[simp] theorem raiseWide_regs : (s.raiseWide ty d).regs = s.regs := show (s.raiseWide ty d).still.regs = s.still.regs by rw [still_raiseWide]
@[simp] theorem raiseWide_latch : (s.raiseWide ty d).latch = s.latch := show (s.raiseWide ty d).still.latch = s.still.latch by rw [still_raiseWide]
end raiseWideFields

section postFields
variable (s : State) (f r : Nat) (e : Event)
@[simp] theorem post_pending : (s.post f r e).pending = s.pending := show (s.post f r e).still.pending = s.still.pending by rw [still_post]
@[simp] theorem post_now : (s.post f r e).now = s.now := show (s.post f r e).still.now = s.still.now by rw [still_post]
@[simp] theorem post_free : (s.post f r e).free = s.free := show (s.post f r e).still.free = s.still.free by rw [still_post]
@[simp] theorem post_cl : (s.post f r e).cl = s.cl := show (s.post f r e).still.cl = s.still.cl by rw [still_post]
@[simp] theorem post_site : (s.post f r e).site = s.site := show (s.post f r e).still.site = s.still.site by rw [still_post]
@[simp] theorem post_ready : (s.post f r e).ready = s.ready := show (s.post f r e).still.ready = s.still.ready by rw [still_post]
@[simp] theorem post_fab : (s.post f r e).fab = s.fab := show (s.post f r e).still.fab = s.still.fab by rw [still_post]
@[simp] theorem post_part : (s.post f r e).part = s.part := show (s.post f r e).still.part = s.still.part by rw [still_post]
@[simp] theorem post_media : (s.post f r e).media = s.media := show (s.post f r e).still.media = s.still.media by rw [still_post]
@[simp] theorem post_tow : (s.post f r e).tow = s.tow := show (s.post f r e).still.tow = s.still.tow by rw [still_post]
@[simp] theorem post_integ : (s.post f r e).integ = s.integ := show (s.post f r e).still.integ = s.still.integ by rw [still_post]
@[simp] theorem post_fld : (s.post f r e).fld = s.fld := show (s.post f r e).still.fld = s.still.fld by rw [still_post]
@[simp] theorem post_pwr : (s.post f r e).pwr = s.pwr := show (s.post f r e).still.pwr = s.still.pwr by rw [still_post]
@[simp] theorem post_thm : (s.post f r e).thm = s.thm := show (s.post f r e).still.thm = s.still.thm by rw [still_post]
@[simp] theorem post_boot : (s.post f r e).boot = s.boot := show (s.post f r e).still.boot = s.still.boot by rw [still_post]
@[simp] theorem post_sec : (s.post f r e).sec = s.sec := show (s.post f r e).still.sec = s.still.sec by rw [still_post]
@[simp] theorem post_mgmt : (s.post f r e).mgmt = s.mgmt := show (s.post f r e).still.mgmt = s.still.mgmt by rw [still_post]
@[simp] theorem post_regs : (s.post f r e).regs = s.regs := show (s.post f r e).still.regs = s.still.regs by rw [still_post]
@[simp] theorem post_latch : (s.post f r e).latch = s.latch := show (s.post f r e).still.latch = s.still.latch by rw [still_post]
end postFields

section memUEsFields
variable (s : State) (x : Nat) (l : List Nat)
@[simp] theorem memUEs_pending : (s.memUEs x l).pending = s.pending := show (s.memUEs x l).still.pending = s.still.pending by rw [still_memUEs]
@[simp] theorem memUEs_now : (s.memUEs x l).now = s.now := show (s.memUEs x l).still.now = s.still.now by rw [still_memUEs]
@[simp] theorem memUEs_free : (s.memUEs x l).free = s.free := show (s.memUEs x l).still.free = s.still.free by rw [still_memUEs]
@[simp] theorem memUEs_cl : (s.memUEs x l).cl = s.cl := show (s.memUEs x l).still.cl = s.still.cl by rw [still_memUEs]
@[simp] theorem memUEs_site : (s.memUEs x l).site = s.site := show (s.memUEs x l).still.site = s.still.site by rw [still_memUEs]
@[simp] theorem memUEs_ready : (s.memUEs x l).ready = s.ready := show (s.memUEs x l).still.ready = s.still.ready by rw [still_memUEs]
@[simp] theorem memUEs_fab : (s.memUEs x l).fab = s.fab := show (s.memUEs x l).still.fab = s.still.fab by rw [still_memUEs]
@[simp] theorem memUEs_part : (s.memUEs x l).part = s.part := show (s.memUEs x l).still.part = s.still.part by rw [still_memUEs]
@[simp] theorem memUEs_media : (s.memUEs x l).media = s.media := show (s.memUEs x l).still.media = s.still.media by rw [still_memUEs]
@[simp] theorem memUEs_tow : (s.memUEs x l).tow = s.tow := show (s.memUEs x l).still.tow = s.still.tow by rw [still_memUEs]
@[simp] theorem memUEs_integ : (s.memUEs x l).integ = s.integ := show (s.memUEs x l).still.integ = s.still.integ by rw [still_memUEs]
@[simp] theorem memUEs_fld : (s.memUEs x l).fld = s.fld := show (s.memUEs x l).still.fld = s.still.fld by rw [still_memUEs]
@[simp] theorem memUEs_pwr : (s.memUEs x l).pwr = s.pwr := show (s.memUEs x l).still.pwr = s.still.pwr by rw [still_memUEs]
@[simp] theorem memUEs_thm : (s.memUEs x l).thm = s.thm := show (s.memUEs x l).still.thm = s.still.thm by rw [still_memUEs]
@[simp] theorem memUEs_boot : (s.memUEs x l).boot = s.boot := show (s.memUEs x l).still.boot = s.still.boot by rw [still_memUEs]
@[simp] theorem memUEs_sec : (s.memUEs x l).sec = s.sec := show (s.memUEs x l).still.sec = s.still.sec by rw [still_memUEs]
@[simp] theorem memUEs_mgmt : (s.memUEs x l).mgmt = s.mgmt := show (s.memUEs x l).still.mgmt = s.still.mgmt by rw [still_memUEs]
@[simp] theorem memUEs_regs : (s.memUEs x l).regs = s.regs := show (s.memUEs x l).still.regs = s.still.regs by rw [still_memUEs]
@[simp] theorem memUEs_latch : (s.memUEs x l).latch = s.latch := show (s.memUEs x l).still.latch = s.still.latch by rw [still_memUEs]
end memUEsFields

section ringErrFields
variable (s : State) (r : Nat) (c : W8)
@[simp] theorem ringErr_pending : (s.ringErr r c).pending = s.pending := show (s.ringErr r c).still.pending = s.still.pending by rw [still_ringErr]
@[simp] theorem ringErr_now : (s.ringErr r c).now = s.now := show (s.ringErr r c).still.now = s.still.now by rw [still_ringErr]
@[simp] theorem ringErr_free : (s.ringErr r c).free = s.free := show (s.ringErr r c).still.free = s.still.free by rw [still_ringErr]
@[simp] theorem ringErr_cl : (s.ringErr r c).cl = s.cl := show (s.ringErr r c).still.cl = s.still.cl by rw [still_ringErr]
@[simp] theorem ringErr_site : (s.ringErr r c).site = s.site := show (s.ringErr r c).still.site = s.still.site by rw [still_ringErr]
@[simp] theorem ringErr_ready : (s.ringErr r c).ready = s.ready := show (s.ringErr r c).still.ready = s.still.ready by rw [still_ringErr]
@[simp] theorem ringErr_fab : (s.ringErr r c).fab = s.fab := show (s.ringErr r c).still.fab = s.still.fab by rw [still_ringErr]
@[simp] theorem ringErr_part : (s.ringErr r c).part = s.part := show (s.ringErr r c).still.part = s.still.part by rw [still_ringErr]
@[simp] theorem ringErr_media : (s.ringErr r c).media = s.media := show (s.ringErr r c).still.media = s.still.media by rw [still_ringErr]
@[simp] theorem ringErr_tow : (s.ringErr r c).tow = s.tow := show (s.ringErr r c).still.tow = s.still.tow by rw [still_ringErr]
@[simp] theorem ringErr_integ : (s.ringErr r c).integ = s.integ := show (s.ringErr r c).still.integ = s.still.integ by rw [still_ringErr]
@[simp] theorem ringErr_fld : (s.ringErr r c).fld = s.fld := show (s.ringErr r c).still.fld = s.still.fld by rw [still_ringErr]
@[simp] theorem ringErr_pwr : (s.ringErr r c).pwr = s.pwr := show (s.ringErr r c).still.pwr = s.still.pwr by rw [still_ringErr]
@[simp] theorem ringErr_thm : (s.ringErr r c).thm = s.thm := show (s.ringErr r c).still.thm = s.still.thm by rw [still_ringErr]
@[simp] theorem ringErr_boot : (s.ringErr r c).boot = s.boot := show (s.ringErr r c).still.boot = s.still.boot by rw [still_ringErr]
@[simp] theorem ringErr_sec : (s.ringErr r c).sec = s.sec := show (s.ringErr r c).still.sec = s.still.sec by rw [still_ringErr]
@[simp] theorem ringErr_mgmt : (s.ringErr r c).mgmt = s.mgmt := show (s.ringErr r c).still.mgmt = s.still.mgmt by rw [still_ringErr]
@[simp] theorem ringErr_regs : (s.ringErr r c).regs = s.regs := show (s.ringErr r c).still.regs = s.still.regs by rw [still_ringErr]
@[simp] theorem ringErr_latch : (s.ringErr r c).latch = s.latch := show (s.ringErr r c).still.latch = s.still.latch by rw [still_ringErr]
end ringErrFields

section devStoreFields
variable (s : State) (x a : Nat) (bs : List W8)
@[simp] theorem devStore_pending : (s.devStore x a bs).pending = s.pending := show (s.devStore x a bs).still.pending = s.still.pending by rw [still_devStore]
@[simp] theorem devStore_now : (s.devStore x a bs).now = s.now := show (s.devStore x a bs).still.now = s.still.now by rw [still_devStore]
@[simp] theorem devStore_free : (s.devStore x a bs).free = s.free := show (s.devStore x a bs).still.free = s.still.free by rw [still_devStore]
@[simp] theorem devStore_cl : (s.devStore x a bs).cl = s.cl := show (s.devStore x a bs).still.cl = s.still.cl by rw [still_devStore]
@[simp] theorem devStore_site : (s.devStore x a bs).site = s.site := show (s.devStore x a bs).still.site = s.still.site by rw [still_devStore]
@[simp] theorem devStore_ready : (s.devStore x a bs).ready = s.ready := show (s.devStore x a bs).still.ready = s.still.ready by rw [still_devStore]
@[simp] theorem devStore_fab : (s.devStore x a bs).fab = s.fab := show (s.devStore x a bs).still.fab = s.still.fab by rw [still_devStore]
@[simp] theorem devStore_part : (s.devStore x a bs).part = s.part := show (s.devStore x a bs).still.part = s.still.part by rw [still_devStore]
@[simp] theorem devStore_media : (s.devStore x a bs).media = s.media := show (s.devStore x a bs).still.media = s.still.media by rw [still_devStore]
@[simp] theorem devStore_tow : (s.devStore x a bs).tow = s.tow := show (s.devStore x a bs).still.tow = s.still.tow by rw [still_devStore]
@[simp] theorem devStore_integ : (s.devStore x a bs).integ = s.integ := show (s.devStore x a bs).still.integ = s.still.integ by rw [still_devStore]
@[simp] theorem devStore_fld : (s.devStore x a bs).fld = s.fld := show (s.devStore x a bs).still.fld = s.still.fld by rw [still_devStore]
@[simp] theorem devStore_pwr : (s.devStore x a bs).pwr = s.pwr := show (s.devStore x a bs).still.pwr = s.still.pwr by rw [still_devStore]
@[simp] theorem devStore_thm : (s.devStore x a bs).thm = s.thm := show (s.devStore x a bs).still.thm = s.still.thm by rw [still_devStore]
@[simp] theorem devStore_boot : (s.devStore x a bs).boot = s.boot := show (s.devStore x a bs).still.boot = s.still.boot by rw [still_devStore]
@[simp] theorem devStore_sec : (s.devStore x a bs).sec = s.sec := show (s.devStore x a bs).still.sec = s.still.sec by rw [still_devStore]
@[simp] theorem devStore_mgmt : (s.devStore x a bs).mgmt = s.mgmt := show (s.devStore x a bs).still.mgmt = s.still.mgmt by rw [still_devStore]
@[simp] theorem devStore_regs : (s.devStore x a bs).regs = s.regs := show (s.devStore x a bs).still.regs = s.still.regs by rw [still_devStore]
@[simp] theorem devStore_latch : (s.devStore x a bs).latch = s.latch := show (s.devStore x a bs).still.latch = s.still.latch by rw [still_devStore]
end devStoreFields

end Sys2Proof.Machine
end

