-- ==== Sys2Proof/Laws/Core.lean ====
section
/-! SUPPORT. Issuing an instruction of a core: when it takes its effect, when it faults and when it waits; and a core's data memory. -/
namespace Sys2Proof.Machine

/-- An instruction that nothing holds takes its effect (R92, R93, R153). -/
theorem issue_runs (s : State) (r : CoreRef) (w : W32) (hz : Bool) (fs : List (Bool × CoreFault)) (st : Bool) (eff : State → State)
    (h1 : s.mayIssue r w = true) (h2 : (s.core r).imemBad.contains (s.core r).pc.toNat = false) (h3 : hz = false)
    (h4 : firstFault fs = none) (h5 : st = false) : s.issue r w hz fs st eff = (eff (s.fetched r)).progress (Site.idx r.site) := by
  simp only [State.issue, h1, h2, h3, h4, h5]; rfl

/-- An instruction that meets a fault raises it (R114). -/
theorem issue_faults (s : State) (r : CoreRef) (w : W32) (hz : Bool) (fs : List (Bool × CoreFault)) (st : Bool) (eff : State → State)
    (x : CoreFault) (h1 : s.mayIssue r w = true) (h2 : (s.core r).imemBad.contains (s.core r).pc.toNat = false) (h3 : hz = false)
    (h4 : firstFault fs = some x) : s.issue r w hz fs st eff = (s.fetched r).coreFault r x := by
  simp only [State.issue, h1, h2, h3, h4]; rfl

/-- An instruction that stalls has no effect (R92). -/
theorem issue_waits (s : State) (r : CoreRef) (w : W32) (hz : Bool) (fs : List (Bool × CoreFault)) (eff : State → State)
    (h2 : (s.core r).imemBad.contains (s.core r).pc.toNat = false) (h4 : firstFault fs = none) :
    s.issue r w hz fs true eff = s := by
  simp only [State.issue, h2, h4]
  repeat' split
  all_goals simp_all

/-- A word that does not stand at the program counter has no effect. -/
theorem issue_idle (s : State) (r : CoreRef) (w : W32) (hz : Bool) (fs : List (Bool × CoreFault)) (st : Bool) (eff : State → State)
    (h1 : s.mayIssue r w = false) : s.issue r w hz fs st eff = s := by
  simp only [State.issue, h1]; rfl

/-- The bytes of the two data memories of a core (R88). -/
theorem inData_iff (a n : Nat) : inData a n = true ↔ a + n ≤ 0x180000 ∨ (0x200000 ≤ a ∧ a + n ≤ 0x210000) := by
  unfold inData inSp inLmem spBytes lmemBase
  rw [Bool.or_eq_true, Bool.and_eq_true, decide_eq_true_iff, decide_eq_true_iff, decide_eq_true_iff]

@[simp] theorem touch_sp (c : Cluster) (t : Nat) : (c.touch t).sp = c.sp := rfl

theorem touch_fold (l : List Nat) (c : Cluster) : (l.foldl Cluster.touch c).sp = c.sp ∧ (l.foldl Cluster.touch c).core = c.core := by
  induction l generalizing c with
  | nil => exact ⟨rfl, rfl⟩
  | cons x l ih => exact ih (c.touch x)

/-- The scratchpad after a write (R122). -/
theorem spWrite_sp (c : Cluster) (a : Nat) (bs : List W8) : (c.spWrite a bs).sp = c.sp.write a bs ∧ (c.spWrite a bs).core = c.core := by
  unfold Cluster.spWrite
  split
  · rename_i h; subst h; exact ⟨rfl, rfl⟩
  · exact touch_fold _ _

/-- Nothing is reserved from a core that touches nothing (R131). -/
@[simp] theorem Cluster.reservedFrom_nil (c : Cluster) (n : Nat) : c.reservedFrom n [] = false := by
  unfold Cluster.reservedFrom
  split
  · rfl
  · simp only [List.any_nil, Bool.and_false]
    exact List.any_eq_false.2 (fun e _ => by split <;> simp)

/-- A core that asks for a free tile that nobody waits for has it (R131). -/
theorem Resv.ask_free (v : Resv) (n : Nat) (h : v.holder = none) (hw : v.waiting = []) : (v.ask n).holder = some n := by
  simp [Resv.ask, h, hw]

/-- A reservation that another core holds stays with it, and the core that asks waits (R131). -/
theorem Resv.ask_held (v : Resv) (n m : Nat) (h : v.holder = some m) (hm : m ≠ n) :
    (v.ask n).holder = some m ∧ n ∈ (v.ask n).waiting := by
  have h1 : (v.holder == some n) = false := by simp [h, hm]
  unfold Resv.ask
  rw [h1]
  cases hc : v.waiting.contains n with
  | true => simp [h]; simpa using hc
  | false => simp [h]

end Sys2Proof.Machine
end

