-- ==== Sys2Proof/Laws/Key.lean ====
section
/-! SUPPORT. What no command but a few changes: the queue, the uptime, the ring ranges, the revoked slots, RESERVE and the two locks
(R303, R365, R394, R417, R484, R505). One lemma for each operation of the machine. -/
namespace Sys2Proof.Machine
set_option linter.unusedSimpArgs false

/-- The part of the state that only a few commands change: the queue, the uptime, the HIF_FUNC entries, REVOKED, RESERVE and the two
locks. -/
structure Key where
  pending : List Instr
  now : Nat
  func : Tab FuncEntry
  revoked : BitVec 4
  reserve : Nat
  mlock : Bool
  tlock : Bool

/-- The key of a state. -/
def State.key (s : State) : Key :=
  { pending := s.pending, now := s.now, func := s.hst.func, revoked := s.sec.revoked, reserve := s.boot.map.reserve,
    mlock := s.media.lock, tlock := s.tow.lock }

/-- A next state has the key `k`. -/
def keeps (r : Res) (k : Key) : Prop := match r with | .next t => t.key = k | _ => True


@[simp] theorem keeps_next (t : State) (k : Key) : keeps (.next t) k = (t.key = k) := rfl
@[simp] theorem keeps_fault (r : Fault) (k : Key) : keeps (.fault r) k = True := rfl
@[simp] theorem keeps_refused (r : Refusal) (k : Key) : keeps (.refused r) k = True := rfl
@[simp] theorem keeps_ite (c : Prop) [Decidable c] (a b : Res) (k : Key) : keeps (if c then a else b) k = if c then keeps a k else keeps b k := by
  split <;> rfl
@[simp] theorem key_ite (c : Prop) [Decidable c] (a b : State) : (if c then a else b).key = if c then a.key else b.key := by
  split <;> rfl
theorem key_mk (a1 a2 a3 a4 a5 a6 a7 a8 a9 a10 a11 a12 a13 a14 a15 a16 a17 a18 a19 a20 a21 a22 a23 a24 a25) :
    (State.mk a1 a2 a3 a4 a5 a6 a7 a8 a9 a10 a11 a12 a13 a14 a15 a16 a17 a18 a19 a20 a21 a22 a23 a24 a25).key
      = { pending := a1, now := a2, func := a9.func, revoked := a18.revoked, reserve := a17.map.reserve, mlock := a11.lock, tlock := a12.lock } :=
  rfl
theorem key_pending (s : State) : s.pending = s.key.pending := rfl
theorem key_now (s : State) : s.now = s.key.now := rfl
theorem key_func (s : State) : s.hst.func = s.key.func := rfl
theorem key_revoked (s : State) : s.sec.revoked = s.key.revoked := rfl
theorem key_reserve (s : State) : s.boot.map.reserve = s.key.reserve := rfl
theorem key_mlock (s : State) : s.media.lock = s.key.mlock := rfl
theorem key_tlock (s : State) : s.tow.lock = s.key.tlock := rfl

/-- What leaves everything but memory, contexts, counters and messages leaves the key. -/
theorem key_of_still {s t : State} (h : t.still = s.still) : t.key = s.key := show t.still.key = s.still.key from congrArg State.key h

@[simp] theorem key_State_interrupt (s : State) (r f : Nat) (b : Bool) : (s.interrupt r f b).key = s.key := key_of_still (still_interrupt s r f b)
@[simp] theorem key_State_sendMsix (s : State) (f v : Nat) : (s.sendMsix f v).key = s.key := key_of_still (still_sendMsix s f v)
@[simp] theorem key_State_writeBack (s : State) (l : List Nat) : (s.writeBack l).key = s.key := key_of_still (still_writeBack s l)
@[simp] theorem key_State_useCtx (s : State) (r : Nat) : (s.useCtx r).key = s.key := key_of_still (still_useCtx s r)
@[simp] theorem key_State_devWrite (s : State) (a : Nat) (bs : List W8) : (s.devWrite a bs).key = s.key := key_of_still (still_devWrite s a bs)
@[simp] theorem key_State_countAccess (s : State) (p n : Nat) (x : Option Nat) : (s.countAccess p n x).key = s.key := key_of_still (still_countAccess s p n x)
@[simp] theorem key_State_touchLine (s : State) (k a : Nat) (w b : Bool) : (s.touchLine k a w b).key = s.key := key_of_still (still_touchLine s k a w b)
@[simp] theorem key_State_demand (s : State) (v : Option (List Nat)) (a n : Nat) (w : Bool) (x : Option Nat) : (s.demand v a n w x).key = s.key := key_of_still (still_demand s v a n w x)
@[simp] theorem key_State_post (s : State) (f r : Nat) (e : Event) : (s.post f r e).key = s.key := key_of_still (still_post s f r e)
@[simp] theorem key_State_raise (s : State) (x : Option (Nat × Nat)) (w : Bool) (ty : W16) (d : Nat) : (s.raise x w ty d).key = s.key := key_of_still (still_raise s x w ty d)
@[simp] theorem key_State_raiseWide (s : State) (ty : W16) (d : Nat) : (s.raiseWide ty d).key = s.key := key_of_still (still_raiseWide s ty d)
@[simp] theorem key_State_bump (s : State) (o n : Nat) : (s.bump o n).key = s.key := key_of_still (still_bump s o n)
@[simp] theorem key_State_memUE (s : State) (x l : Nat) : (s.memUE x l).key = s.key := key_of_still (still_memUE s x l)
@[simp] theorem key_State_memUEs (s : State) (x : Nat) (l : List Nat) : (s.memUEs x l).key = s.key := key_of_still (still_memUEs s x l)
@[simp] theorem key_State_ringErr (s : State) (r : Nat) (c : W8) : (s.ringErr r c).key = s.key := key_of_still (still_ringErr s r c)
@[simp] theorem key_State_devStore (s : State) (x a : Nat) (bs : List W8) : (s.devStore x a bs).key = s.key := key_of_still (still_devStore s x a bs)
@[simp] theorem key_recordWith (s : State) (f r : Nat) (bytes : Nat → List W8) (b : Bool) : (s.recordWith State.post f r bytes b).key = s.key :=
  key_of_still (still_recordWith State.post still_post s f r bytes b)

@[simp] theorem key_State_modClu (s : State) (i : Nat) (f : Cluster → Cluster) : (State.modClu s i f).key = s.key := by
  rfl

@[simp] theorem key_State_modCore (s : State) (r : CoreRef) (f : Core → Core) : (State.modCore s r f).key = s.key := by
  rfl

@[simp] theorem key_State_modPart (s : State) (f : Nat) (g : Part → Part) : (State.modPart s f g).key = s.key := by
  rfl

@[simp] theorem key_State_modCfg (s : State) (f c : Nat) (g : Cfg → Cfg) : (State.modCfg s f c g).key = s.key := by
  rfl

@[simp] theorem key_State_modRing (s : State) (r : Nat) (g : Ring → Ring) : (State.modRing s r g).key = s.key := by
  rfl

@[simp] theorem key_State_modPort (s : State) (h : Nat) (g : Port → Port) : (State.modPort s h g).key = s.key := by
  rfl

@[simp] theorem key_State_modRwin (s : State) (f : Nat) (g : RingWin → RingWin) : (State.modRwin s f g).key = s.key := by
  rfl

@[simp] theorem key_State_modDescs (s : State) (g : List Desc → List Desc) : (State.modDescs s g).key = s.key := by
  rfl

@[simp] theorem key_State_modPage (s : State) (p : Nat) (g : Page → Page) : (State.modPage s p g).key = s.key := by
  rfl

@[simp] theorem key_State_modGroup (s : State) (g : Nat) (h : Group → Group) : (State.modGroup s g h).key = s.key := by
  rfl

@[simp] theorem key_State_modCtl (s : State) (n : Nat) (g : Ctl → Ctl) : (State.modCtl s n g).key = s.key := by
  rfl

@[simp] theorem key_State_modMem (s : State) (g : MemSys → MemSys) : (State.modMem s g).key = s.key := by
  rfl

@[simp] theorem key_State_modFab (s : State) (g : Fabric → Fabric) : (State.modFab s g).key = s.key := by
  rfl

@[simp] theorem key_State_modLink (s : State) (k : Nat) (g : Link → Link) : (State.modLink s k g).key = s.key := by
  rfl

@[simp] theorem key_State_setSite (s : State) (i : Nat) (v : SiteState) : (State.setSite s i v).key = s.key := by
  rfl

@[simp] theorem key_State_modField (s : State) (i : Nat) (g : FieldSt → FieldSt) : (State.modField s i g).key = s.key := by
  rfl

@[simp] theorem key_State_modMport (s : State) (p : Nat) (g : MPort → MPort) : (State.modMport s p g).key = s.key := by
  rfl

@[simp] theorem key_State_modCtx (s : State) (c : Nat) (g : Ctx → Ctx) : (State.modCtx s c g).key = s.key := by
  rfl

@[simp] theorem key_State_modBound (s : State) (c : Nat) (g : Binding → Binding) : (State.modBound s c g).key = s.key := by
  rfl

@[simp] theorem key_State_modTport (s : State) (p : Nat) (g : TPort → TPort) : (State.modTport s p g).key = s.key := by
  rfl

@[simp] theorem key_State_modTgroup (s : State) (g : Nat) (h : TGroup → TGroup) : (State.modTgroup s g h).key = s.key := by
  rfl

@[simp] theorem key_State_emit (s : State) (o : Out) : (State.emit s o).key = s.key := by
  rfl

@[simp] theorem key_takeFree (s : State) : s.takeFree.2.key = s.key := rfl

@[simp] theorem key_each {α : Type} (s : State) (l : List α) (f : State → α → State) (hf : ∀ t a, (f t a).key = t.key) :
    (s.each l f).key = s.key := by
  induction l generalizing s with
  | nil => rfl
  | cons x l ih => exact (ih (f s x)).trans (hf s x)

@[simp] theorem key_foldl {α : Type} (s : State) (l : List α) (f : State → α → State) (hf : ∀ t a, (f t a).key = t.key) :
    (l.foldl f s).key = s.key := key_each s l f hf

@[simp] theorem key_State_setReg (s : State) (off : Nat) (v : W32) : (State.setReg s off v).key = s.key := by
  simp [State.setReg, key_mk, key_pending, key_now, key_func, key_revoked, key_reserve, key_mlock, key_tlock]

@[simp] theorem key_State_setCtr (s : State) (off : Nat) (c : Counter) : (State.setCtr s off c).key = s.key := by
  simp [State.setCtr, key_mk, key_pending, key_now, key_func, key_revoked, key_reserve, key_mlock, key_tlock]

@[simp] theorem key_State_evRoomBack (s : State) (f r : Nat) : (State.evRoomBack s f r).key = s.key := by
  simp [State.evRoomBack]

@[simp] theorem key_State_modDesc (s : State) (r : Nat) (i : W32) (g : Desc → Desc) : (State.modDesc s r i g).key = s.key := by
  simp [State.modDesc]

@[simp] theorem key_State_haltCores (s : State) (sites : List Nat) : (State.haltCores s sites).key = s.key := by
  simp [State.haltCores]

@[simp] theorem key_State_dropDesc (s : State) (r : Nat) (i : W32) : (State.dropDesc s r i).key = s.key := by
  simp [State.dropDesc]

@[simp] theorem key_State_ctxError (s : State) (r : Nat) : (State.ctxError s r).key = s.key := by
  unfold State.ctxError
  repeat' (first
    | (simp; done) | (simp [key_mk, key_pending, key_now, key_func, key_revoked, key_reserve, key_mlock, key_tlock]; done)
    | (intro _) | (split) | (refine (key_each _ _ _ ?_).trans ?_) | (refine (key_foldl _ _ _ ?_).trans ?_) | (simp) | (dsimp only))

@[simp] theorem key_completeDesc (s : State) (r : Nat) (i : W32) (p : Report) : (s.completeDesc r i p).key = s.key := by
  unfold State.completeDesc
  repeat' (first | (simp; done) | split | dsimp only)

@[simp] theorem key_State_frameReport (s : State) (c n : Nat) (st : W16) (flags : BitVec 4) (reason elapsed : Nat) : (State.frameReport s c n st flags reason elapsed).key = s.key := by
  unfold State.frameReport
  repeat' (first
    | (simp; done) | (simp [key_mk, key_pending, key_now, key_func, key_revoked, key_reserve, key_mlock, key_tlock]; done)
    | (intro _) | (split) | (refine (key_each _ _ _ ?_).trans ?_) | (refine (key_foldl _ _ _ ?_).trans ?_) | (simp) | (dsimp only))

@[simp] theorem key_State_runReport (s : State) (c n : Nat) (p : Report) (d : Int) : (State.runReport s c n p d).key = s.key := by
  unfold State.runReport
  repeat' (first
    | (simp; done) | (simp [key_mk, key_pending, key_now, key_func, key_revoked, key_reserve, key_mlock, key_tlock]; done)
    | (intro _) | (split) | (refine (key_each _ _ _ ?_).trans ?_) | (refine (key_foldl _ _ _ ?_).trans ?_) | (simp) | (dsimp only))

@[simp] theorem key_State_endFrameRun (s : State) (c : Nat) (p : Report) : (State.endFrameRun s c p).key = s.key := by
  unfold State.endFrameRun
  repeat' (first
    | (simp; done) | (simp [key_mk, key_pending, key_now, key_func, key_revoked, key_reserve, key_mlock, key_tlock]; done)
    | (intro _) | (split) | (refine (key_each _ _ _ ?_).trans ?_) | (refine (key_foldl _ _ _ ?_).trans ?_) | (simp) | (dsimp only))

@[simp] theorem key_State_markLost (s : State) (f : Nat) : (State.markLost s f).key = s.key := by
  simp [State.markLost, key_mk, key_pending, key_now, key_func, key_revoked, key_reserve, key_mlock, key_tlock]

@[simp] theorem key_State_loseStep (s : State) (g : Nat) (step : W32) : (State.loseStep s g step).key = s.key := by
  simp [State.loseStep]

@[simp] theorem key_State_closeLaunch (s : State) (r : Nat) (i : W32) (p : Report) (writes : List Nat) : (State.closeLaunch s r i p writes).key = s.key := by
  simp [State.closeLaunch]

@[simp] theorem key_State_settleLaunches (s : State) : (State.settleLaunches s).key = s.key := by
  unfold State.settleLaunches
  repeat' (first
    | (simp; done) | (simp [key_mk, key_pending, key_now, key_func, key_revoked, key_reserve, key_mlock, key_tlock]; done)
    | (intro _) | (split) | (refine (key_each _ _ _ ?_).trans ?_) | (refine (key_foldl _ _ _ ?_).trans ?_) | (simp) | (dsimp only))

@[simp] theorem key_State_finishRun (s : State) (f c : Nat) (p : Report) : (State.finishRun s f c p).key = s.key := by
  unfold State.finishRun
  repeat' split
  all_goals simp

@[simp] theorem key_State_haltOne (s : State) (f c : Nat) (p : Report) : (State.haltOne s f c p).key = s.key := by
  simp [State.haltOne]

@[simp] theorem key_State_haltOthers (s : State) (f : Nat) : (State.haltOthers s f).key = s.key := by
  simp [State.haltOthers]

@[simp] theorem key_State_finishDesc (s : State) (r : Nat) (i : W32) (p : Report) : (State.finishDesc s r i p).key = s.key := by
  unfold State.finishDesc
  repeat' split
  all_goals simp

@[simp] theorem key_State_haltRun (s : State) (f c : Nat) (p : Report) : (State.haltRun s f c p).key = s.key := by
  unfold State.haltRun
  repeat' split
  all_goals simp

@[simp] theorem key_State_haltClusterRun (s : State) (i : Nat) (p : Report) : (State.haltClusterRun s i p).key = s.key := by
  unfold State.haltClusterRun
  repeat' split
  all_goals simp

@[simp] theorem key_State_coreFaultAt (s : State) (r : CoreRef) (pc : BitVec 12) (x : CoreFault) : (State.coreFaultAt s r pc x).key = s.key := by
  simp [State.coreFaultAt]

@[simp] theorem key_State_coreFault (s : State) (r : CoreRef) (x : CoreFault) : (State.coreFault s r x).key = s.key := by
  simp [State.coreFault]

@[simp] theorem key_State_xferFail (s : State) (i n op cause : Nat) : (State.xferFail s i n op cause).key = s.key := by
  simp [State.xferFail]

@[simp] theorem key_State_correctRead (s : State) (i n a len : Nat) : (State.correctRead s i n a len).key = s.key := by
  unfold State.correctRead
  repeat' (first
    | (simp; done) | (simp [key_mk, key_pending, key_now, key_func, key_revoked, key_reserve, key_mlock, key_tlock]; done)
    | (intro _) | (split) | (refine (key_each _ _ _ ?_).trans ?_) | (refine (key_foldl _ _ _ ?_).trans ?_) | (simp) | (dsimp only))

@[simp] theorem key_State_progress (s : State) (i : Nat) : (State.progress s i).key = s.key := by
  simp [State.progress]

@[simp] theorem key_State_fetched (s : State) (r : CoreRef) : (State.fetched s r).key = s.key := by
  simp [State.fetched]

@[simp] theorem key_State_issue (s : State) (r : CoreRef) (w : W32) (hazard : Bool) (faults : List (Bool × CoreFault)) (stall : Bool)
    (eff : State → State) (heff : ∀ t, (eff t).key = t.key) : (State.issue s r w hazard faults stall eff).key = s.key := by
  unfold State.issue
  split
  · rfl
  · split
    · simp
    · split
      · rfl
      · split
        · simp
        · split
          · rfl
          · simp [heff]

@[simp] theorem key_State_scalar (s : State) (r : CoreRef) (w : W32) (f : Core → Core) : (State.scalar s r w f).key = s.key := by
  simp [State.scalar]

@[simp] theorem key_State_countChecked (s : State) (fld : Nat) : (State.countChecked s fld).key = s.key := by
  simp [State.countChecked, key_mk, key_pending, key_now, key_func, key_revoked, key_reserve, key_mlock, key_tlock]

@[simp] theorem key_State_capture (s : State) (i n : Nat) (pc : BitVec 12) (operands orig : List W8) : (State.capture s i n pc operands orig).key = s.key := by
  simp [State.capture]

@[simp] theorem key_State_countFlight (s : State) (p : Packet) (add : Bool) : (State.countFlight s p add).key = s.key := by
  simp [State.countFlight]

@[simp] theorem key_State_removePacket (s : State) (p : Packet) : (State.removePacket s p).key = s.key := by
  simp [State.removePacket]

@[simp] theorem key_State_movePacket (s : State) (p q : Packet) : (State.movePacket s p q).key = s.key := by
  simp [State.movePacket]

@[simp] theorem key_State_sendWire (s : State) (p : Packet) (j : Nat) (d : Dir) (prev : Option Dir) : (State.sendWire s p j d prev).key = s.key := by
  simp [State.sendWire]

@[simp] theorem key_State_unwire (s : State) (k : Nat) : (State.unwire s k).key = s.key := by
  simp [State.unwire]

@[simp] theorem key_State_loseLink (s : State) (k : Nat) (f : Link → Link) : (State.loseLink s k f).key = s.key := by
  simp [State.loseLink]

@[simp] theorem key_State_enterMesh (s : State) (p : Packet) : (State.enterMesh s p).key = s.key := by
  simp [State.enterMesh]

@[simp] theorem key_State_settlePacket (s : State) (p : Packet) : (State.settlePacket s p).key = s.key := by
  unfold State.settlePacket
  repeat' split
  all_goals simp

@[simp] theorem key_State_letInOne (s : State) (p : Packet) : (State.letInOne s p).key = s.key := by
  unfold State.letInOne
  repeat' split
  all_goals simp

@[simp] theorem key_State_letIn (s : State) (i : Nat) : (State.letIn s i).key = s.key := by
  simp [State.letIn]

@[simp] theorem key_State_inject (s : State) (p : Packet) : (State.inject s p).key = s.key := by
  unfold State.inject
  repeat' split
  all_goals simp

@[simp] theorem key_State_sendFrom (s : State) (i : Nat) (p : Packet) : (State.sendFrom s i p).key = s.key := by
  unfold State.sendFrom
  repeat' split
  all_goals simp

@[simp] theorem key_State_mapChange (s : State) : (State.mapChange s).key = s.key := by
  simp [State.mapChange]

@[simp] theorem key_State_assignCheckers (s : State) : (State.assignCheckers s).key = s.key := by
  simp [State.assignCheckers, key_mk, key_pending, key_now, key_func, key_revoked, key_reserve, key_mlock, key_tlock]

@[simp] theorem key_State_fire (s : State) (i : Nat) (f : Cluster → Cluster) : (State.fire s i f).key = s.key := by
  simp [State.fire]

theorem key_execBranchFire (x : Site) (u : SteerIx) (s : State) : keeps (execBranchFire x u s) s.key := by
  unfold execBranchFire
  repeat' (first
    | (simp; done) | (simp [key_mk, key_pending, key_now, key_func, key_revoked, key_reserve, key_mlock, key_tlock]; done)
    | (intro _) | (split) | (refine (key_each _ _ _ ?_).trans ?_) | (refine (key_foldl _ _ _ ?_).trans ?_) | (simp) | (dsimp only))

theorem key_execMergeFire (x : Site) (u : SteerIx) (s : State) : keeps (execMergeFire x u s) s.key := by
  unfold execMergeFire
  repeat' (first
    | (simp; done) | (simp [key_mk, key_pending, key_now, key_func, key_revoked, key_reserve, key_mlock, key_tlock]; done)
    | (intro _) | (split) | (refine (key_each _ _ _ ?_).trans ?_) | (refine (key_foldl _ _ _ ?_).trans ?_) | (simp) | (dsimp only))

theorem key_execRateRepeatFire (x : Site) (u : SteerIx) (s : State) : keeps (execRateRepeatFire x u s) s.key := by
  unfold execRateRepeatFire
  repeat' (first
    | (simp; done) | (simp [key_mk, key_pending, key_now, key_func, key_revoked, key_reserve, key_mlock, key_tlock]; done)
    | (intro _) | (split) | (refine (key_each _ _ _ ?_).trans ?_) | (refine (key_foldl _ _ _ ?_).trans ?_) | (simp) | (dsimp only))

theorem key_execRateRepeatEmit (x : Site) (u : SteerIx) (s : State) : keeps (execRateRepeatEmit x u s) s.key := by
  unfold execRateRepeatEmit
  repeat' (first
    | (simp; done) | (simp [key_mk, key_pending, key_now, key_func, key_revoked, key_reserve, key_mlock, key_tlock]; done)
    | (intro _) | (split) | (refine (key_each _ _ _ ?_).trans ?_) | (refine (key_foldl _ _ _ ?_).trans ?_) | (simp) | (dsimp only))

theorem key_execRateSkipFire (x : Site) (u : SteerIx) (s : State) : keeps (execRateSkipFire x u s) s.key := by
  unfold execRateSkipFire
  repeat' (first
    | (simp; done) | (simp [key_mk, key_pending, key_now, key_func, key_revoked, key_reserve, key_mlock, key_tlock]; done)
    | (intro _) | (split) | (refine (key_each _ _ _ ?_).trans ?_) | (refine (key_foldl _ _ _ ?_).trans ?_) | (simp) | (dsimp only))

theorem key_execRateSkipDiscard (x : Site) (u : SteerIx) (s : State) : keeps (execRateSkipDiscard x u s) s.key := by
  simp [execRateSkipDiscard]

theorem key_execCarryEnter (x : Site) (u : SteerIx) (s : State) : keeps (execCarryEnter x u s) s.key := by
  unfold execCarryEnter
  repeat' (first
    | (simp; done) | (simp [key_mk, key_pending, key_now, key_func, key_revoked, key_reserve, key_mlock, key_tlock]; done)
    | (intro _) | (split) | (refine (key_each _ _ _ ?_).trans ?_) | (refine (key_foldl _ _ _ ?_).trans ?_) | (simp) | (dsimp only))

theorem key_execCarryLoop (x : Site) (u : SteerIx) (s : State) : keeps (execCarryLoop x u s) s.key := by
  unfold execCarryLoop
  repeat' (first
    | (simp; done) | (simp [key_mk, key_pending, key_now, key_func, key_revoked, key_reserve, key_mlock, key_tlock]; done)
    | (intro _) | (split) | (refine (key_each _ _ _ ?_).trans ?_) | (refine (key_foldl _ _ _ ?_).trans ?_) | (simp) | (dsimp only))

theorem key_execTokenSend (x : Site) (q : Fin 128) (n : Fin 8) (s : State) : keeps (execTokenSend x q n s) s.key := by
  unfold execTokenSend
  repeat' (first
    | (simp; done) | (simp [key_mk, key_pending, key_now, key_func, key_revoked, key_reserve, key_mlock, key_tlock]; done)
    | (intro _) | (split) | (refine (key_each _ _ _ ?_).trans ?_) | (refine (key_foldl _ _ _ ?_).trans ?_) | (simp) | (dsimp only))

@[simp] theorem key_State_discardAt (s : State) (i : Nat) (p : Packet) : (State.discardAt s i p).key = s.key := by
  simp [State.discardAt]

@[simp] theorem key_State_staleTokens (s : State) (i n : Nat) (e : BitVec 2) : (State.staleTokens s i n e).key = s.key := by
  unfold State.staleTokens
  repeat' split
  all_goals simp

@[simp] theorem key_State_tokensReach (s : State) (i : Nat) (p : Packet) : (State.tokensReach s i p).key = s.key := by
  simp [State.tokensReach]

@[simp] theorem key_State_tokenArrive (s : State) (i : Nat) (p : Packet) : (State.tokenArrive s i p).key = s.key := by
  unfold State.tokenArrive
  repeat' split
  all_goals simp

theorem key_execToken (id : Nat) (s : State) : keeps (execToken id s) s.key := by
  unfold execToken
  repeat' split
  all_goals simp

theorem key_execCreditReturn (x : Site) (q : Fin 128) (s : State) : keeps (execCreditReturn x q s) s.key := by
  unfold execCreditReturn
  repeat' (first
    | (simp; done) | (simp [key_mk, key_pending, key_now, key_func, key_revoked, key_reserve, key_mlock, key_tlock]; done)
    | (intro _) | (split) | (refine (key_each _ _ _ ?_).trans ?_) | (refine (key_foldl _ _ _ ?_).trans ?_) | (simp) | (dsimp only))

theorem key_execCreditReceive (x : Site) (q : Fin 128) (s : State) : keeps (execCreditReceive x q s) s.key := by
  unfold execCreditReceive
  repeat' (first
    | (simp; done) | (simp [key_mk, key_pending, key_now, key_func, key_revoked, key_reserve, key_mlock, key_tlock]; done)
    | (intro _) | (split) | (refine (key_each _ _ _ ?_).trans ?_) | (refine (key_foldl _ _ _ ?_).trans ?_) | (simp) | (dsimp only))

theorem key_execSteerStall (x : Site) (cycles : Nat) (s : State) : keeps (execSteerStall x cycles s) s.key := by
  unfold execSteerStall
  repeat' (first
    | (simp; done) | (simp [key_mk, key_pending, key_now, key_func, key_revoked, key_reserve, key_mlock, key_tlock]; done)
    | (intro _) | (split) | (refine (key_each _ _ _ ?_).trans ?_) | (refine (key_foldl _ _ _ ?_).trans ?_) | (simp) | (dsimp only))

@[simp] theorem key_State_pairClean (s : State) (i : Nat) (e : W64) : (State.pairClean s i e).key = s.key := by
  unfold State.pairClean
  repeat' split
  all_goals simp

theorem key_execLaunchComplete (f : Func) (cfg : Fin 256) (s : State) : keeps (execLaunchComplete f cfg s) s.key := by
  unfold execLaunchComplete
  repeat' (first
    | (simp; done) | (simp [key_mk, key_pending, key_now, key_func, key_revoked, key_reserve, key_mlock, key_tlock]; done)
    | (intro _) | (split) | (refine (key_each _ _ _ ?_).trans ?_) | (refine (key_foldl _ _ _ ?_).trans ?_) | (simp) | (dsimp only))

@[simp] theorem key_State_startXfer (s : State) (i n slot : Nat) (q : XReq) : (State.startXfer s i n slot q).key = s.key := by
  unfold State.startXfer
  repeat' split
  all_goals simp

theorem key_execXfer (r : CoreRef) (gd : GReg) (s : State) : keeps (execXfer r gd s) s.key := by
  unfold execXfer
  repeat' (first
    | (simp; done) | (simp [key_mk, key_pending, key_now, key_func, key_revoked, key_reserve, key_mlock, key_tlock]; done)
    | (intro _) | (split) | (refine (key_each _ _ _ ?_).trans ?_) | (refine (key_foldl _ _ _ ?_).trans ?_) | (simp) | (dsimp only))

theorem key_execXferAccept (x : Site) (s : State) : keeps (execXferAccept x s) s.key := by
  unfold execXferAccept
  repeat' (first
    | (simp; done) | (simp [key_mk, key_pending, key_now, key_func, key_revoked, key_reserve, key_mlock, key_tlock]; done)
    | (intro _) | (split) | (refine (key_each _ _ _ ?_).trans ?_) | (refine (key_foldl _ _ _ ?_).trans ?_) | (simp) | (dsimp only))

theorem key_execTransferComplete (x : Site) (slot : SlotIx) (s : State) : keeps (execTransferComplete x slot s) s.key := by
  unfold execTransferComplete
  repeat' (first
    | (simp; done) | (simp [key_mk, key_pending, key_now, key_func, key_revoked, key_reserve, key_mlock, key_tlock]; done)
    | (intro _) | (split) | (refine (key_each _ _ _ ?_).trans ?_) | (refine (key_foldl _ _ _ ?_).trans ?_) | (simp) | (dsimp only))

@[simp] theorem key_State_slotFail (s : State) (i slot cause : Nat) : (State.slotFail s i slot cause).key = s.key := by
  unfold State.slotFail
  repeat' split
  all_goals simp

@[simp] theorem key_State_failSource (s : State) (p : Packet) (cause : Nat) : (State.failSource s p cause).key = s.key := by
  simp [State.failSource]

@[simp] theorem key_State_discardCrust (s : State) (p : Packet) : (State.discardCrust s p).key = s.key := by
  simp [State.discardCrust]

theorem key_execRdReq (id : Nat) (s : State) : keeps (execRdReq id s) s.key := by
  unfold execRdReq
  repeat' split
  all_goals simp

@[simp] theorem key_State_both (s : State) (i : Nat) (f : Cluster → Cluster) : (State.both s i f).key = s.key := by
  unfold State.both
  repeat' split
  all_goals simp

@[simp] theorem key_State_wrote (s : State) (p : Packet) : (State.wrote s p).key = s.key := by
  simp [State.wrote]

theorem key_execRdData (id : Nat) (s : State) : keeps (execRdData id s) s.key := by
  unfold execRdData
  repeat' (first
    | (simp; done) | (simp [key_mk, key_pending, key_now, key_func, key_revoked, key_reserve, key_mlock, key_tlock]; done)
    | (intro _) | (split) | (refine (key_each _ _ _ ?_).trans ?_) | (refine (key_foldl _ _ _ ?_).trans ?_) | (simp) | (dsimp only))

@[simp] theorem key_State_putReach (s : State) (i : Nat) (p : Packet) (a : Nat) : (State.putReach s i p a).key = s.key := by
  simp [State.putReach]

theorem key_execWr (id : Nat) (s : State) : keeps (execWr id s) s.key := by
  unfold execWr
  repeat' split
  all_goals simp

theorem key_execWrAck (id : Nat) (s : State) : keeps (execWrAck id s) s.key := by
  unfold execWrAck
  repeat' split
  all_goals simp

theorem key_execUnreach (id : Nat) (s : State) : keeps (execUnreach id s) s.key := by
  unfold execUnreach
  repeat' split
  all_goals simp

theorem key_execExposedTransferTimeout (x : Site) (slot : SlotIx) (s : State) : keeps (execExposedTransferTimeout x slot s) s.key := by
  unfold execExposedTransferTimeout
  repeat' (first
    | (simp; done) | (simp [key_mk, key_pending, key_now, key_func, key_revoked, key_reserve, key_mlock, key_tlock]; done)
    | (intro _) | (split) | (refine (key_each _ _ _ ?_).trans ?_) | (refine (key_foldl _ _ _ ?_).trans ?_) | (simp) | (dsimp only))

@[simp] theorem key_State_dropFold (s : State) (f tree : Nat) : (State.dropFold s f tree).key = s.key := by
  simp [State.dropFold]

@[simp] theorem key_State_breakTrees (s : State) (x : Failed) (f c : Nat) : (State.breakTrees s x f c).key = s.key := by
  simp [State.breakTrees]

@[simp] theorem key_State_dropTT (s : State) (key : Nat) : (State.dropTT s key).key = s.key := by
  simp [State.dropTT]

@[simp] theorem key_State_breakTable (s : State) (x : Failed) (f c : Nat) : (State.breakTable s x f c).key = s.key := by
  simp [State.breakTable]

@[simp] theorem key_State_failPaths (s : State) (x : Failed) : (State.failPaths s x).key = s.key := by
  simp [State.failPaths]

@[simp] theorem key_State_takeFlit (s : State) (i : Nat) (d : Dir) : (State.takeFlit s i d).key = s.key := by
  unfold State.takeFlit
  repeat' split
  all_goals simp

theorem key_execFlitReceive (l : LinkEnd) (crcGood : Bool) (s : State) : keeps (execFlitReceive l crcGood s) s.key := by
  simp [execFlitReceive]

theorem key_execLinkAlivePulse (l : LinkEnd) (s : State) : keeps (execLinkAlivePulse l s) s.key := by
  simp [execLinkAlivePulse]

@[simp] theorem key_State_linkDead (s : State) (l : LinkEnd) : (State.linkDead s l).key = s.key := by
  simp [State.linkDead]

theorem key_execPortDead (l : LinkEnd) (cycles : Nat) (s : State) : keeps (execPortDead l cycles s) s.key := by
  simp [execPortDead]

@[simp] theorem key_State_grantCounts (s : State) (out : Nat) (l : List Packet) (p : Packet) : (State.grantCounts s out l p).key = s.key := by
  simp [State.grantCounts]

@[simp] theorem key_State_countLate (s : State) (i : Nat) (p : Packet) (waited : Nat) : (State.countLate s i p waited).key = s.key := by
  simp [State.countLate]

theorem key_execOutputGrant (x : Site) (o : OutPort) (s : State) : keeps (execOutputGrant x o s) s.key := by
  unfold execOutputGrant
  repeat' (first
    | (simp; done) | (simp [key_mk, key_pending, key_now, key_func, key_revoked, key_reserve, key_mlock, key_tlock]; done)
    | (intro _) | (split) | (refine (key_each _ _ _ ?_).trans ?_) | (refine (key_foldl _ _ _ ?_).trans ?_) | (simp) | (dsimp only))

@[simp] theorem key_State_setPacket (s : State) (p q : Packet) : (State.setPacket s p q).key = s.key := by
  simp [State.setPacket]

theorem key_execRunoutMove (id : Nat) (cycles : Nat) (s : State) : keeps (execRunoutMove id cycles s) s.key := by
  unfold execRunoutMove
  repeat' split
  all_goals simp

theorem key_execTableInstall (s : State) : keeps (execTableInstall s) s.key := by
  simp [execTableInstall]

theorem key_execDarkBitArrive (x : Site) (s : State) : keeps (execDarkBitArrive x s) s.key := by
  simp [execDarkBitArrive]

theorem key_execInflightQuietReset (f : Func) (s : State) : keeps (execInflightQuietReset f s) s.key := by
  simp [execInflightQuietReset]

@[simp] theorem key_State_fieldCommand (s : State) (f cmd : Nat) (fld : FieldIx) (ok : Bool) (eff : State → State)
    (heff : ∀ t, (eff t).key = t.key) : (State.fieldCommand s f cmd fld ok eff).key = s.key := by
  unfold State.fieldCommand
  repeat' split
  all_goals simp [heff]

theorem key_execMarkOutOfService (f : Func) (fld : FieldIx) (s : State) : keeps (execMarkOutOfService f fld s) s.key := by
  simp [execMarkOutOfService]

theorem key_execReturnToService (f : Func) (fld : FieldIx) (s : State) : keeps (execReturnToService f fld s) s.key := by
  simp [execReturnToService]

@[simp] theorem key_State_retrainField (s : State) (fld : Nat) (all : Bool) : (State.retrainField s fld all).key = s.key := by
  simp [State.retrainField]

@[simp] theorem key_State_loseField (s : State) (fld : Nat) : (State.loseField s fld).key = s.key := by
  simp [State.loseField]

@[simp] theorem key_State_resetDone (s : State) (fld : Nat) : (State.resetDone s fld).key = s.key := by
  simp [State.resetDone]

theorem key_execFieldFabricReset (f : Func) (fld : FieldIx) (s : State) : keeps (execFieldFabricReset f fld s) s.key := by
  simp [execFieldFabricReset]

theorem key_execBar (r : CoreRef) (index : BitVec 10) (s : State) : keeps (execBar r index s) s.key := by
  simp [execBar]

@[simp] theorem key_State_releaseCore (s : State) (m : Nat × Nat) : (State.releaseCore s m).key = s.key := by
  simp [State.releaseCore]

theorem key_execBarrierRelease (f : Func) (cfg : Fin 256) (index : BitVec 10) (s : State) : keeps (execBarrierRelease f cfg index s) s.key := by
  unfold execBarrierRelease
  repeat' (first
    | (simp; done) | (simp [key_mk, key_pending, key_now, key_func, key_revoked, key_reserve, key_mlock, key_tlock]; done)
    | (intro _) | (split) | (refine (key_each _ _ _ ?_).trans ?_) | (refine (key_foldl _ _ _ ?_).trans ?_) | (simp) | (dsimp only))

@[simp] theorem key_State_disableLink (s : State) (fld link : Nat) : (State.disableLink s fld link).key = s.key := by
  simp [State.disableLink]

@[simp] theorem key_State_sparing (s : State) (base : List LaneEx) (edge : Tab EdgeLink) (lanes : List LaneEx) (failed : List (Nat × Nat)) : (State.sparing s base edge lanes failed).key = s.key := by
  simp [State.sparing]

@[simp] theorem key_State_dropPage (s : State) (p : Nat) : (State.dropPage s p).key = s.key := by
  simp [State.dropPage]

@[simp] theorem key_State_dropChunks (s : State) (p k : Nat) : (State.dropChunks s p k).key = s.key := by
  simp [State.dropChunks]

@[simp] theorem key_State_endStreams (s : State) (p : Nat) : (State.endStreams s p).key = s.key := by
  simp [State.endStreams]

@[simp] theorem key_State_zeroPage (s : State) (p : Nat) : (State.zeroPage s p).key = s.key := by
  simp [State.zeroPage]

@[simp] theorem key_State_pageDone (s : State) (word : W32) (st : W16) : (State.pageDone s word st).key = s.key := by
  simp [State.pageDone]

@[simp] theorem key_State_pageCommand (s : State) (f op group : Nat) (check : W16) (eff : State → State)
    (heff : ∀ t, (eff t).key = t.key) : (State.pageCommand s f op group check eff).key = s.key := by
  unfold State.pageCommand
  repeat' split
  all_goals simp [heff]

theorem key_execAllocPage (f : Func) (s : State) : keeps (execAllocPage f s) s.key := by
  unfold execAllocPage
  refine key_State_pageCommand _ _ _ _ _ _ (fun t => ?_)
  split
  · rfl
  · dsimp only
    split <;> simp

theorem key_execFreePage (f : Func) (s : State) : keeps (execFreePage f s) s.key := by
  simp [execFreePage]

@[simp] theorem key_State_startMove (s : State) (p spread setbase : Nat) : (State.startMove s p spread setbase).key = s.key := by
  simp [State.startMove]

theorem key_execSetPage (f : Func) (s : State) : keeps (execSetPage f s) s.key := by
  simp [execSetPage]

theorem key_execSealGroup (f : Func) (group : VGroup) (s : State) : keeps (execSealGroup f group s) s.key := by
  simp [execSealGroup]

theorem key_execOpenGroup (f : Func) (group : VGroup) (s : State) : keeps (execOpenGroup f group s) s.key := by
  simp [execOpenGroup]

theorem key_execMemPageSelWrite (f : Func) (value : W32) (s : State) : keeps (execMemPageSelWrite f value s) s.key := by
  simp [execMemPageSelWrite]

@[simp] theorem key_State_moveEnded (s : State) (p : Nat) : (State.moveEnded s p).key = s.key := by
  simp [State.moveEnded]

@[simp] theorem key_State_abandonMove (s : State) (p : Nat) (bad : List Nat) : (State.abandonMove s p bad).key = s.key := by
  simp [State.abandonMove]

@[simp] theorem key_State_correctLines (s : State) (a n : Nat) : (State.correctLines s a n).key = s.key := by
  simp [State.correctLines]

theorem key_execMigrationMove (page : Fin 2097152) (s : State) : keeps (execMigrationMove page s) s.key := by
  unfold execMigrationMove
  repeat' (first
    | (simp; done) | (simp [key_mk, key_pending, key_now, key_func, key_revoked, key_reserve, key_mlock, key_tlock]; done)
    | (intro _) | (split) | (refine (key_each _ _ _ ?_).trans ?_) | (refine (key_foldl _ _ _ ?_).trans ?_) | (simp) | (dsimp only))

theorem key_migStart (a : State × Nat × Tab Nat) (x : Nat × Nat × Nat × Nat) : (migStart a x).1.key = a.1.key := by
  unfold migStart
  dsimp only
  split
  · exact key_State_startMove _ _ _ _
  · rfl

theorem key_migStarts (l : List (Nat × Nat × Nat × Nat)) (a : State × Nat × Tab Nat) : (l.foldl migStart a).1.key = a.1.key := by
  induction l generalizing a with
  | nil => rfl
  | cons x l ih => exact (ih _).trans (key_migStart a x)

theorem key_execMigrationWindowEnd (s : State) : keeps (execMigrationWindowEnd s) s.key := by
  unfold execMigrationWindowEnd
  dsimp only
  split
  · rfl
  · refine (key_State_modMem _ _).trans ?_
    split
    · exact key_migStarts _ _
    · rfl

@[simp] theorem key_State_scrubs (s : State) (n : Nat) : (State.scrubs s n).key = s.key := by
  simp [State.scrubs]

theorem key_execScrub (st : StackIx) (line : Nat) (found : LineFound) (s : State) : keeps (execScrub st line found s) s.key := by
  simp [execScrub]

theorem key_execLiftPrefetch (st : StackIx) (slot : Fin 64) (s : State) : keeps (execLiftPrefetch st slot s) s.key := by
  unfold execLiftPrefetch
  repeat' (first
    | (simp; done) | (simp [key_mk, key_pending, key_now, key_func, key_revoked, key_reserve, key_mlock, key_tlock]; done)
    | (intro _) | (split) | (refine (key_each _ _ _ ?_).trans ?_) | (refine (key_foldl _ _ _ ?_).trans ?_) | (simp) | (dsimp only))

@[simp] theorem key_State_aerError (s : State) (f bit : Nat) : (State.aerError s f bit).key = s.key := by
  unfold State.aerError
  repeat' (first
    | (simp; done) | (simp [key_mk, key_pending, key_now, key_func, key_revoked, key_reserve, key_mlock, key_tlock]; done)
    | (intro _) | (split) | (refine (key_each _ _ _ ?_).trans ?_) | (refine (key_foldl _ _ _ ?_).trans ?_) | (simp) | (dsimp only))

theorem key_execBarBadAccess (f : Func) (bar : Fin 6) (isWrite : Bool) (off size : Nat) (s : State) : keeps (execBarBadAccess f bar isWrite off size s) s.key := by
  simp [execBarBadAccess]

theorem key_execBar4Read (f : Func) (off len : Nat) (s : State) : keeps (execBar4Read f off len s) s.key := by
  simp [execBar4Read]

theorem key_execBar4Write (f : Func) (off : Nat) (bytes : List W8) (s : State) : keeps (execBar4Write f off bytes s) s.key := by
  simp [execBar4Write]

@[simp] theorem key_State_ringCmdDone (s : State) (f cmd : Nat) (st : W16) : (State.ringCmdDone s f cmd st).key = s.key := by
  simp [State.ringCmdDone]

@[simp] theorem key_State_readCtx (s : State) (r : Nat) : (State.readCtx s r).key = s.key := by
  simp [State.readCtx]

@[simp] theorem key_State_putCtx (s : State) (r : Nat) (g : Ring → Ring) : (State.putCtx s r g).key = s.key := by
  simp [State.putCtx]

theorem key_execRingRead (f : Func) (s : State) : keeps (execRingRead f s) s.key := by
  unfold execRingRead
  repeat' split
  all_goals simp

@[simp] theorem key_State_lagCheck (s : State) (f r : Nat) : (State.lagCheck s f r).key = s.key := by
  simp [State.lagCheck]

theorem key_execRingWrite (f : Func) (s : State) : keeps (execRingWrite f s) s.key := by
  unfold execRingWrite
  repeat' (first
    | (simp; done) | (simp [key_mk, key_pending, key_now, key_func, key_revoked, key_reserve, key_mlock, key_tlock]; done)
    | (intro _) | (split) | (refine (key_each _ _ _ ?_).trans ?_) | (refine (key_foldl _ _ _ ?_).trans ?_) | (simp) | (dsimp only))

theorem key_execDoorbell (f : Func) (ring : Fin 1048576) (value : W64) (s : State) : keeps (execDoorbell f ring value s) s.key := by
  simp [execDoorbell]

@[simp] theorem key_State_readTable (s : State) (d : Desc) : (State.readTable s d).key = s.key := by
  simp [State.readTable]

@[simp] theorem key_State_takeDesc (s : State) (r f : Nat) (raw : List W8) : (State.takeDesc s r f raw).key = s.key := by
  simp [State.takeDesc]

@[simp] theorem key_State_serve (s : State) (f r : Nat) : (State.serve s f r).key = s.key := by
  simp [State.serve, key_mk, key_pending, key_now, key_func, key_revoked, key_reserve, key_mlock, key_tlock]

@[simp] theorem key_State_takeOrWait (s : State) (r f : Nat) (raw : List W8) : (State.takeOrWait s r f raw).key = s.key := by
  simp [State.takeOrWait]

theorem key_execDescriptorTake (ring : Fin 1048576) (fail : Option HostFail) (s : State) : keeps (execDescriptorTake ring fail s) s.key := by
  unfold execDescriptorTake
  repeat' (first
    | (simp; done) | (simp [key_mk, key_pending, key_now, key_func, key_revoked, key_reserve, key_mlock, key_tlock]; done)
    | (intro _) | (split) | (refine (key_each _ _ _ ?_).trans ?_) | (refine (key_foldl _ _ _ ?_).trans ?_) | (simp) | (dsimp only))

@[simp] theorem key_State_started (s : State) (d : Desc) : (State.started s d).key = s.key := by
  simp [State.started]

@[simp] theorem key_State_endDesc (s : State) (d : Desc) (st : W16) : (State.endDesc s d st).key = s.key := by
  simp [State.endDesc]

@[simp] theorem key_State_beginDesc (s : State) (r : DescRef) (op : Nat → Bool) (bad : Desc → Bool) (eff : Desc → State → State)
    (heff : ∀ d t, (eff d t).key = t.key) : (State.beginDesc s r op bad eff).key = s.key := by
  unfold State.beginDesc
  repeat' split
  all_goals simp [heff]

theorem key_execNop (r : DescRef) (s : State) : keeps (execNop r s) s.key := by
  simp [execNop]

theorem key_execFence (r : DescRef) (s : State) : keeps (execFence r s) s.key := by
  simp [execFence]

theorem key_execCopy (r : DescRef) (fail : Option HostFail) (s : State) : keeps (execCopy r fail s) s.key := by
  simp [execCopy]

@[simp] theorem key_State_copyStore (s : State) (d : Desc) (bs : List W8) : (State.copyStore s d bs).key = s.key := by
  simp [State.copyStore, key_mk, key_pending, key_now, key_func, key_revoked, key_reserve, key_mlock, key_tlock]

theorem key_execCopyDone (r : DescRef) (s : State) : keeps (execCopyDone r s) s.key := by
  unfold execCopyDone
  repeat' split
  all_goals simp

theorem key_execCompletionTimeout (r : DescRef) (s : State) : keeps (execCompletionTimeout r s) s.key := by
  unfold execCompletionTimeout
  repeat' split
  all_goals simp

theorem key_execDigest (r : DescRef) (s : State) : keeps (execDigest r s) s.key := by
  simp [execDigest]

theorem key_execDigestDone (r : DescRef) (s : State) : keeps (execDigestDone r s) s.key := by
  unfold execDigestDone
  repeat' (first
    | (simp; done) | (simp [key_mk, key_pending, key_now, key_func, key_revoked, key_reserve, key_mlock, key_tlock]; done)
    | (intro _) | (split) | (refine (key_each _ _ _ ?_).trans ?_) | (refine (key_foldl _ _ _ ?_).trans ?_) | (simp) | (dsimp only))

theorem key_execQuiesce (r : DescRef) (s : State) : keeps (execQuiesce r s) s.key := by
  unfold execQuiesce
  repeat' split
  all_goals simp

theorem key_execQuiesceComplete (r : DescRef) (s : State) : keeps (execQuiesceComplete r s) s.key := by
  unfold execQuiesceComplete
  repeat' split
  all_goals simp

theorem key_execResume (r : DescRef) (s : State) : keeps (execResume r s) s.key := by
  unfold execResume
  repeat' split
  all_goals simp

theorem key_execEventWait (r : DescRef) (s : State) : keeps (execEventWait r s) s.key := by
  simp [execEventWait]

theorem key_State_evalWait (s : State) (d : Desc) (yes no : State → State) (hy : ∀ t, (yes t).key = t.key) (hn : ∀ t, (no t).key = t.key) :
    (s.evalWait d yes no).key = s.key := by
  unfold State.evalWait
  dsimp only
  repeat' split
  all_goals simp [hy, hn]

theorem key_execEventWaitCheck (r : DescRef) (s : State) : keeps (execEventWaitCheck r s) s.key := by
  unfold execEventWaitCheck
  split
  · rfl
  · exact key_State_evalWait _ _ _ _ (fun t => by simp) (fun t => rfl)

theorem key_execEventWaitDeadline (r : DescRef) (s : State) : keeps (execEventWaitDeadline r s) s.key := by
  unfold execEventWaitDeadline
  split
  · rfl
  · split
    · exact key_State_evalWait _ _ _ _ (fun t => rfl) (fun t => by simp)
    · rfl

theorem key_execTimestamp (r : DescRef) (s : State) : keeps (execTimestamp r s) s.key := by
  simp [execTimestamp]

@[simp] theorem key_State_setFoldUsed (s : State) (i f tree : Nat) (own : Bool) (n : Nat) : (State.setFoldUsed s i f tree own n).key = s.key := by
  simp [State.setFoldUsed]

theorem key_foldStore (s s1 : State) (i : Nat) (t : FoldTree) (x : FoldIn) (p : Packet) (h : s.foldStore i t x p = some s1) :
    s1.key = s.key := by
  unfold State.foldStore at h
  dsimp only at h
  repeat' split at h
  all_goals simp at h
  all_goals (subst h; exact key_State_modFab _ _)

@[simp] theorem key_State_foldDiscard (s : State) (p : Packet) : (State.foldDiscard s p).key = s.key := by
  simp [State.foldDiscard]

theorem key_execFold (id : Nat) (s : State) : keeps (execFold id s) s.key := by
  unfold execFold
  dsimp only
  repeat' split
  all_goals first
    | rfl
    | (simp; done)
    | skip
  all_goals (have h := key_foldStore _ _ _ _ _ _ ‹_›; simp [h])

@[simp] theorem key_State_freeSeg (s : State) (n : FoldNode) (f tree : Nat) (b : SegBuf) : (State.freeSeg s n f tree b).key = s.key := by
  simp [State.freeSeg]

@[simp] theorem key_State_foldRoot (s : State) (f c : Nat) (t : FoldTree) (n : FoldNode) (b : SegBuf) : (State.foldRoot s f c t n b).key = s.key := by
  simp [State.foldRoot]

@[simp] theorem key_State_foldUp (s : State) (f : Nat) (t : FoldTree) (n : FoldNode) (b : SegBuf) : (State.foldUp s f t n b).key = s.key := by
  simp [State.foldUp]

theorem key_execFoldSegmentSum (x : Site) (f : Func) (tree : Fin 1024) (round : Bool) (seg : Fin 65536) (s : State) : keeps (execFoldSegmentSum x f tree round seg s) s.key := by
  unfold execFoldSegmentSum
  repeat' (first
    | (simp; done) | (simp [key_mk, key_pending, key_now, key_func, key_revoked, key_reserve, key_mlock, key_tlock]; done)
    | (intro _) | (split) | (refine (key_each _ _ _ ?_).trans ?_) | (refine (key_foldl _ _ _ ?_).trans ?_) | (simp) | (dsimp only))

theorem key_execFoldCreditReceive (x : Site) (f : Func) (tree : Fin 1024) (s : State) : keeps (execFoldCreditReceive x f tree s) s.key := by
  unfold execFoldCreditReceive
  repeat' (first
    | (simp; done) | (simp [key_mk, key_pending, key_now, key_func, key_revoked, key_reserve, key_mlock, key_tlock]; done)
    | (intro _) | (split) | (refine (key_each _ _ _ ?_).trans ?_) | (refine (key_foldl _ _ _ ?_).trans ?_) | (simp) | (dsimp only))

@[simp] theorem key_State_passEntry (s : State) (e : TTEntry) : (State.passEntry s e).key = s.key := by
  simp [State.passEntry]

@[simp] theorem key_State_skipTo (s : State) (e : TTEntry) (k : Nat) : (State.skipTo s e k).key = s.key := by
  simp [State.skipTo]

@[simp] theorem key_State_startPeriod (s : State) (f c : Nat) : (State.startPeriod s f c).key = s.key := by
  simp [State.startPeriod]

@[simp] theorem key_State_ttDeliver (s : State) (i : Nat) (p : Packet) : (State.ttDeliver s i p).key = s.key := by
  unfold State.ttDeliver
  repeat' split
  all_goals simp

@[simp] theorem key_State_ttHop (s : State) (e : TTEntry) (p : Packet) : (State.ttHop s e p).key = s.key := by
  unfold State.ttHop
  repeat' split
  all_goals simp

@[simp] theorem key_State_ttInject (s : State) (e : TTEntry) (p : Packet) : (State.ttInject s e p).key = s.key := by
  simp [State.ttInject]

theorem key_execTtInjectionEntry (x : Site) (entry : Fin 512) (s : State) : keeps (execTtInjectionEntry x entry s) s.key := by
  unfold execTtInjectionEntry
  repeat' split
  all_goals simp

theorem key_execTtForward (id : Nat) (s : State) : keeps (execTtForward id s) s.key := by
  unfold execTtForward
  repeat' split
  all_goals simp

@[simp] theorem key_State_freeSums (s : State) (f c : Nat) : (State.freeSums s f c).key = s.key := by
  simp [State.freeSums]

@[simp] theorem key_State_freeCfg (s : State) (f c : Nat) : (State.freeCfg s f c).key = s.key := by
  simp [State.freeCfg]

@[simp] theorem key_State_endBinding (s : State) (x : Nat) : (State.endBinding s x).key = s.key := by
  unfold State.endBinding
  repeat' split
  all_goals simp

@[simp] theorem key_State_bindLost (s : State) (f c : Nat) : (State.bindLost s f c).key = s.key := by
  unfold State.bindLost
  repeat' (first
    | (simp; done) | (simp [key_mk, key_pending, key_now, key_func, key_revoked, key_reserve, key_mlock, key_tlock]; done)
    | (intro _) | (split) | (refine (key_each _ _ _ ?_).trans ?_) | (refine (key_foldl _ _ _ ?_).trans ?_) | (simp) | (dsimp only))

@[simp] theorem key_State_startLoad (s : State) (d : Desc) : (State.startLoad s d).key = s.key := by
  unfold State.startLoad
  repeat' (first
    | (simp; done) | (simp [key_mk, key_pending, key_now, key_func, key_revoked, key_reserve, key_mlock, key_tlock]; done)
    | (intro _) | (split) | (refine (key_each _ _ _ ?_).trans ?_) | (refine (key_foldl _ _ _ ?_).trans ?_) | (simp) | (dsimp only))

theorem key_execConfigLoad (r : DescRef) (s : State) : keeps (execConfigLoad r s) s.key := by
  unfold execConfigLoad
  repeat' split
  all_goals simp

theorem key_execUnload (r : DescRef) (s : State) : keeps (execUnload r s) s.key := by
  unfold execUnload
  repeat' split
  all_goals simp

@[simp] theorem key_State_modLoad (s : State) (f c : Nat) (g : Load → Load) : (State.modLoad s f c g).key = s.key := by
  simp [State.modLoad]

@[simp] theorem key_State_beginEpoch (s : State) (f c : Nat) (unload : Bool) : (State.beginEpoch s f c unload).key = s.key := by
  simp [State.beginEpoch]

@[simp] theorem key_State_discardTokens (s : State) (i : Nat) : (State.discardTokens s i).key = s.key := by
  simp [State.discardTokens]

@[simp] theorem key_State_enterLoad (s : State) (f c : Nat) : (State.enterLoad s f c).key = s.key := by
  unfold State.enterLoad
  repeat' (first
    | (simp; done) | (simp [key_mk, key_pending, key_now, key_func, key_revoked, key_reserve, key_mlock, key_tlock]; done)
    | (intro _) | (split) | (refine (key_each _ _ _ ?_).trans ?_) | (refine (key_foldl _ _ _ ?_).trans ?_) | (simp) | (dsimp only))

theorem key_execDrainEnd (f : Func) (cfg : Fin 256) (s : State) : keeps (execDrainEnd f cfg s) s.key := by
  unfold execDrainEnd
  repeat' (first
    | (simp; done) | (simp [key_mk, key_pending, key_now, key_func, key_revoked, key_reserve, key_mlock, key_tlock]; done)
    | (intro _) | (split) | (refine (key_each _ _ _ ?_).trans ?_) | (refine (key_foldl _ _ _ ?_).trans ?_) | (simp) | (dsimp only))

@[simp] theorem key_State_discardPhase (s : State) (f c : Nat) : (State.discardPhase s f c).key = s.key := by
  simp [State.discardPhase]

theorem key_execDrainTimeout (f : Func) (cfg : Fin 256) (s : State) : keeps (execDrainTimeout f cfg s) s.key := by
  unfold execDrainTimeout
  repeat' split
  all_goals simp

theorem key_execCfgBody (c : CoreRef) (localData : Bool) (addr len : Nat) (s : State) :
    keeps (execCfgBody c localData addr len s) s.key := by
  unfold execCfgBody
  repeat' (first
    | (simp; done) | (simp [key_mk, key_pending, key_now, key_func, key_revoked, key_reserve, key_mlock, key_tlock]; done)
    | (intro _) | (split) | (refine (key_each _ _ _ ?_).trans ?_) | (refine (key_foldl _ _ _ ?_).trans ?_) | (simp) | (dsimp only))

@[simp] theorem key_State_install (s : State) (f c : Nat) (l : Load) : (State.install s f c l).key = s.key := by
  simp [State.install]

@[simp] theorem key_State_unloadCfg (s : State) (f c : Nat) (sites : List Nat) : (State.unloadCfg s f c sites).key = s.key := by
  simp [State.unloadCfg]

@[simp] theorem key_State_endLoad (s : State) (f c : Nat) (l : Load) : (State.endLoad s f c l).key = s.key := by
  simp [State.endLoad]

theorem key_execConfigLoadDone (f : Func) (cfg : Fin 256) (s : State) : keeps (execConfigLoadDone f cfg s) s.key := by
  unfold execConfigLoadDone
  repeat' (first
    | (simp; done) | (simp [key_mk, key_pending, key_now, key_func, key_revoked, key_reserve, key_mlock, key_tlock]; done)
    | (intro _) | (split) | (refine (key_each _ _ _ ?_).trans ?_) | (refine (key_foldl _ _ _ ?_).trans ?_) | (simp) | (dsimp only))

@[simp] theorem key_State_beginAt (s : State) (i : Nat) (args : List W32) : (State.beginAt s i args).key = s.key := by
  simp [State.beginAt]

@[simp] theorem key_State_addLineage (s : State) (f i : Nat) (e : W64) : (State.addLineage s f i e).key = s.key := by
  simp [State.addLineage]

@[simp] theorem key_State_startRun (s : State) (f c : Nat) (u : Run) (wait : Bool) : (State.startRun s f c u wait).key = s.key := by
  simp [State.startRun]

@[simp] theorem key_State_launchHalted (s : State) (d : Desc) (p : Report) : (State.launchHalted s d p).key = s.key := by
  simp [State.launchHalted]

theorem key_execLaunch (r : DescRef) (s : State) : keeps (execLaunch r s) s.key := by
  unfold execLaunch
  repeat' (first
    | (simp; done) | (simp [key_mk, key_pending, key_now, key_func, key_revoked, key_reserve, key_mlock, key_tlock]; done)
    | (intro _) | (split) | (refine (key_each _ _ _ ?_).trans ?_) | (refine (key_foldl _ _ _ ?_).trans ?_) | (simp) | (dsimp only))

theorem key_execPoolDispatch (r : DescRef) (s : State) : keeps (execPoolDispatch r s) s.key := by
  unfold execPoolDispatch
  split
  · rfl
  · split
    · rfl
    · dsimp only
      split
      · rfl
      · refine key_State_beginDesc _ _ _ _ _ (fun d t => ?_)
        split <;> simp

theorem key_execFrameBind (r : DescRef) (s : State) : keeps (execFrameBind r s) s.key := by
  unfold execFrameBind
  repeat' split
  all_goals simp

@[simp] theorem key_State_unbindDone (s : State) (x : Nat) : (State.unbindDone s x).key = s.key := by
  unfold State.unbindDone
  repeat' split
  all_goals simp

theorem key_execFrameUnbind (r : DescRef) (s : State) : keeps (execFrameUnbind r s) s.key := by
  unfold execFrameUnbind
  repeat' split
  all_goals simp

@[simp] theorem key_State_ptpTo (s : State) (p : Nat) (st : PtpState) : (State.ptpTo s p st).key = s.key := by
  simp [State.ptpTo]

@[simp] theorem key_State_ptpStop (s : State) (p : Nat) (runs : Bool) : (State.ptpStop s p runs).key = s.key := by
  simp [State.ptpStop]

theorem key_execMediaPortCfgWrite (f : Func) (p : EPort) (value : W32) (s : State) : keeps (execMediaPortCfgWrite f p value s) s.key := by
  simp [execMediaPortCfgWrite]

theorem key_execMediaLinkDown (p : EPort) (s : State) : keeps (execMediaLinkDown p s) s.key := by
  simp [execMediaLinkDown]

theorem key_execMediaLinkUp (p : EPort) (s : State) : keeps (execMediaLinkUp p s) s.key := by
  simp [execMediaLinkUp]

theorem key_execMediaCtxWrite (f : Func) (c : StreamIx) (bytes : List W8) (s : State) : keeps (execMediaCtxWrite f c bytes s) s.key := by
  simp [execMediaCtxWrite]

@[simp] theorem key_State_storeSeg (s : State) (c n : Nat) (g : RowSeg) : (State.storeSeg s c n g).key = s.key := by
  simp [State.storeSeg]

@[simp] theorem key_State_latePkt (s : State) (c n : Nat) (m : MediaFrame) (spoil : Bool) : (State.latePkt s c n m spoil).key = s.key := by
  simp [State.latePkt]

@[simp] theorem key_State_storePkt (s : State) (c n : Nat) (m : MediaFrame) : (State.storePkt s c n m).key = s.key := by
  simp [State.storePkt]

@[simp] theorem key_State_ingest (s : State) (c : Nat) (m : MediaFrame) : (State.ingest s c m).key = s.key := by
  unfold State.ingest
  repeat' (first
    | (simp; done) | (simp [key_mk, key_pending, key_now, key_func, key_revoked, key_reserve, key_mlock, key_tlock]; done)
    | (intro _) | (split) | (refine (key_each _ _ _ ?_).trans ?_) | (refine (key_foldl _ _ _ ?_).trans ?_) | (simp) | (dsimp only))

theorem key_execMediaPacket (p : EPort) (m : MediaFrame) (s : State) : keeps (execMediaPacket p m s) s.key := by
  unfold execMediaPacket
  repeat' (first
    | (simp; done) | (simp [key_mk, key_pending, key_now, key_func, key_revoked, key_reserve, key_mlock, key_tlock]; done)
    | (intro _) | (split) | (refine (key_each _ _ _ ?_).trans ?_) | (refine (key_foldl _ _ _ ?_).trans ?_) | (simp) | (dsimp only))

theorem key_execPtpAnnounce (p : EPort) (a : Announce) (s : State) : keeps (execPtpAnnounce p a s) s.key := by
  simp [execPtpAnnounce]

@[simp] theorem key_State_stepSlots (s : State) (p : Nat) : (State.stepSlots s p).key = s.key := by
  simp [State.stepSlots]

theorem key_execPtpSync (p : EPort) (offset : Int) (s : State) : keeps (execPtpSync p offset s) s.key := by
  simp [execPtpSync]

theorem key_execPtpAnnounceTimeout (p : EPort) (s : State) : keeps (execPtpAnnounceTimeout p s) s.key := by
  simp [execPtpAnnounceTimeout]

theorem key_execPtpHoldmax (p : EPort) (s : State) : keeps (execPtpHoldmax p s) s.key := by
  simp [execPtpHoldmax]

theorem key_execSlotDecide (c : StreamIx) (s : State) : keeps (execSlotDecide c s) s.key := by
  unfold execSlotDecide
  repeat' (first
    | (simp; done) | (simp [key_mk, key_pending, key_now, key_func, key_revoked, key_reserve, key_mlock, key_tlock]; done)
    | (intro _) | (split) | (refine (key_each _ _ _ ?_).trans ?_) | (refine (key_foldl _ _ _ ?_).trans ?_) | (simp) | (dsimp only))

theorem key_execSlotRunStart (c : StreamIx) (s : State) : keeps (execSlotRunStart c s) s.key := by
  unfold execSlotRunStart
  repeat' (first
    | (simp; done) | (simp [key_mk, key_pending, key_now, key_func, key_revoked, key_reserve, key_mlock, key_tlock]; done)
    | (intro _) | (split) | (refine (key_each _ _ _ ?_).trans ?_) | (refine (key_foldl _ _ _ ?_).trans ?_) | (simp) | (dsimp only))

theorem key_execSlotStartArrive (x : Site) (s : State) : keeps (execSlotStartArrive x s) s.key := by
  unfold execSlotStartArrive
  repeat' (first
    | (simp; done) | (simp [key_mk, key_pending, key_now, key_func, key_revoked, key_reserve, key_mlock, key_tlock]; done)
    | (intro _) | (split) | (refine (key_each _ _ _ ?_).trans ?_) | (refine (key_foldl _ _ _ ?_).trans ?_) | (simp) | (dsimp only))

@[simp] theorem key_State_sendAnc (s : State) (c n : Nat) (l : List (List (List W8))) : (s.sendAnc c n l).key = s.key := by
  induction l generalizing s with
  | nil => rfl
  | cons g l ih =>
    unfold State.sendAnc
    rw [ih]
    simp

@[simp] theorem key_State_ancReport (s : State) (c : Nat) (a : AncWait) (p : Report) : (State.ancReport s c a p).key = s.key := by
  simp [State.ancReport]

theorem key_execAncTransmit (c : StreamIx) (s : State) : keeps (execAncTransmit c s) s.key := by
  unfold execAncTransmit
  dsimp only
  repeat' (first
    | (simp; done) | (simp [key_mk, key_pending, key_now, key_func, key_revoked, key_reserve, key_mlock, key_tlock]; done)
    | (intro _) | (split) | (refine (key_each _ _ _ ?_).trans ?_) | (refine (key_foldl _ _ _ ?_).trans ?_) | (dsimp only) | (simp only [key_ite]))

@[simp] theorem key_State_clearCluster (s : State) (i : Nat) : (State.clearCluster s i).key = s.key := by
  simp [State.clearCluster, key_mk, key_pending, key_now, key_func, key_revoked, key_reserve, key_mlock, key_tlock]

@[simp] theorem key_State_endDescs (s : State) (f : Nat) : (State.endDescs s f).key = s.key := by
  unfold State.endDescs
  repeat' split
  all_goals simp

@[simp] theorem key_State_freeAll (s : State) (f : Nat) : (State.freeAll s f).key = s.key := by
  simp [State.freeAll]

@[simp] theorem key_State_dropBindings (s : State) (f : Nat) : (State.dropBindings s f).key = s.key := by
  simp [State.dropBindings, key_mk, key_pending, key_now, key_func, key_revoked, key_reserve, key_mlock, key_tlock]

@[simp] theorem key_State_markReset (s : State) (f : Nat) : (State.markReset s f).key = s.key := by
  simp [State.markReset, key_mk, key_pending, key_now, key_func, key_revoked, key_reserve, key_mlock, key_tlock]

@[simp] theorem key_State_requestReset (s : State) (f : Nat) : (State.requestReset s f).key = s.key := by
  simp [State.requestReset]

@[simp] theorem key_State_dropConns (s : State) (l : List Nat) : (State.dropConns s l).key = s.key := by
  simp [State.dropConns, key_mk, key_pending, key_now, key_func, key_revoked, key_reserve, key_mlock, key_tlock]

theorem key_execFlr (f : Func) (s : State) : keeps (execFlr f s) s.key := by
  simp [execFlr]

@[simp] theorem key_State_resetVectors (s : State) (h : Nat) : (State.resetVectors s h).key = s.key := by
  simp [State.resetVectors, key_mk, key_pending, key_now, key_func, key_revoked, key_reserve, key_mlock, key_tlock]
theorem key_execHotReset (h : HPort) (s : State) : keeps (execHotReset h s) s.key := by
  simp [execHotReset]

theorem key_execVfEnableSet (h : HPort) (numVfs : Fin 32) (s : State) : keeps (execVfEnableSet h numVfs s) s.key := by
  simp [execVfEnableSet]

theorem key_execVfEnableClear (h : HPort) (s : State) : keeps (execVfEnableClear h s) s.key := by
  simp [execVfEnableClear]

theorem key_execPartitionReset (f target : Func) (s : State) : keeps (execPartitionReset f target s) s.key := by
  simp [execPartitionReset]

@[simp] theorem key_State_partDone (s : State) (f cmd : Nat) (st : W16) : (State.partDone s f cmd st).key = s.key := by
  simp [State.partDone]

theorem key_execAssign (f target : Func) (s : State) : keeps (execAssign f target s) s.key := by
  simp [execAssign]

@[simp] theorem key_State_retirePending (s : State) (i : Nat) : (State.retirePending s i).key = s.key := by
  simp [State.retirePending, key_mk, key_pending, key_now, key_func, key_revoked, key_reserve, key_mlock, key_tlock]

theorem key_execRelease (f target : Func) (s : State) : keeps (execRelease f target s) s.key := by
  simp [execRelease]

theorem key_execResetFlushDone (f : Func) (s : State) : keeps (execResetFlushDone f s) s.key := by
  unfold execResetFlushDone
  repeat' split
  all_goals simp

@[simp] theorem key_State_dropFlight (s : State) (f : Nat) : (State.dropFlight s f).key = s.key := by
  simp [State.dropFlight]

theorem key_execResetFlushLimit (f : Func) (s : State) : keeps (execResetFlushLimit f s) s.key := by
  unfold execResetFlushLimit
  repeat' split
  all_goals simp

@[simp] theorem key_State_clearMemory (s : State) (f : Nat) : (State.clearMemory s f).key = s.key := by
  simp [State.clearMemory]

@[simp] theorem key_State_clearRings (s : State) (f : Nat) : (State.clearRings s f).key = s.key := by
  simp [State.clearRings, key_mk, key_pending, key_now, key_func, key_revoked, key_reserve, key_mlock, key_tlock]

@[simp] theorem key_State_clearStreams (s : State) (f : Nat) : (State.clearStreams s f).key = s.key := by
  simp [State.clearStreams, key_mk, key_pending, key_now, key_func, key_revoked, key_reserve, key_mlock, key_tlock]

@[simp] theorem key_State_clearPartCtrs (s : State) (f : Nat) : (State.clearPartCtrs s f).key = s.key := by
  simp [State.clearPartCtrs, key_mk, key_pending, key_now, key_func, key_revoked, key_reserve, key_mlock, key_tlock]

@[simp] theorem key_State_clearPhase (s : State) (f : Nat) : (State.clearPhase s f).key = s.key := by
  simp [State.clearPhase]

theorem key_execResetClearDone (f : Func) (s : State) : keeps (execResetClearDone f s) s.key := by
  unfold execResetClearDone
  repeat' split
  all_goals simp

theorem key_execPerstDeassert (h : HPort) (s : State) : keeps (execPerstDeassert h s) s.key := by
  simp [execPerstDeassert]

theorem key_execAtsInvalidate (f : Func) (addr : W64) (pasid : BitVec 20) (s : State) : keeps (execAtsInvalidate f addr pasid s) s.key := by
  simp [execAtsInvalidate]





@[simp] theorem key_State_dropCaptures (s : State) (p : Nat → Bool) : (State.dropCaptures s p).key = s.key := by
  simp [State.dropCaptures]

@[simp] theorem key_State_sdeEvent (s : State) (v : Verdict) (i k : Nat) (op core : Nat) (e : W64) : (State.sdeEvent s v i k op core e).key = s.key := by
  simp [State.sdeEvent, key_mk, key_pending, key_now, key_func, key_revoked, key_reserve, key_mlock, key_tlock]

@[simp] theorem key_State_markSde (s : State) (i : Nat) (x : Capture) : (State.markSde s i x).key = s.key := by
  unfold State.markSde
  repeat' split
  all_goals simp

@[simp] theorem key_State_giveVerdict (s : State) (i : Nat) (x : Capture) (v : Verdict) : (State.giveVerdict s i x v).key = s.key := by
  simp [State.giveVerdict]

@[simp] theorem key_State_cleanVerdict (s : State) (i : Nat) (x : Capture) : (State.cleanVerdict s i x).key = s.key := by
  simp [State.cleanVerdict]

@[simp] theorem key_State_countCompared (s : State) (fld : Nat) : (State.countCompared s fld).key = s.key := by
  simp [State.countCompared, key_mk, key_pending, key_now, key_func, key_revoked, key_reserve, key_mlock, key_tlock]

theorem key_execCrumbCompare (x : Site) (checkerBits : List W8) (s : State) : keeps (execCrumbCompare x checkerBits s) s.key := by
  unfold execCrumbCompare
  repeat' (first
    | (simp; done) | (simp [key_mk, key_pending, key_now, key_func, key_revoked, key_reserve, key_mlock, key_tlock]; done)
    | (intro _) | (split) | (refine (key_each _ _ _ ?_).trans ?_) | (refine (key_foldl _ _ _ ?_).trans ?_) | (simp) | (dsimp only))

theorem key_execCrumbSecondCheck (x : Site) (secondBits : List W8) (s : State) : keeps (execCrumbSecondCheck x secondBits s) s.key := by
  unfold execCrumbSecondCheck
  repeat' (first
    | (simp; done) | (simp [key_mk, key_pending, key_now, key_func, key_revoked, key_reserve, key_mlock, key_tlock]; done)
    | (intro _) | (split) | (refine (key_each _ _ _ ?_).trans ?_) | (refine (key_foldl _ _ _ ?_).trans ?_) | (simp) | (dsimp only))

theorem key_execCrumbUndecided (x : Site) (s : State) : keeps (execCrumbUndecided x s) s.key := by
  unfold execCrumbUndecided
  repeat' (first
    | (simp; done) | (simp [key_mk, key_pending, key_now, key_func, key_revoked, key_reserve, key_mlock, key_tlock]; done)
    | (intro _) | (split) | (refine (key_each _ _ _ ?_).trans ?_) | (refine (key_foldl _ _ _ ?_).trans ?_) | (simp) | (dsimp only))

@[simp] theorem key_State_rateAgain (s : State) (fld : Nat) : (State.rateAgain s fld).key = s.key := by
  simp [State.rateAgain, key_mk, key_pending, key_now, key_func, key_revoked, key_reserve, key_mlock, key_tlock]

theorem key_execIntegRateLow (fld : FieldIx) (checked compared : Nat) (s : State) :
    keeps (execIntegRateLow fld checked compared s) s.key := by
  simp [execIntegRateLow]

@[simp] theorem key_State_pairHalt (s : State) (i : Nat) (x : PairInfo) : (State.pairHalt s i x).key = s.key := by
  simp [State.pairHalt]

theorem key_execPairCompare (x : Site) (s : State) : keeps (execPairCompare x s) s.key := by
  unfold execPairCompare
  repeat' (first
    | (simp; done) | (simp [key_mk, key_pending, key_now, key_func, key_revoked, key_reserve, key_mlock, key_tlock]; done)
    | (intro _) | (split) | (refine (key_each _ _ _ ?_).trans ?_) | (refine (key_foldl _ _ _ ?_).trans ?_) | (simp) | (dsimp only))

theorem key_execPairWaitTimeout (x : Site) (s : State) : keeps (execPairWaitTimeout x s) s.key := by
  unfold execPairWaitTimeout
  repeat' (first
    | (simp; done) | (simp [key_mk, key_pending, key_now, key_func, key_revoked, key_reserve, key_mlock, key_tlock]; done)
    | (intro _) | (split) | (refine (key_each _ _ _ ?_).trans ?_) | (refine (key_foldl _ _ _ ?_).trans ?_) | (simp) | (dsimp only))

@[simp] theorem key_State_mapDirty (s : State) : (State.mapDirty s).key = s.key := by
  simp [State.mapDirty, key_mk, key_pending, key_now, key_func, key_revoked, key_reserve, key_mlock, key_tlock]

@[simp] theorem key_State_quarDone (s : State) (cmd : Nat) (st : W16) : (State.quarDone s cmd st).key = s.key := by
  simp [State.quarDone, key_mk, key_pending, key_now, key_func, key_revoked, key_reserve, key_mlock, key_tlock]

theorem key_execQuarantine (f : Func) (s : State) : keeps (execQuarantine f s) s.key := by
  unfold execQuarantine
  repeat' split
  all_goals simp

theorem key_execReturnToSpare (f : Func) (s : State) : keeps (execReturnToSpare f s) s.key := by
  unfold execReturnToSpare
  repeat' split
  all_goals simp

theorem key_execIntegLinSelWrite (f : Func) (value : W32) (s : State) : keeps (execIntegLinSelWrite f value s) s.key := by
  simp [execIntegLinSelWrite, key_mk, key_pending, key_now, key_func, key_revoked, key_reserve, key_mlock, key_tlock]

@[simp] theorem key_State_moveSite (s : State) (f c : Nat) (ss : List Section) (e : BitVec 2) (m : Move) : (State.moveSite s f c ss e m).key = s.key := by
  simp [State.moveSite]

@[simp] theorem key_State_restartAt (s : State) (f : Nat) (ss : List Section) (all : Bool) (moved : List (Nat × Nat)) (e : BitVec 2) (i : Nat) : (State.restartAt s f ss all moved e i).key = s.key := by
  simp [State.restartAt]

@[simp] theorem key_State_remapCommit (s : State) (f c : Nat) (l : List Move) : (State.remapCommit s f c l).key = s.key := by
  simp [State.remapCommit]

@[simp] theorem key_State_leaveSite (s : State) (i : Nat) : (State.leaveSite s i).key = s.key := by
  simp [State.leaveSite]

@[simp] theorem key_State_remapEnd (s : State) (d : Desc) : (State.remapEnd s d).key = s.key := by
  simp [State.remapEnd]

@[simp] theorem key_State_readSections (s : State) (l : List Move) : (State.readSections s l).key = s.key := by
  simp [State.readSections]

@[simp] theorem key_State_startRemap (s : State) (d : Desc) : (State.startRemap s d).key = s.key := by
  unfold State.startRemap
  repeat' (first
    | (simp; done) | (simp [key_mk, key_pending, key_now, key_func, key_revoked, key_reserve, key_mlock, key_tlock]; done)
    | (intro _) | (split) | (refine (key_each _ _ _ ?_).trans ?_) | (refine (key_foldl _ _ _ ?_).trans ?_) | (simp) | (dsimp only))

theorem key_execRemap (r : DescRef) (s : State) : keeps (execRemap r s) s.key := by
  unfold execRemap
  repeat' split
  all_goals simp

@[simp] theorem key_State_sendFrame (s : State) (p : Nat) (seq : W32) (m : Option TowMsg) : (State.sendFrame s p seq m).key = s.key := by
  simp [State.sendFrame]

@[simp] theorem key_State_sendData (s : State) (p : Nat) (m : TowMsg) : (State.sendData s p m).key = s.key := by
  simp [State.sendData]

theorem key_towSet (s : State) (x : Tow) (h : x.lock = s.tow.lock) : ({ s with tow := x } : State).key = s.key := by
  simp [State.key, h]

@[simp] theorem key_State_drainOut (l : List TowMsg) (x : List (Nat × Nat)) (s : State) : (State.drainOut l x s).key = s.key := by
  induction l generalizing x s with
  | nil => rfl
  | cons m l ih =>
    unfold State.drainOut
    dsimp only
    split
    · exact (ih _ _).trans rfl
    · split
      · exact (ih _ _).trans (key_State_sendData s _ _)
      · exact (ih _ _).trans rfl

@[simp] theorem key_State_towDrain (s : State) : s.towDrain.key = s.key := (key_State_drainOut _ _ _).trans rfl

@[simp] theorem key_State_sendTow (s : State) (m : TowMsg) : (State.sendTow s m).key = s.key := by
  simp [State.sendTow, key_mk, key_pending, key_now, key_func, key_revoked, key_reserve, key_mlock, key_tlock]

@[simp] theorem key_State_answerTow (s : State) (m : TowMsg) (msg : W8) : (State.answerTow s m msg).key = s.key := by
  simp [State.answerTow]

@[simp] theorem key_State_answerRacc (s : State) (p : Packet) : (State.answerRacc s p).key = s.key := by
  simp [State.answerRacc]

@[simp] theorem key_State_voidRecord (s : State) (f : Fwd) : (State.voidRecord s f).key = s.key := by
  simp [State.voidRecord, key_mk, key_pending, key_now, key_func, key_revoked, key_reserve, key_mlock, key_tlock]

@[simp] theorem key_State_linkPart (s : State) (p : Nat) (h : TowHead) : (State.linkPart s p h).key = s.key := by
  simp [State.linkPart]

@[simp] theorem key_State_towAccept (s : State) (p : Nat) (m : TowMsg) : (State.towAccept s p m).key = s.key := by
  simp [State.towAccept]

theorem key_execTowDataFrame (p : EPort) (fcsGood : Bool) (h : TowHead) (m : TowMsg) (s : State) : keeps (execTowDataFrame p fcsGood h m s) s.key := by
  simp [execTowDataFrame]

theorem key_execTowLinkFrame (p : EPort) (fcsGood : Bool) (h : TowHead) (s : State) : keeps (execTowLinkFrame p fcsGood h s) s.key := by
  unfold execTowLinkFrame
  repeat' (first
    | (simp; done) | (simp [key_mk, key_pending, key_now, key_func, key_revoked, key_reserve, key_mlock, key_tlock]; done)
    | (intro _) | (split) | (refine (key_each _ _ _ ?_).trans ?_) | (refine (key_foldl _ _ _ ?_).trans ?_) | (simp) | (dsimp only))

theorem key_execTowAckSend (p : EPort) (s : State) : keeps (execTowAckSend p s) s.key := by
  unfold execTowAckSend
  repeat' (first
    | (simp; done) | (simp [key_mk, key_pending, key_now, key_func, key_revoked, key_reserve, key_mlock, key_tlock]; done)
    | (intro _) | (split) | (refine (key_each _ _ _ ?_).trans ?_) | (refine (key_foldl _ _ _ ?_).trans ?_) | (simp) | (dsimp only))

@[simp] theorem key_State_towLinkEvent (s : State) (p : Nat) (up : Bool) : (State.towLinkEvent s p up).key = s.key := by
  simp [State.towLinkEvent]

theorem key_execTowLinkDown (p : EPort) (s : State) : keeps (execTowLinkDown p s) s.key := by
  simp [execTowLinkDown]

theorem key_execTowLinkUp (p : EPort) (s : State) : keeps (execTowLinkUp p s) s.key := by
  simp [execTowLinkUp]

@[simp] theorem key_State_towRelease (s : State) (p : Nat) (m : TowMsg) : (State.towRelease s p m).key = s.key := by
  simp [State.towRelease]

theorem key_execTowForward (p : EPort) (s : State) : keeps (execTowForward p s) s.key := by
  unfold execTowForward
  repeat' (first
    | (simp; done) | (simp [key_mk, key_pending, key_now, key_func, key_revoked, key_reserve, key_mlock, key_tlock]; done)
    | (intro _) | (split) | (refine (key_each _ _ _ ?_).trans ?_) | (refine (key_foldl _ _ _ ?_).trans ?_) | (simp) | (dsimp only))

@[simp] theorem key_State_matIssue (s : State) (r : CoreRef) (kind : MatKind) (op : Nat) (ga gb : GReg) (tile : BitVec 12) (acc : Bool) : (State.matIssue s r kind op ga gb tile acc).key = s.key := by
  simp [State.matIssue]

theorem key_execMma (r : CoreRef) (ga gb : GReg) (tile : BitVec 12) (acc : Bool) (s : State) : keeps (execMma r ga gb tile acc s) s.key := by
  simp [execMma]

theorem key_execMms (r : CoreRef) (ga gb : GReg) (tile : BitVec 12) (acc : Bool) (s : State) : keeps (execMms r ga gb tile acc s) s.key := by
  simp [execMms]

theorem key_execMmp (r : CoreRef) (ga gb : GReg) (tile : BitVec 12) (acc : Bool) (s : State) : keeps (execMmp r ga gb tile acc s) s.key := by
  simp [execMmp]

theorem key_execTzero (r : CoreRef) (tile : BitVec 12) (s : State) : keeps (execTzero r tile s) s.key := by
  simp [execTzero]

@[simp] theorem key_State_matCorrect (s : State) (i n : Nat) (o : MatOp) : (State.matCorrect s i n o).key = s.key := by
  unfold State.matCorrect
  repeat' split
  all_goals simp

@[simp] theorem key_State_countPass (s : State) (i t : Nat) : (State.countPass s i t).key = s.key := by
  simp [State.countPass]

@[simp] theorem key_State_bumpOwner (s : State) (i off n : Nat) : (State.bumpOwner s i off n).key = s.key := by
  unfold State.bumpOwner
  repeat' split
  all_goals simp

@[simp] theorem key_State_markMakeup (s : State) (i : Nat) : (State.markMakeup s i).key = s.key := by
  unfold State.markMakeup
  repeat' split
  all_goals simp

@[simp] theorem key_State_shadowStart (s : State) (i : Nat) (o : MatOp) : (State.shadowStart s i o).key = s.key := by
  unfold State.shadowStart
  have h : ∀ (c : Prop) [Decidable c] (u : State), u.key = s.key → (if c then (u.bumpOwner i 0x330 1).markMakeup i else u).key = s.key := by
    intro c _ u hu
    split
    · exact (key_State_markMakeup _ _).trans ((key_State_bumpOwner _ _ _ _).trans hu)
    · exact hu
  exact h _ _ (key_State_modClu _ _ _)

@[simp] theorem key_State_decideTile (s : State) (i : Nat) (o : MatOp) : (State.decideTile s i o).key = s.key := by
  simp [State.decideTile]

@[simp] theorem key_State_predStart (s : State) (i : Nat) (o : MatOp) : (State.predStart s i o).key = s.key := by
  simp [State.predStart]

@[simp] theorem key_State_mmsStart (s : State) (r : CoreRef) (o : MatOp) : (State.mmsStart s r o).key = s.key := by
  simp [State.mmsStart]

theorem key_execPassStart (r : CoreRef) (s : State) : keeps (execPassStart r s) s.key := by
  unfold execPassStart
  repeat' (first
    | (simp; done) | (simp [key_mk, key_pending, key_now, key_func, key_revoked, key_reserve, key_mlock, key_tlock]; done)
    | (intro _) | (split) | (refine (key_each _ _ _ ?_).trans ?_) | (refine (key_foldl _ _ _ ?_).trans ?_) | (simp) | (dsimp only))

@[simp] theorem key_State_matComplete (s : State) (r : CoreRef) (m : MatRun) : (State.matComplete s r m).key = s.key := by
  unfold State.matComplete
  dsimp only
  split
  · exact key_State_modClu _ _ _
  · split
    · exact (key_State_capture _ _ _ _ _ _).trans (key_State_modClu _ _ _)
    · refine (key_State_capture _ _ _ _ _ _).trans ?_
      split
      · exact (key_State_bumpOwner _ _ _ _).trans (key_State_modClu _ _ _)
      · exact key_State_modClu _ _ _

theorem key_execStealChunk (r : CoreRef) (s : State) : keeps (execStealChunk r s) s.key := by
  unfold execStealChunk
  repeat' (first
    | (simp; done) | (simp [key_mk, key_pending, key_now, key_func, key_revoked, key_reserve, key_mlock, key_tlock]; done)
    | (intro _) | (split) | (refine (key_each _ _ _ ?_).trans ?_) | (refine (key_foldl _ _ _ ?_).trans ?_) | (simp) | (dsimp only))

theorem key_execMmsApply (r : CoreRef) (s : State) : keeps (execMmsApply r s) s.key := by
  unfold execMmsApply
  repeat' (first
    | (simp; done) | (simp [key_mk, key_pending, key_now, key_func, key_revoked, key_reserve, key_mlock, key_tlock]; done)
    | (intro _) | (split) | (refine (key_each _ _ _ ?_).trans ?_) | (refine (key_foldl _ _ _ ?_).trans ?_) | (simp) | (dsimp only))

@[simp] theorem key_State_vecIssue (s : State) (r : CoreRef) (w : W32) (o : VecOp) (now : List Range) (faults : List (Bool × CoreFault)) : (State.vecIssue s r w o now faults).key = s.key := by
  simp [State.vecIssue]

theorem key_execVop (r : CoreRef) (fn : VopFn) (gd ga gb : GReg) (spec : BitVec 5) (s : State) : keeps (execVop r fn gd ga gb spec s) s.key := by
  simp [execVop]

theorem key_execVcvt (r : CoreRef) (gd ga gb : GReg) (spec1 spec2 : BitVec 5) (sat sup : Bool) (s : State) : keeps (execVcvt r gd ga gb spec1 spec2 sat sup s) s.key := by
  simp [execVcvt]

theorem key_execSpill (r : CoreRef) (gd : GReg) (tile : BitVec 12) (init : Bool) (s : State) : keeps (execSpill r gd tile init s) s.key := by
  simp [execSpill]

@[simp] theorem key_State_vecComplete (s : State) (r : CoreRef) (v : VecIssue) : (State.vecComplete s r v).key = s.key := by
  simp [State.vecComplete]

theorem key_execUnitComplete (r : CoreRef) (u : CoreUnit) (s : State) : keeps (execUnitComplete r u s) s.key := by
  unfold execUnitComplete
  repeat' (first
    | (simp; done) | (simp [key_mk, key_pending, key_now, key_func, key_revoked, key_reserve, key_mlock, key_tlock]; done)
    | (intro _) | (split) | (refine (key_each _ _ _ ?_).trans ?_) | (refine (key_foldl _ _ _ ?_).trans ?_) | (simp) | (dsimp only))

@[simp] theorem key_State_vgDone (s : State) (g cmd : Nat) (st : W16) : (State.vgDone s g cmd st).key = s.key := by
  simp [State.vgDone]

theorem key_execTowVgLoad (f : Func) (g : VGroup) (s : State) : keeps (execTowVgLoad f g s) s.key := by
  unfold execTowVgLoad
  repeat' (first
    | (simp; done) | (simp [key_mk, key_pending, key_now, key_func, key_revoked, key_reserve, key_mlock, key_tlock]; done)
    | (intro _) | (split) | (refine (key_each _ _ _ ?_).trans ?_) | (refine (key_foldl _ _ _ ?_).trans ?_) | (simp) | (dsimp only))

theorem key_execTowVgClear (f : Func) (g : VGroup) (s : State) : keeps (execTowVgClear f g s) s.key := by
  simp [execTowVgClear]

@[simp] theorem key_State_freeBuffers (s : State) (g parity : Nat) : (State.freeBuffers s g parity).key = s.key := by
  simp [State.freeBuffers]

@[simp] theorem key_State_endStep (s : State) (g : Nat) (p : Report) (home : Bool) : (State.endStep s g p home).key = s.key := by
  unfold State.endStep
  repeat' split
  all_goals simp

@[simp] theorem key_State_verdictIn (s : State) (g eng : Nat) (st : W16) : (State.verdictIn s g eng st).key = s.key := by
  unfold State.verdictIn
  repeat' split
  all_goals simp

@[simp] theorem key_State_sendVerdict (s : State) (g : Nat) (t : TStep) (st : W16) : (State.sendVerdict s g t st).key = s.key := by
  simp [State.sendVerdict]

@[simp] theorem key_State_doneIn (s : State) (g : Nat) (d : DoneMsg) : (State.doneIn s g d).key = s.key := by
  simp [State.doneIn]

@[simp] theorem key_State_holdOrGive (s : State) (m : TowMsg) : (State.holdOrGive s m).key = s.key := by
  simp [State.holdOrGive]

theorem key_execStepBegin (r : DescRef) (s : State) : keeps (execStepBegin r s) s.key := by
  simp [execStepBegin]

@[simp] theorem key_State_startCommit (s : State) (d : Desc) (t : TStep) : (State.startCommit s d t).key = s.key := by
  simp [State.startCommit]

theorem key_execStepCommit (r : DescRef) (s : State) : keeps (execStepCommit r s) s.key := by
  refine key_State_beginDesc _ _ _ _ _ (fun d t => ?_)
  repeat' split
  all_goals simp

theorem key_execStepDeadline (g : VGroup) (s : State) : keeps (execStepDeadline g s) s.key := by
  unfold execStepDeadline
  repeat' split
  all_goals simp

@[simp] theorem key_State_vgStale (s : State) (g : Nat) : (State.vgStale s g).key = s.key := by
  simp [State.vgStale]

@[simp] theorem key_State_accumulate (s : State) (a : Nat) (l : List Int) : (s.accumulate a l).key = s.key := by
  induction l generalizing s a with
  | nil => rfl
  | cons q l ih => exact (ih _ _).trans (key_State_devWrite _ _ _)

theorem key_homeAdd (s s1 : State) (g : Nat) (step : W32) (b : List W8) (h : s.homeAdd g step b = some s1) : s1.key = s.key := by
  unfold State.homeAdd at h
  dsimp only at h
  repeat' split at h
  all_goals simp at h
  subst h
  simp

@[simp] theorem key_State_forward (s : State) (p : Packet) (g : Nat) (t : TStep) (home : Nat) : (State.forward s p g t home).key = s.key := by
  simp [State.forward, key_mk, key_pending, key_now, key_func, key_revoked, key_reserve, key_mlock, key_tlock]

theorem key_execRacc (id : Nat) (s : State) : keeps (execRacc id s) s.key := by
  unfold execRacc
  dsimp only
  repeat' split
  all_goals first
    | rfl
    | (simp; done)
    | skip
  all_goals (have h := key_homeAdd _ _ _ _ _ ‹_›; simp [h])

theorem key_execRaccAck (id : Nat) (s : State) : keeps (execRaccAck id s) s.key := by
  unfold execRaccAck
  repeat' split
  all_goals simp

theorem key_towTake (s : State) (p : Nat) (t : W8) (eff : TowMsg → State → Option State)
    (heff : ∀ m u v, eff m u = some v → v.key = u.key) : keeps (State.towTake s p t eff) s.key := by
  unfold State.towTake
  dsimp only
  split
  · rfl
  · split
    · simp
    · split
      · exact (heff _ _ _ ‹_›).trans (by simp)
      · rfl

theorem key_addRecords (s : State) (g : Nat) (step : W32) (l : List (List W8)) : (State.addRecords s g step l).1.key = s.key := by
  induction l generalizing s with
  | nil => rfl
  | cons b l ih =>
    unfold State.addRecords
    split
    · exact (ih _).trans (key_homeAdd _ _ _ _ _ ‹_›)
    · exact (ih _).trans (by simp)

theorem key_execTowRacc (p : EPort) (s : State) : keeps (execTowRacc p s) s.key := by
  refine key_towTake _ _ _ _ (fun m u v h => ?_)
  simp at h
  subst h
  split
  · simp [key_addRecords]
  · simp [key_addRecords]

theorem key_execTowRaccAck (p : EPort) (s : State) : keeps (execTowRaccAck p s) s.key := by
  refine key_towTake _ _ _ _ (fun m u v h => ?_)
  split at h
  · simp at h; subst h; rfl
  · simp at h; subst h; exact (key_State_answerRacc _ _).trans rfl

theorem key_execTowAckTimeout (mtag : W32) (s : State) : keeps (execTowAckTimeout mtag s) s.key := by
  unfold execTowAckTimeout
  repeat' split
  all_goals simp

theorem key_execTowDone (p : EPort) (s : State) : keeps (execTowDone p s) s.key := by
  refine key_towTake _ _ _ _ (fun m u v h => ?_)
  simp at h; subst h; simp

theorem key_execTowVerdict (p : EPort) (s : State) : keeps (execTowVerdict p s) s.key := by
  refine key_towTake _ _ _ _ (fun m u v h => ?_)
  simp at h; subst h; simp

theorem key_execTowParamAck (p : EPort) (s : State) : keeps (execTowParamAck p s) s.key := by
  refine key_towTake _ _ _ _ (fun m u v h => ?_)
  dsimp only at h
  split at h
  · simp at h; subst h; rfl
  · simp only [Option.some.injEq] at h
    subst h
    split <;> simp

@[simp] theorem key_State_writeNext (s : State) (g a : Nat) (bs : List W8) : (State.writeNext s g a bs).key = s.key := by
  simp [State.writeNext]

@[simp] theorem key_State_runBlock (s : State) (g : Nat) (t : TStep) (c : Commit) (e : Block × Nat) : (State.runBlock s g t c e).key = s.key := by
  simp [State.runBlock]

theorem key_execParamUpdate (g : VGroup) (s : State) : keeps (execParamUpdate g s) s.key := by
  unfold execParamUpdate
  repeat' (first
    | (simp; done) | (simp [key_mk, key_pending, key_now, key_func, key_revoked, key_reserve, key_mlock, key_tlock]; done)
    | (intro _) | (split) | (refine (key_each _ _ _ ?_).trans ?_) | (refine (key_foldl _ _ _ ?_).trans ?_) | (simp) | (dsimp only))

theorem key_execTowParam (p : EPort) (s : State) : keeps (execTowParam p s) s.key := by
  refine key_towTake _ _ _ _ (fun m u v h => ?_)
  dsimp only at h
  repeat' split at h
  all_goals simp at h
  all_goals (subst h; simp)

@[simp] theorem key_State_modEnds (s : State) (l : LinkEnd) (f : Link → Link) : (State.modEnds s l f).key = s.key := by
  simp [State.modEnds]

theorem key_execLinkRetrain (l : LinkEnd) (s : State) : keeps (execLinkRetrain l s) s.key := by
  simp [execLinkRetrain]

@[simp] theorem key_State_fieldEvent (s : State) (fld : Nat) (typ : W16) (data : Nat) : (State.fieldEvent s fld typ data).key = s.key := by
  simp [State.fieldEvent]

@[simp] theorem key_State_loadLost (s : State) (f c fld : Nat) : (State.loadLost s f c fld).key = s.key := by
  unfold State.loadLost
  repeat' split
  all_goals simp

@[simp] theorem key_State_expose (s : State) : (State.expose s).key = s.key := by
  simp [State.expose, key_mk, key_pending, key_now, key_func, key_revoked, key_reserve, key_mlock, key_tlock]

@[simp] theorem key_State_mboxSet (s : State) (op : Nat) (busy : Bool) (st : W16) : (State.mboxSet s op busy st).key = s.key := by
  simp [State.mboxSet, key_mk, key_pending, key_now, key_func, key_revoked, key_reserve, key_mlock, key_tlock]

@[simp] theorem key_State_goDark (s : State) (fld : Nat) (locked : Bool) : (State.goDark s fld locked).key = s.key := by
  simp [State.goDark]

theorem key_execRegionShort (fld : FieldIx) (s : State) : keeps (execRegionShort fld s) s.key := by
  unfold execRegionShort
  repeat' split
  all_goals simp

@[simp] theorem key_State_mboxCommand (s : State) (f op : Nat) (ok : Bool) (eff : State → State) (heff : ∀ t, (eff t).key = t.key) :
    (State.mboxCommand s f op ok eff).key = s.key := by
  unfold State.mboxCommand
  repeat' split
  all_goals simp [heff]

theorem key_execRegionOn (f : Func) (s : State) : keeps (execRegionOn f s) s.key := by
  simp [execRegionOn]

@[simp] theorem key_State_fieldBack (s : State) (fld : Nat) : (State.fieldBack s fld).key = s.key := by
  simp [State.fieldBack]

@[simp] theorem key_State_spare (s : State) (i : Nat) (d : Dir) (failed : List LaneEx) (good : Bool) : (State.spare s i d failed good).key = s.key := by
  unfold State.spare
  repeat' split
  all_goals simp

theorem key_execLinkRetrainEnd (l : LinkEnd) (found : LinkFinding) (s : State) : keeps (execLinkRetrainEnd l found s) s.key := by
  simp [execLinkRetrainEnd]

@[simp] theorem key_State_changeFabric (s : State) (fld : Nat) (slow : Bool) : (State.changeFabric s fld slow).key = s.key := by
  simp [State.changeFabric]

theorem key_execFabricBin (f : Func) (s : State) : keeps (execFabricBin f s) s.key := by
  refine key_State_mboxCommand _ _ _ _ _ (fun t => ?_)
  repeat' split
  all_goals simp

theorem key_execFabricChangeDone (fld : FieldIx) (s : State) : keeps (execFabricChangeDone fld s) s.key := by
  unfold execFabricChangeDone
  repeat' (first
    | (simp; done) | (simp [key_mk, key_pending, key_now, key_func, key_revoked, key_reserve, key_mlock, key_tlock]; done)
    | (intro _) | (split) | (refine (key_each _ _ _ ?_).trans ?_) | (refine (key_foldl _ _ _ ?_).trans ?_) | (simp) | (dsimp only))

@[simp] theorem key_State_writeMap (s : State) : (State.writeMap s).key = s.key := by
  simp [State.writeMap, key_mk, key_pending, key_now, key_func, key_revoked, key_reserve, key_mlock, key_tlock]

@[simp] theorem key_State_signRecord (s : State) (x : Signing) : (State.signRecord s x).key = s.key := by
  unfold State.signRecord
  repeat' split
  all_goals simp [key_mk, key_pending, key_now, key_func, key_revoked, key_reserve, key_mlock, key_tlock]

theorem key_execServiceMapWrite (s : State) : keeps (execServiceMapWrite s) s.key := by
  unfold execServiceMapWrite
  repeat' split
  all_goals simp

theorem key_execClockStep (fld : FieldIx) (s : State) : keeps (execClockStep fld s) s.key := by
  simp [execClockStep]

@[simp] theorem key_State_setHold (s : State) (p : Pll) (on : Bool) : (State.setHold s p on).key = s.key := by
  unfold State.setHold
  repeat' split
  all_goals simp [key_mk, key_pending, key_now, key_func, key_revoked, key_reserve, key_mlock, key_tlock]

theorem key_execPllLockLoss (p : Pll) (s : State) : keeps (execPllLockLoss p s) s.key := by
  simp [execPllLockLoss]

theorem key_execPllRelock (p : Pll) (s : State) : keeps (execPllRelock p s) s.key := by
  simp [execPllRelock]

@[simp] theorem key_State_modFeed (s : State) (x : Feed) (f : FeedSt → FeedSt) : (State.modFeed s x f).key = s.key := by
  unfold State.modFeed
  repeat' split
  all_goals simp [key_mk, key_pending, key_now, key_func, key_revoked, key_reserve, key_mlock, key_tlock]

@[simp] theorem key_State_setCap (s : State) (n : Nat) : (State.setCap s n).key = s.key := by
  simp [State.setCap]

@[simp] theorem key_State_capEvent (s : State) : (State.capEvent s).key = s.key := by
  simp [State.capEvent]

@[simp] theorem key_State_feedEvent (s : State) : (State.feedEvent s).key = s.key := by
  simp [State.feedEvent]

theorem key_execFeedPresent (x : Feed) (decivolts : Nat) (s : State) : keeps (execFeedPresent x decivolts s) s.key := by
  simp [execFeedPresent]

@[simp] theorem key_State_capFinish (s : State) : (State.capFinish s).key = s.key := by
  unfold State.capFinish
  rw [key_ite, key_State_capEvent, key_State_setCap]
  split <;> rfl

@[simp] theorem key_State_capMove (s : State) (n watts : Nat) : (State.capMove s n watts).key = s.key := by
  unfold State.capMove
  exact key_State_setCap _ _

theorem key_execCapAdjust (watts : Nat) (s : State) : keeps (execCapAdjust watts s) s.key := by
  unfold execCapAdjust
  dsimp only
  repeat' split
  · rfl
  · exact key_State_capMove _ _ _
  · rfl
  · exact (key_State_capFinish _).trans (key_State_setCap _ _)

@[simp] theorem key_State_spEvent (s : State) (fld : Nat) : (State.spEvent s fld).key = s.key := by
  simp [State.spEvent]

@[simp] theorem key_State_modGate (s : State) (fld : Nat) (f : FieldSt → FieldSt) : (State.modGate s fld f).key = s.key := by
  simp [State.modGate]

theorem key_execCapGateField (watts : Nat) (s : State) : keeps (execCapGateField watts s) s.key := by
  unfold execCapGateField
  repeat' split
  all_goals simp [key_mk, key_pending, key_now, key_func, key_revoked, key_reserve, key_mlock, key_tlock]

theorem key_execCapEnd (s : State) : keeps (execCapEnd s) s.key := by
  simp [execCapEnd, key_mk, key_pending, key_now, key_func, key_revoked, key_reserve, key_mlock, key_tlock]

theorem key_execCapRestoreField (s : State) : keeps (execCapRestoreField s) s.key := by
  unfold execCapRestoreField
  repeat' split
  all_goals simp [key_mk, key_pending, key_now, key_func, key_revoked, key_reserve, key_mlock, key_tlock]

theorem key_execSupplyLinkLoss (s : State) : keeps (execSupplyLinkLoss s) s.key := by
  simp [execSupplyLinkLoss, key_mk, key_pending, key_now, key_func, key_revoked, key_reserve, key_mlock, key_tlock]

theorem key_execSupplyLinkRestore (s : State) : keeps (execSupplyLinkRestore s) s.key := by
  simp [execSupplyLinkRestore, key_mk, key_pending, key_now, key_func, key_revoked, key_reserve, key_mlock, key_tlock]

theorem key_execInletReclose (x : Feed) (s : State) : keeps (execInletReclose x s) s.key := by
  unfold execInletReclose
  repeat' (first
    | (simp; done) | (simp [key_mk, key_pending, key_now, key_func, key_revoked, key_reserve, key_mlock, key_tlock]; done)
    | (intro _) | (split) | (refine (key_each _ _ _ ?_).trans ?_) | (refine (key_foldl _ _ _ ?_).trans ?_) | (simp) | (dsimp only))

@[simp] theorem key_State_setSense (s : State) (x : Sensor) (v : Sense) : (State.setSense s x v).key = s.key := by
  unfold State.setSense
  repeat' split
  all_goals simp [key_mk, key_pending, key_now, key_func, key_revoked, key_reserve, key_mlock, key_tlock]

@[simp] theorem key_State_crustCheck (s : State) (x : Sensor) (v : Sense) : (State.crustCheck s x v).key = s.key := by
  unfold State.crustCheck
  repeat' split
  all_goals simp [key_mk, key_pending, key_now, key_func, key_revoked, key_reserve, key_mlock, key_tlock]

@[simp] theorem key_State_sampleOne (s : State) (x : Sensor) (v : Option Int) : (State.sampleOne s x v).key = s.key := by
  simp [State.sampleOne]

@[simp] theorem key_State_judgeField (s : State) (fld : Nat) : (State.judgeField s fld).key = s.key := by
  simp [State.judgeField]

theorem key_execSnowploughStep (fld : FieldIx) (s : State) : keeps (execSnowploughStep fld s) s.key := by
  unfold execSnowploughStep
  repeat' (first
    | (simp; done) | (simp [key_mk, key_pending, key_now, key_func, key_revoked, key_reserve, key_mlock, key_tlock]; done)
    | (intro _) | (split) | (refine (key_each _ _ _ ?_).trans ?_) | (refine (key_foldl _ _ _ ?_).trans ?_) | (simp) | (dsimp only))

theorem key_execCoolantSample (inlet outlet : Int) (flow : Nat) (s : State) : keeps (execCoolantSample inlet outlet flow s) s.key := by
  simp [execCoolantSample, key_mk, key_pending, key_now, key_func, key_revoked, key_reserve, key_mlock, key_tlock]

theorem key_execPdmSample (site : Site) (monitor : Bool) (raw : W16) (s : State) : keeps (execPdmSample site monitor raw s) s.key := by
  simp [execPdmSample, key_mk, key_pending, key_now, key_func, key_revoked, key_reserve, key_mlock, key_tlock]

theorem key_execThermalModelUpdate (fld : FieldIx) (watts : Nat) (s : State) : keeps (execThermalModelUpdate fld watts s) s.key := by
  simp [execThermalModelUpdate]

@[simp] theorem key_State_retireSite (s : State) (i : Nat) : (State.retireSite s i).key = s.key := by
  simp [State.retireSite, key_mk, key_pending, key_now, key_func, key_revoked, key_reserve, key_mlock, key_tlock]

theorem key_rewaxField (s : State) (fld : Nat) : (s.rewaxField fld).1.key = s.key := by
  unfold State.rewaxField
  dsimp only
  refine (key_each _ _ _ (fun t a => key_State_modClu _ _ _)).trans ((key_State_modField _ _ _).trans (key_each _ _ _ (fun t a => ?_)))
  simp

theorem key_rewaxFields (l : List Nat) (a : State × Bool) : (l.foldl rewaxStep a).1.key = a.1.key := by
  induction l generalizing a with
  | nil => rfl
  | cons x l ih => exact (ih _).trans (key_rewaxField _ _)

theorem key_thmSet (s : State) (x : Thermal) : ({ s with thm := x } : State).key = s.key := rfl

theorem key_pwrSet (s : State) (x : Power) : ({ s with pwr := x } : State).key = s.key := rfl

@[simp] theorem key_State_planStep (s : State) (fld : Nat) : (State.planStep s fld).key = s.key := by
  unfold State.planStep
  repeat' (first
    | (simp; done) | (simp [key_mk, key_pending, key_now, key_func, key_revoked, key_reserve, key_mlock, key_tlock]; done)
    | (intro _) | (split) | (refine (key_each _ _ _ ?_).trans ?_) | (refine (key_foldl _ _ _ ?_).trans ?_) | (simp) | (dsimp only))

@[simp] theorem key_State_endPlan (s : State) (fld : Nat) : (State.endPlan s fld).key = s.key := by
  simp [State.endPlan]

@[simp] theorem key_State_beginPlan (s : State) (fld : Nat) : (State.beginPlan s fld).key = s.key := by
  unfold State.beginPlan
  repeat' (first
    | (simp; done) | (simp [key_mk, key_pending, key_now, key_func, key_revoked, key_reserve, key_mlock, key_tlock]; done)
    | (intro _) | (split) | (refine (key_each _ _ _ ?_).trans ?_) | (refine (key_foldl _ _ _ ?_).trans ?_) | (simp) | (dsimp only))

@[simp] theorem key_State_rewaxAll (s : State) (cause : Nat) : (s.rewaxAll cause).key = s.key := by
  have h : ∀ t : State, ((t.assignCheckers).mapDirty).key = t.key := fun t => by simp
  rw [State.rewaxAll]
  dsimp only
  split
  · refine (key_each _ _ _ (fun t a => key_State_beginPlan t a)).trans ?_
    rw [key_State_raiseWide, key_State_bump, key_State_signRecord, key_thmSet]
    split
    · rw [key_rewaxFields]
    · rw [h, key_rewaxFields]
  · rw [key_State_raiseWide, key_State_bump, key_State_signRecord, key_thmSet]
    split
    · rw [key_rewaxFields]
    · rw [h, key_rewaxFields]

theorem key_execRewax (s : State) : keeps (execRewax s) s.key := by
  unfold execRewax
  repeat' split
  all_goals simp

theorem key_execRewaxNow (f : Func) (s : State) : keeps (execRewaxNow f s) s.key := by
  unfold execRewaxNow
  repeat' split
  all_goals simp

theorem key_execPlanApply (fld : FieldIx) (s : State) : keeps (execPlanApply fld s) s.key := by
  unfold execPlanApply
  repeat' (first
    | (simp; done) | (simp [key_mk, key_pending, key_now, key_func, key_revoked, key_reserve, key_mlock, key_tlock]; done)
    | (intro _) | (split) | (refine (key_each _ _ _ ?_).trans ?_) | (refine (key_foldl _ _ _ ?_).trans ?_) | (simp) | (dsimp only))

theorem key_execVoltageStep (fld : FieldIx) (s : State) : keeps (execVoltageStep fld s) s.key := by
  simp [execVoltageStep]

@[simp] theorem key_State_modBanks (s : State) (ty : Nat) (f : Banks → Banks) : (State.modBanks s ty f).key = s.key := by
  simp [State.modBanks, key_mk, key_pending, key_now, key_func, key_revoked, key_reserve, key_mlock, key_tlock]

@[simp] theorem key_State_imageEvent (s : State) (cause ty src : Nat) (svn : W32) : (State.imageEvent s cause ty src svn).key = s.key := by
  simp [State.imageEvent]

@[simp] theorem key_State_rejectImage (s : State) (src cause ty : Nat) (img : List W8) : (State.rejectImage s src cause ty img).key = s.key := by
  simp [State.rejectImage, key_mk, key_pending, key_now, key_func, key_revoked, key_reserve, key_mlock, key_tlock]

@[simp] theorem key_State_tryPending (s : State) (ty : Nat) : (State.tryPending s ty).key = s.key := by
  unfold State.tryPending
  repeat' split
  all_goals simp

@[simp] theorem key_State_tryActive (s : State) (ty : Nat) : (State.tryActive s ty).key = s.key := by
  simp [State.tryActive]

@[simp] theorem key_State_chooseBank (s : State) (ty : Nat) : (State.chooseBank s ty).key = s.key := by
  simp [State.chooseBank]

theorem key_readRpf (s : State) : ({ s with sec := s.sec.readRpf } : State).key = s.key := by
  have : s.sec.readRpf.revoked = s.sec.revoked := by unfold Sec.readRpf; split <;> rfl
  simp [State.key, this]

@[simp] theorem key_State_chooseLmc (s : State) : (State.chooseLmc s).key = s.key := by
  unfold State.chooseLmc
  dsimp only
  split
  · exact (key_State_chooseBank _ _).trans (key_readRpf s)
  · exact (key_State_modBanks _ _ _).trans (key_readRpf s)

@[simp] theorem key_State_lmcStarts (s : State) : s.lmcStarts.key = s.key := rfl

@[simp] theorem key_State_startLmc (s : State) : (State.startLmc s).key = s.key := by
  unfold State.startLmc
  dsimp only
  split
  · exact (key_State_lmcStarts _).trans (key_State_chooseLmc _)
  · exact (show ∀ u : State, ({ u with sec := { u.sec with recovery := true } } : State).key = u.key from fun _ => rfl) _ |>.trans
      (key_State_chooseLmc _)

@[simp] theorem key_State_activate (s : State) (ty : Nat) : (State.activate s ty).key = s.key := by
  unfold State.activate
  repeat' split
  all_goals simp

@[simp] theorem key_State_raiseCounters (s : State) : (State.raiseCounters s).key = s.key := by
  unfold State.raiseCounters
  dsimp only
  split <;> rfl

@[simp] theorem key_State_secDone (s : State) (op ty : Nat) (st : W16) : (State.secDone s op ty st).key = s.key := by
  simp [State.secDone, key_mk, key_pending, key_now, key_func, key_revoked, key_reserve, key_mlock, key_tlock]

theorem key_execStage (f : Func) (s : State) : keeps (execStage f s) s.key := by
  simp [execStage]

theorem key_execCancel (f : Func) (ty : Fin 16) (s : State) : keeps (execCancel f ty s) s.key := by
  simp [execCancel]

theorem key_execRestoreRpf (counters : List W32) (count : W64) (s : State) : keeps (execRestoreRpf counters count s) s.key := by
  unfold execRestoreRpf
  dsimp only
  repeat' split
  all_goals rfl

theorem key_execRecoveryImage (image : List W8) (s : State) : keeps (execRecoveryImage image s) s.key := by
  simp [execRecoveryImage, key_mk, key_pending, key_now, key_func, key_revoked, key_reserve, key_mlock, key_tlock]

@[simp] theorem key_State_modSpdm (s : State) (c : Nat) (f : SpdmConn → SpdmConn) : (State.modSpdm s c f).key = s.key := by
  simp [State.modSpdm, key_mk, key_pending, key_now, key_func, key_revoked, key_reserve, key_mlock, key_tlock]

@[simp] theorem key_State_signed (s : State) (x : Signing) : (s.signed x).key = s.key := by
  unfold State.signed
  split
  · exact (key_State_modSpdm _ _ _).trans rfl
  · rfl
  · rfl

theorem key_takeNext (s : State) : ({ s with sec := s.sec.takeNext } : State).key = s.key := by
  have : s.sec.takeNext.revoked = s.sec.revoked := by unfold Sec.takeNext; split <;> rfl
  simp [State.key, this]

theorem key_execSigningDone (s : State) : keeps (execSigningDone s) s.key := by
  unfold execSigningDone
  split
  · rfl
  · exact (key_takeNext _).trans (key_State_signed _ _)

@[simp] theorem key_State_reply (s : State) (c : Conn) (a : SpdmAnswer) : (State.reply s c a).key = s.key := by
  simp [State.reply]

@[simp] theorem key_State_negotiated (s : State) (c : Conn) (f : State → State) (hf : ∀ t, (f t).key = t.key) :
    (State.negotiated s c f).key = s.key := by
  unfold State.negotiated
  split
  · rfl
  · split
    · exact hf s
    · rfl

@[simp] theorem key_State_askSigned (s : State) (c : Conn) (r : SignReq) : (State.askSigned s c r).key = s.key := by
  simp [State.askSigned, key_mk, key_pending, key_now, key_func, key_revoked, key_reserve, key_mlock, key_tlock]

theorem key_execGetVersion (c : Conn) (s : State) : keeps (execGetVersion c s) s.key := by
  simp [execGetVersion]

theorem key_execGetCapabilities (c : Conn) (s : State) : keeps (execGetCapabilities c s) s.key := by
  simp [execGetCapabilities]

theorem key_execNegotiateAlgorithms (c : Conn) (s : State) : keeps (execNegotiateAlgorithms c s) s.key := by
  simp [execNegotiateAlgorithms]

theorem key_execGetDigests (c : Conn) (s : State) : keeps (execGetDigests c s) s.key := by
  simp [execGetDigests]

theorem key_execGetCertificate (c : Conn) (slot : W8) (off len : W16) (s : State) : keeps (execGetCertificate c slot off len s) s.key := by
  simp [execGetCertificate]

theorem key_execChallenge (c : Conn) (slot : W8) (nonce : List W8) (s : State) : keeps (execChallenge c slot nonce s) s.key := by
  simp [execChallenge]

theorem key_execGetMeasurements (c : Conn) (op : W8) (sgn : Bool) (nonce : List W8) (s : State) : keeps (execGetMeasurements c op sgn nonce s) s.key := by
  simp [execGetMeasurements, key_mk, key_pending, key_now, key_func, key_revoked, key_reserve, key_mlock, key_tlock]

theorem key_execRespondIfReady (c : Conn) (s : State) : keeps (execRespondIfReady c s) s.key := by
  refine key_State_negotiated _ _ _ (fun t => ?_)
  dsimp only
  split
  · exact (key_State_reply _ _ _).trans (key_State_modSpdm _ _ _)
  · split <;> rfl

theorem key_execReport (c : Conn) (nonce : List W8) (s : State) : keeps (execReport c nonce s) s.key := by
  simp [execReport]

theorem key_execSlhchain (c : Conn) (s : State) : keeps (execSlhchain c s) s.key := by
  simp [execSlhchain]

@[simp] theorem key_State_toStep (s : State) (x : PowerStep) : (State.toStep s x).key = s.key := by
  simp [State.toStep, key_mk, key_pending, key_now, key_func, key_revoked, key_reserve, key_mlock, key_tlock]

@[simp] theorem key_State_regionsOn (s : State) : (State.regionsOn s).key = s.key := by
  simp [State.regionsOn]

@[simp] theorem key_State_bringupFails (s : State) : (State.bringupFails s).key = s.key := by
  simp [State.bringupFails, key_mk, key_pending, key_now, key_func, key_revoked, key_reserve, key_mlock, key_tlock]

theorem key_execBringupStart (s : State) : keeps (execBringupStart s) s.key := by
  simp [execBringupStart, key_mk, key_pending, key_now, key_func, key_revoked, key_reserve, key_mlock, key_tlock]

@[simp] theorem key_State_retireAll (s : State) (p : Nat → Bool) : (State.retireAll s p).key = s.key := by
  simp [State.retireAll]

@[simp] theorem key_State_testLinks (s : State) (x : PhaseFinding) : (State.testLinks s x).key = s.key := by
  simp [State.testLinks]

@[simp] theorem key_State_exclude (s : State) (new : List (StackIx × Nat)) : (State.exclude s new).key = s.key := by
  simp [State.exclude, key_mk, key_pending, key_now, key_func, key_revoked, key_reserve, key_mlock, key_tlock]

@[simp] theorem key_State_selectSites (s : State) : (State.selectSites s).key = s.key := by
  simp [State.selectSites]

@[simp] theorem key_State_merge (s : State) : (State.merge s).key = s.key := by
  simp [State.merge, key_mk, key_pending, key_now, key_func, key_revoked, key_reserve, key_mlock, key_tlock]

@[simp] theorem key_State_margins (s : State) : (State.margins s).key = s.key := by
  unfold State.margins
  repeat' (first
    | (simp; done) | (simp [key_mk, key_pending, key_now, key_func, key_revoked, key_reserve, key_mlock, key_tlock]; done)
    | (intro _) | (split) | (refine (key_each _ _ _ ?_).trans ?_) | (refine (key_foldl _ _ _ ?_).trans ?_) | (simp) | (dsimp only))

@[simp] theorem key_State_mgmtRefuse (s : State) (src : MgmtSource) : (State.mgmtRefuse s src).key = s.key := by
  simp [State.mgmtRefuse]

@[simp] theorem key_State_mgmtEvent (s : State) (src : MgmtSource) (code arg : Nat) : (State.mgmtEvent s src code arg).key = s.key := by
  simp [State.mgmtEvent]

@[simp] theorem key_State_mgmtCommand (s : State) (src : MgmtSource) (code arg : Nat) (anyTime refused : Bool) (eff : State → State)
    (heff : ∀ t, (eff t).key = t.key) : (State.mgmtCommand s src code arg anyTime refused eff).key = s.key := by
  unfold State.mgmtCommand
  repeat' split
  all_goals simp [heff]

@[simp] theorem key_State_setBusy (s : State) (b : Option Nat) : (State.setBusy s b).key = s.key := by
  simp [State.setBusy, key_mk, key_pending, key_now, key_func, key_revoked, key_reserve, key_mlock, key_tlock]

theorem key_execSetAutoOn (src : MgmtSource) (on : Bool) (s : State) : keeps (execSetAutoOn src on s) s.key :=
  key_State_mgmtCommand _ _ _ _ _ _ _ (fun _ => rfl)

theorem key_execHoursUpdate (hours : W32) (s : State) : keeps (execHoursUpdate hours s) s.key := by
  simp [execHoursUpdate, key_mk, key_pending, key_now, key_func, key_revoked, key_reserve, key_mlock, key_tlock]

theorem key_execI3cEntdaa (addr : BitVec 7) (s : State) : keeps (execI3cEntdaa addr s) s.key := by
  simp [execI3cEntdaa, key_mk, key_pending, key_now, key_func, key_revoked, key_reserve, key_mlock, key_tlock]

theorem key_execMgmtPortLink (up : Bool) (s : State) : keeps (execMgmtPortLink up s) s.key := by
  simp [execMgmtPortLink, key_mk, key_pending, key_now, key_func, key_revoked, key_reserve, key_mlock, key_tlock]

theorem key_execCounterClear (f : Func) (off : Fin 67108864) (s : State) : keeps (execCounterClear f off s) s.key := by
  simp [execCounterClear]

theorem key_execCounterLowRead (f : Func) (off : Fin 67108864) (s : State) : keeps (execCounterLowRead f off s) s.key := by
  unfold execCounterLowRead
  dsimp only
  split
  · rfl
  · split
    · exact key_execBarBadAccess _ _ _ _ _ _
    · repeat' split
      all_goals rfl

@[simp] theorem key_State_writeMsix (s : State) (f k : Nat) (v : W32) : (State.writeMsix s f k v).key = s.key := by
  simp [State.writeMsix, key_mk, key_pending, key_now, key_func, key_revoked, key_reserve, key_mlock, key_tlock]

theorem key_State_writeCluster (s : State) (i o : Nat) (v : W32) : keeps (State.writeCluster s i o v) s.key := by
  simp [State.writeCluster]

@[simp] theorem key_State_tableRead (s : State) (r : CoreRef) : (State.tableRead s r).key = s.key := by
  unfold State.tableRead
  dsimp only
  split <;> simp

theorem key_execBlockDecision (r : CoreRef) (s : State) : keeps (execBlockDecision r s) s.key := by
  unfold execBlockDecision
  repeat' (first
    | (simp; done) | (simp [key_mk, key_pending, key_now, key_func, key_revoked, key_reserve, key_mlock, key_tlock]; done)
    | (intro _) | (split) | (refine (key_each _ _ _ ?_).trans ?_) | (refine (key_foldl _ _ _ ?_).trans ?_) | (simp) | (dsimp only))

theorem key_execAlu (r : CoreRef) (fn : AluFn) (gd ga gb : GReg) (s : State) : keeps (execAlu r fn gd ga gb s) s.key := by
  simp [execAlu]

theorem key_execAddi (r : CoreRef) (gd ga : GReg) (imm : BitVec 18) (s : State) : keeps (execAddi r gd ga imm s) s.key := by
  simp [execAddi]

theorem key_execAndi (r : CoreRef) (gd ga : GReg) (imm : BitVec 18) (s : State) : keeps (execAndi r gd ga imm s) s.key := by
  simp [execAndi]

theorem key_execOri (r : CoreRef) (gd ga : GReg) (imm : BitVec 18) (s : State) : keeps (execOri r gd ga imm s) s.key := by
  simp [execOri]

theorem key_execXori (r : CoreRef) (gd ga : GReg) (imm : BitVec 18) (s : State) : keeps (execXori r gd ga imm s) s.key := by
  simp [execXori]

theorem key_execLui (r : CoreRef) (gd : GReg) (imm : BitVec 18) (s : State) : keeps (execLui r gd imm s) s.key := by
  simp [execLui]

theorem key_execSlti (r : CoreRef) (gd ga : GReg) (imm : BitVec 18) (s : State) : keeps (execSlti r gd ga imm s) s.key := by
  simp [execSlti]

theorem key_execLdw (r : CoreRef) (gd ga : GReg) (imm : BitVec 18) (s : State) : keeps (execLdw r gd ga imm s) s.key := by
  simp [execLdw]

theorem key_execStw (r : CoreRef) (gd ga : GReg) (imm : BitVec 18) (s : State) : keeps (execStw r gd ga imm s) s.key := by
  simp [execStw]

theorem key_execBr (r : CoreRef) (cond : Cond) (ga gb : GReg) (off : BitVec 15) (s : State) : keeps (execBr r cond ga gb off s) s.key := by
  simp [execBr]

theorem key_execEndBlock (r : CoreRef) (s : State) : keeps (execEndBlock r s) s.key := by
  simp [execEndBlock]

theorem key_execDone (r : CoreRef) (s : State) : keeps (execDone r s) s.key := by
  simp [execDone]

theorem key_execPop (r : CoreRef) (g : GReg) (q : QPort) (s : State) : keeps (execPop r g q s) s.key := by
  unfold execPop
  repeat' (first
    | (simp; done) | (simp [key_mk, key_pending, key_now, key_func, key_revoked, key_reserve, key_mlock, key_tlock]; done)
    | (intro _) | (split) | (refine (key_each _ _ _ ?_).trans ?_) | (refine (key_foldl _ _ _ ?_).trans ?_) | (simp) | (dsimp only))

theorem key_execPush (r : CoreRef) (g : GReg) (q : QPort) (s : State) : keeps (execPush r g q s) s.key := by
  unfold execPush
  repeat' (first
    | (simp; done) | (simp [key_mk, key_pending, key_now, key_func, key_revoked, key_reserve, key_mlock, key_tlock]; done)
    | (intro _) | (split) | (refine (key_each _ _ _ ?_).trans ?_) | (refine (key_foldl _ _ _ ?_).trans ?_) | (simp) | (dsimp only))

theorem key_execPeek (r : CoreRef) (g : GReg) (q : QPort) (s : State) : keeps (execPeek r g q s) s.key := by
  unfold execPeek
  repeat' (first
    | (simp; done) | (simp [key_mk, key_pending, key_now, key_func, key_revoked, key_reserve, key_mlock, key_tlock]; done)
    | (intro _) | (split) | (refine (key_each _ _ _ ?_).trans ?_) | (refine (key_foldl _ _ _ ?_).trans ?_) | (simp) | (dsimp only))

theorem key_execKset (r : CoreRef) (g : GReg) (kr : KReg) (imm : W16) (s : State) : keeps (execKset r g kr imm s) s.key := by
  simp [execKset]

theorem key_execKadd (r : CoreRef) (g : GReg) (kr : KReg) (imm : W16) (s : State) : keeps (execKadd r g kr imm s) s.key := by
  simp [execKadd]

theorem key_execKget (r : CoreRef) (g : GReg) (kr : KReg) (s : State) : keeps (execKget r g kr s) s.key := by
  simp [execKget]

theorem key_execSetf (r : CoreRef) (fromReg : Bool) (fa fb : BitVec 5) (g : GReg) (s : State) : keeps (execSetf r fromReg fa fb g s) s.key := by
  simp [execSetf]

theorem key_execRdfl (r : CoreRef) (gd : GReg) (s : State) : keeps (execRdfl r gd s) s.key := by
  simp [execRdfl]

theorem key_execSettle (r : CoreRef) (s : State) : keeps (execSettle r s) s.key := by
  simp [execSettle]

theorem key_execIllegal (r : CoreRef) (s : State) : keeps (execIllegal r s) s.key := by
  simp [execIllegal]

end Sys2Proof.Machine
end

