-- ==== Sys2Proof/Laws/Steps.lean ====
section
/-! SUPPORT. What one command can do to the key of the state: one inversion lemma over all commands. -/
namespace Sys2Proof.Machine

/-- The key after the logic side is reset (R26): the HIF_FUNC entries and the locks are back at reset. -/
def Key.cleared (k : Key) : Key := { k with func := [], mlock := false, tlock := false }

theorem key_State_clearLogic (s : State) : s.clearLogic.key = s.key.cleared := by
  unfold State.clearLogic
  have h : ((if s.boot.mapDue.isSome then s.writeMap else s).dropConns [0, 1]).key = s.key := by
    rw [key_State_dropConns, key_ite]; split <;> simp
  generalize ((if s.boot.mapDue.isSome then s.writeMap else s).dropConns [0, 1]) = u at h
  rw [← h]; rfl

theorem key_State_moduleReset (s : State) (c : Nat) (q : BitVec 4) (n : Nat) (w : Bool) (p : PowerStep) :
    (s.moduleReset c q n w p).key = s.key.cleared := by
  rw [← key_State_clearLogic]; rfl

theorem key_State_standbyLost (s : State) : s.standbyLost.key = { s.key.cleared with now := 0 } := by
  have h := key_State_moduleReset { s with boot := { s.boot with mapDue := none } } 1 0 0 false .off
  unfold State.standbyLost
  generalize ({ s with boot := { s.boot with mapDue := none } } : State).moduleReset 1 0 0 false .off = u at h
  have h2 : u.key = s.key.cleared := h
  rw [← h2]; rfl

theorem key_State_standbyRestart (s : State) : s.standbyRestart.key = s.key := rfl

/-- What the loss of a feed leaves of the key. -/
theorem key_State_loseFeed (s : State) (x : Feed) :
    (s.loseFeed x).key = s.key ∨ (s.loseFeed x).key = { s.key.cleared with now := 0 } := by
  unfold State.loseFeed
  dsimp only
  split
  · split
    · exact .inl (by simp)
    · exact .inr (by rw [key_State_standbyLost]; simp)
  · split
    · left
      rw [key_State_capEvent, key_State_feedEvent, key_State_setCap]
      show (s.modFeed x _).key = s.key
      simp
    · exact .inl (by simp)

theorem key_State_revokeSlot (s : State) :
    s.revokeSlot.key = s.key ∨ ∃ n, ¬ (List.range 4).all (fun k => k == n || s.sec.revoked.getLsbD k) = true ∧ n ≤ 3 ∧
      s.revokeSlot.key = { s.key with revoked := s.sec.revoked ||| BitVec.ofNat 4 (2 ^ n) } := by
  unfold State.revokeSlot
  split
  · exact .inl rfl
  · rename_i b _
    dsimp only
    generalize Config.revocation (imgBody (s.bankImage 1 b)) = o
    split
    · exact .inl rfl
    · rename_i n
      split
      · exact .inl rfl
      · rename_i h
        simp only [not_or] at h
        exact .inr ⟨n, h.2.2, Nat.le_of_not_lt h.1, rfl⟩

theorem key_State_commitReady (s : State) :
    s.commitReady.key = s.key ∨ ∃ n, ¬ (List.range 4).all (fun k => k == n || s.sec.revoked.getLsbD k) = true ∧ n ≤ 3 ∧
      s.commitReady.key = { s.key with revoked := s.sec.revoked ||| BitVec.ofNat 4 (2 ^ n) } := by
  unfold State.commitReady
  dsimp only
  rw [key_State_raiseWide]
  have h0 : (s.writeMap.signRecord .serviceMap).key = s.key := by rw [key_State_signRecord, key_State_writeMap]
  generalize s.writeMap.signRecord .serviceMap = s1 at h0 ⊢
  generalize hs : ({ s1 with ready := true, boot := _, mem := _, mgmt := _ } : State) = s2
  have h2 : s2.key = s.key := by rw [← hs, ← h0]; rfl
  have h3 : ((s2.each [1, 2, 3] State.activate).raiseCounters).key = s.key := by
    rw [key_State_raiseCounters, key_each _ _ _ (fun t a => key_State_activate t a), h2]
  generalize (s2.each [1, 2, 3] State.activate).raiseCounters = s3 at h3 ⊢
  have h4 : s3.sec.revoked = s.sec.revoked := congrArg Key.revoked h3
  have h5 := key_State_revokeSlot s3
  rw [h3, h4] at h5
  exact h5

theorem key_State_loadMaps (s : State) (good : Bool) :
    (s.loadMaps good).key = s.key ∨ (s.loadMaps good).key = { s.key with reserve := 8 } := by
  unfold State.loadMaps
  dsimp only
  rw [key_State_retireAll]
  cases good
  · exact .inr rfl
  · exact .inl rfl

theorem key_State_endPhase (s : State) (x : PhaseFinding) :
    (s.endPhase x).key = s.key ∨ (s.endPhase x).key = { s.key with reserve := 8 } := by
  unfold State.endPhase
  split
  · exact key_State_loadMaps _ _
  · exact .inl (key_each _ _ _ (fun t a => by simp))
  · exact .inl (by simp)
  · left
    have h := key_each s (x.failedSites.map Site.idx) (fun t i => t.setSite i .retired) (fun t a => by simp)
    exact h
  · exact .inl (by simp)
  · exact .inl (by simp)
  · exact .inl (by simp)
  · exact .inl rfl

/-- A ring range of a function that R303 accepts: within 2^20 rings, at most 131,072 for a virtual function, and meeting no other. -/
def RangeOk (func : Tab FuncEntry) (g base count : Nat) : Prop :=
  base + count ≤ 1048576 ∧ (isPF g = false → count ≤ 131072) ∧
    ∀ f < 64, f ≠ g → ¬ (0 < count ∧ 0 < (Tab.get {} func f).count ∧ base < (Tab.get {} func f).base + (Tab.get {} func f).count ∧
      (Tab.get {} func f).base < base + count)

/-- What one command can do to the key of the state. -/
inductive KeyStep (k : Key) : Key → Prop where
  /-- Nothing: nearly every command. -/
  | same : KeyStep k k
  /-- A module reset (R26). -/
  | cleared : KeyStep k k.cleared
  /-- The standby supply ends (R23, R505). -/
  | lost : KeyStep k { k.cleared with now := 0 }
  /-- The standby supply starts (R505). -/
  | started : KeyStep k { k with now := 0 }
  /-- A revocation record takes effect (R484). -/
  | revoke (n : Nat) (hn : n ≤ 3) (h : ¬ (List.range 4).all (fun i => i == n || k.revoked.getLsbD i) = true) :
      KeyStep k { k with revoked := k.revoked ||| BitVec.ofNat 4 (2 ^ n) }
  /-- RESERVE is written (R417, R420). -/
  | reserve (n : Nat) (hn : n ≤ 16) : KeyStep k { k with reserve := n }
  /-- A HIF_FUNC entry changes but for its range (R301). -/
  | entry (g : Nat) (e : FuncEntry) (hb : e.base = (Tab.get {} k.func g).base) (hc : e.count = (Tab.get {} k.func g).count) :
      KeyStep k { k with func := Tab.put {} k.func g e }
  /-- A ring range is accepted (R303). -/
  | range (g : Nat) (e : FuncEntry) (hg : g < 64) (h : RangeOk k.func g e.base e.count) :
      KeyStep k { k with func := Tab.put {} k.func g e }
  /-- MEDIA_LOCK (R365). -/
  | mlock : KeyStep k { k with mlock := true }
  /-- TOW_LOCK (R394). -/
  | tlock : KeyStep k { k with tlock := true }

/-- A next state is one that `KeyStep` allows. -/
def stepsFrom (r : Res) (k : Key) : Prop := match r with | .next t => KeyStep k t.key | _ => True

theorem stepsFrom_of_keeps {r : Res} {k : Key} (h : keeps r k) : stepsFrom r k := by
  cases r with
  | next t => have h : t.key = k := h; show KeyStep k t.key; rw [h]; exact .same
  | fault r => trivial
  | refused r => trivial

theorem stepsFrom_next {t : State} {k : Key} (h : KeyStep k t.key) : stepsFrom (.next t) k := h

theorem stepsFrom_key {r : Res} {k : Key} {l : Key} (h : l = k) (h2 : stepsFrom r l) : stepsFrom r k := h ▸ h2

theorem step_entry (s : State) (g : Nat) (f : FuncEntry → FuncEntry) (hb : ∀ e, (f e).base = e.base) (hc : ∀ e, (f e).count = e.count) :
    stepsFrom (.next (s.modFent g f)) s.key := KeyStep.entry g (f (s.fent g)) (hb _) (hc _)

theorem step_execHifFuncRingsWrite (f target : Func) (v : W64) (s : State) : stepsFrom (execHifFuncRingsWrite f target v s) s.key := by
  unfold execHifFuncRingsWrite
  dsimp only
  split
  · exact KeyStep.same
  split
  · exact step_entry s target.val _ (fun _ => rfl) (fun _ => rfl)
  · rename_i h
    simp only [Bool.or_eq_true, not_or, State.rangeMeets, List.any_eq_true, not_exists, decide_eq_true_eq, Bool.and_eq_true, List.mem_range,
      bne_iff_ne, ne_eq, Bool.not_eq_true', not_and] at h
    refine KeyStep.range target.val _ target.isLt ⟨Nat.le_of_not_lt h.2, fun hp => Nat.le_of_not_lt (h.1.2 hp), fun g hg hne hm => ?_⟩
    · exact h.1.1 g hg ⟨⟨⟨hne, hm.1⟩, hm.2.1⟩, hm.2.2.1⟩ hm.2.2.2

theorem step_writeHif (s : State) (f : Func) (off : Nat) (v : W32) : stepsFrom (s.writeHif f off v) s.key := by
  unfold State.writeHif
  dsimp only
  repeat' split
  all_goals first
    | exact KeyStep.same
    | exact stepsFrom_of_keeps (key_State_writeMsix _ _ _ _)
    | exact step_execHifFuncRingsWrite _ _ _ _
    | exact step_entry s _ _ (fun _ => rfl) (fun _ => rfl)
    | (unfold execHifLock; split <;> exact KeyStep.same)

theorem step_execMediaLock (f : Func) (s : State) : stepsFrom (execMediaLock f s) s.key := by
  unfold execMediaLock
  split
  · exact KeyStep.mlock
  · exact KeyStep.same

theorem step_execTowLock (f : Func) (s : State) : stepsFrom (execTowLock f s) s.key := by
  unfold execTowLock
  split
  · exact KeyStep.tlock
  · exact KeyStep.same

theorem step_mgmtCommand (s : State) (src : MgmtSource) (code arg : Nat) (a r : Bool) (eff : State → State)
    (h : ∀ t : State, t.key = s.key → KeyStep s.key (eff t).key) : KeyStep s.key (s.mgmtCommand src code arg a r eff).key := by
  unfold State.mgmtCommand
  split
  · exact .same
  split
  · rw [key_State_mgmtRefuse]; exact .same
  split
  · exact .same
  · exact h _ (key_State_mgmtEvent _ _ _ _)

theorem step_execResetCold (src : MgmtSource) (s : State) : stepsFrom (execResetCold src s) s.key := by
  refine step_mgmtCommand s _ _ _ _ _ _ (fun t h => ?_)
  rw [key_State_setBusy, key_State_moduleReset, h]; exact .cleared

theorem step_execResetWarm (src : MgmtSource) (s : State) : stepsFrom (execResetWarm src s) s.key := by
  refine step_mgmtCommand s _ _ _ _ _ _ (fun t h => ?_)
  rw [key_State_setBusy, key_State_moduleReset, h]; exact .cleared

theorem step_execFullRestart (src : MgmtSource) (s : State) : stepsFrom (execFullRestart src s) s.key := by
  refine step_mgmtCommand s _ _ _ _ _ _ (fun t h => ?_)
  rw [key_State_setBusy, key_State_standbyRestart, key_State_moduleReset, h]; exact .cleared

theorem step_execPowerOff (src : MgmtSource) (s : State) : stepsFrom (execPowerOff src s) s.key := by
  refine step_mgmtCommand s _ _ _ _ _ _ (fun t h => ?_)
  have h2 : ((t.clearLogic.toStep .started).setBusy none).key = s.key.cleared := by
    rw [key_State_setBusy, key_State_toStep, key_State_clearLogic, h]
  exact (show KeyStep s.key ((t.clearLogic.toStep .started).setBusy none).key from h2 ▸ .cleared)

theorem step_execPowerOn (src : MgmtSource) (s : State) : stepsFrom (execPowerOn src s) s.key := by
  refine step_mgmtCommand s _ _ _ _ _ _ (fun t h => ?_)
  have h2 : ((t.moduleReset 4 0 0 false .started).setBusy (some 5)).key = s.key.cleared := by
    rw [key_State_setBusy, key_State_moduleReset, h]
  exact (show KeyStep s.key ((t.moduleReset 4 0 0 false .started).setBusy (some 5)).key from h2 ▸ .cleared)

theorem step_execSetReserve (src : MgmtSource) (v : W8) (s : State) : stepsFrom (execSetReserve src v s) s.key := by
  by_cases hv : v.toNat ≤ 16
  · refine step_mgmtCommand s _ _ _ _ _ _ (fun t h => ?_)
    rw [key_State_signRecord]
    rw [← h]; exact KeyStep.reserve v.toNat hv
  · show KeyStep s.key (s.mgmtCommand src 7 v.toNat false (decide (16 < v.toNat)) _).key
    unfold State.mgmtCommand
    rw [if_pos (show decide (16 < v.toNat) = true by simp; omega)]
    split
    · exact .same
    split
    · rw [key_State_mgmtRefuse]; exact .same
    · exact .same

theorem step_loseFeed {s : State} {k : Key} (h : s.key = k) (x : Feed) : KeyStep k (s.loseFeed x).key := by
  rcases key_State_loseFeed s x with e | e <;> rw [e, h]
  · exact .same
  · exact .lost

theorem step_openInlet {s : State} {k : Key} (h : s.key = k) (x : Feed) : KeyStep k (s.openInlet x).key := by
  unfold State.openInlet
  split
  · exact step_loseFeed h x
  · rw [h]; exact .same

theorem step_execFeedLost (x : Feed) (d : Nat) (s : State) : stepsFrom (execFeedLost x d s) s.key := by
  unfold execFeedLost
  split
  · exact KeyStep.same
  · exact step_loseFeed (by simp) x

theorem step_execInterlockOpen (x : Feed) (s : State) : stepsFrom (execInterlockOpen x s) s.key := step_openInlet (by simp) x

theorem step_execInletTrip (x : Feed) (s : State) : stepsFrom (execInletTrip x s) s.key := by
  unfold execInletTrip
  dsimp only
  split
  · exact KeyStep.same
  · exact step_openInlet (by simp) x

theorem step_execQuadBusLoss (q : BitVec 4) (s : State) : stepsFrom (execQuadBusLoss q s) s.key := by
  unfold execQuadBusLoss
  split
  · exact KeyStep.same
  split
  · refine stepsFrom_next ?_
    rw [key_State_standbyLost]; exact .lost
  · refine (show KeyStep s.key (s.moduleReset 5 q 0 false .started).key from ?_)
    rw [key_State_moduleReset]; exact .cleared

theorem step_execSensorSample (l : List (Sensor × Option Int)) (s : State) : stepsFrom (execSensorSample l s) s.key := by
  unfold execSensorSample
  split
  · exact KeyStep.same
  · dsimp only
    have h : (s.each l (fun t e => t.sampleOne e.1 e.2)).key = s.key := key_each _ _ _ (fun t a => by simp)
    generalize s.each l (fun t e => t.sampleOne e.1 e.2) = u at h ⊢
    split
    · rename_i x _
      refine (show KeyStep s.key (u.moduleReset 6 0 (sensorIndex x) false .crust).key from ?_)
      rw [key_State_moduleReset, h]; exact .cleared
    · refine stepsFrom_next ?_
      rw [key_each _ _ _ (fun t a => by simp), h]; exact .same

theorem step_execPowerUpStep (s : State) : stepsFrom (execPowerUpStep s) s.key := by
  have same : ∀ {t : State}, t.key = s.key → KeyStep s.key t.key := fun h => h ▸ KeyStep.same
  unfold execPowerUpStep
  split
  · split
    · exact KeyStep.started
    · exact KeyStep.same
  · split
    · exact KeyStep.same
    · exact same (key_State_startLmc _)
  · split
    · exact same (key_State_toStep s .converters)
    · exact KeyStep.same
  · exact same (key_State_toStep _ _)
  · exact same ((key_State_toStep _ _).trans (key_State_regionsOn _))
  · split
    · exact KeyStep.same
    · exact same (key_State_toStep s .released)
  · exact KeyStep.same

theorem step_execBringupPhaseEnd (x : PhaseFinding) (s : State) : stepsFrom (execBringupPhaseEnd x s) s.key := by
  unfold execBringupPhaseEnd
  split
  · exact KeyStep.same
  split
  · refine stepsFrom_next ?_
    rw [key_State_bringupFails]; exact .same
  split
  · refine stepsFrom_next ?_
    rcases key_State_commitReady s with h | ⟨n, h1, h2, h3⟩
    · rw [h]; exact .same
    · rw [h3]; exact KeyStep.revoke n h2 h1
  · refine (show KeyStep s.key (s.endPhase x).key from ?_)
    rcases key_State_endPhase s x with h | h <;> rw [h]
    · exact .same
    · exact .reserve 8 (by omega)

theorem key_execHifLock (f : Func) (s : State) : keeps (execHifLock f s) s.key := by
  unfold execHifLock
  split <;> rfl

theorem key_State_writeRing (s : State) (f : Func) (off : Nat) (v : W32) : keeps (s.writeRing f off v) s.key := by
  unfold State.writeRing

  repeat' split
  all_goals first
    | exact key_execRingRead _ _
    | exact key_execRingWrite _ _
    | simp
    | rfl

theorem key_State_writePart (s : State) (f : Func) (off : Nat) (v : W32) : keeps (s.writePart f off v) s.key := by
  unfold State.writePart
  repeat' split
  all_goals first
    | exact key_execPartitionReset _ _ _
    | exact key_execAssign _ _ _
    | exact key_execRelease _ _ _
    | rfl

theorem key_State_writeFieldCmd (s : State) (f : Func) (v : W32) : keeps (s.writeFieldCmd f v) s.key := by
  unfold State.writeFieldCmd
  dsimp only
  repeat' split
  all_goals first
    | exact key_execMarkOutOfService _ _ _
    | exact key_execReturnToService _ _ _
    | exact key_execFieldFabricReset _ _ _
    | rfl

theorem key_State_writePageCmd (s : State) (f : Func) (v : W32) : keeps (s.writePageCmd f v) s.key := by
  unfold State.writePageCmd
  dsimp only
  repeat' split
  all_goals first
    | exact key_execAllocPage _ _
    | exact key_execFreePage _ _
    | exact key_execSetPage _ _
    | exact key_execSealGroup _ _ _
    | exact key_execOpenGroup _ _ _
    | rfl

theorem key_State_writeMem (s : State) (f : Func) (off : Nat) (v : W32) : keeps (s.writeMem f off v) s.key := by
  unfold State.writeMem
  dsimp only
  repeat' split
  all_goals first
    | exact key_execMemPageSelWrite _ _ _
    | exact key_State_writePageCmd _ _ _
    | rfl

theorem step_writeMedia (s : State) (f : Func) (off : Nat) (v : W32) : stepsFrom (s.writeMedia f off v) s.key := by
  unfold State.writeMedia
  dsimp only
  repeat' split
  all_goals first
    | exact step_execMediaLock _ _
    | exact stepsFrom_of_keeps (key_execMediaPortCfgWrite _ _ _ _)
    | exact stepsFrom_of_keeps (key_execMediaCtxWrite _ _ _ _)
    | exact stepsFrom_of_keeps (by simp)
    | exact KeyStep.same

theorem key_State_writeVg (s : State) (f : Func) (g o : Nat) (v : W32) : keeps (s.writeVg f g o v) s.key := by
  unfold State.writeVg
  repeat' split
  all_goals first
    | exact key_execTowVgLoad _ _ _
    | exact key_execTowVgClear _ _ _
    | rfl

theorem step_writeTow (s : State) (f : Func) (off : Nat) (v : W32) : stepsFrom (s.writeTow f off v) s.key := by
  unfold State.writeTow
  dsimp only
  repeat' split
  all_goals first
    | exact step_execTowLock _ _
    | exact stepsFrom_of_keeps (key_State_writeVg _ _ _ _ _)
    | exact KeyStep.same

theorem key_State_writeInteg (s : State) (f : Func) (off : Nat) (v : W32) : keeps (s.writeInteg f off v) s.key := by
  unfold State.writeInteg

  repeat' split
  all_goals first
    | exact key_execQuarantine _ _
    | exact key_execReturnToSpare _ _
    | exact key_execIntegLinSelWrite _ _ _
    | rfl

theorem key_State_writePwr (s : State) (f : Func) (off : Nat) (v : W32) : keeps (s.writePwr f off v) s.key := by
  unfold State.writePwr
  dsimp only
  repeat' split
  all_goals first
    | exact key_execFabricBin _ _
    | exact key_execRegionOn _ _
    | exact key_execRewaxNow _ _
    | rfl

theorem key_State_writeSec (s : State) (f : Func) (off : Nat) (v : W32) : keeps (s.writeSec f off v) s.key := by
  unfold State.writeSec
  dsimp only
  repeat' split
  all_goals first
    | exact key_execStage _ _
    | exact key_execCancel _ _ _
    | rfl

theorem step_ite {c : Prop} [Decidable c] {a b : Res} {k : Key} (ha : stepsFrom a k) (hb : stepsFrom b k) :
    stepsFrom (if c then a else b) k := by
  split
  · exact ha
  · exact hb

theorem step_ite_keeps {c : Prop} [Decidable c] {a b : Res} {k : Key} (ha : keeps a k) (hb : stepsFrom b k) :
    stepsFrom (if c then a else b) k := step_ite (stepsFrom_of_keeps ha) hb

theorem step_writeBlock (s : State) (f : Func) (o : Nat) (v : W32) : stepsFrom (s.writeBlock f o v) s.key := by
  unfold State.writeBlock
  generalize o - memBase = m1, o - towBase = m2, o - integBase = m3, o - pwrBase = m4, o - secBase = m5
  refine step_ite_keeps (key_State_writePart _ _ _ _) ?_
  refine step_ite_keeps (key_State_writeFieldCmd _ _ _) ?_
  refine step_ite_keeps (key_State_writeMem s f m1 v) ?_
  refine step_ite (step_writeMedia s f o v) ?_
  refine step_ite (step_writeTow s f m2 v) ?_
  refine step_ite_keeps (key_State_writeInteg s f m3 v) ?_
  refine step_ite_keeps (key_State_writePwr s f m4 v) ?_
  refine step_ite_keeps (key_State_writeSec s f m5 v) ?_
  cases clusterAt o with
  | none => exact KeyStep.same
  | some a => exact stepsFrom_of_keeps (key_State_writeCluster _ _ _ _)

theorem step_execRegisterWrite (f : Func) (off : Fin 67108864) (v : W32) (s : State) : stepsFrom (execRegisterWrite f off v s) s.key := by
  unfold execRegisterWrite
  dsimp only
  generalize off.val = o
  generalize o - 0x200000 = m6, o - integBase = m3, o - 4 = m7
  refine step_ite (stepsFrom_next .same) ?_
  refine step_ite_keeps (key_execBarBadAccess f 0 true o 4 s) ?_
  refine step_ite (step_writeHif s f o v) ?_
  refine step_ite_keeps (key_State_writeRing s f m6 v) ?_
  refine step_ite_keeps (key_State_writeInteg s f m3 v) ?_
  refine step_ite (stepsFrom_next .same) ?_
  refine step_ite_keeps (key_State_setCtr s m7 _) ?_
  cases plainMask o with
  | none => exact step_writeBlock _ _ _ _
  | some m => exact stepsFrom_of_keeps (key_State_setReg _ _ _)

/-- Every command's effect on the key is one that `KeyStep` allows. -/
theorem step_exec (c : Instr) (s : State) : stepsFrom (exec c s) s.key := by
  cases c with
  | blockDecision => exact stepsFrom_of_keeps (key_execBlockDecision _ _)
  | alu => exact stepsFrom_of_keeps (key_execAlu _ _ _ _ _ _)
  | addi => exact stepsFrom_of_keeps (key_execAddi _ _ _ _ _)
  | andi => exact stepsFrom_of_keeps (key_execAndi _ _ _ _ _)
  | ori => exact stepsFrom_of_keeps (key_execOri _ _ _ _ _)
  | xori => exact stepsFrom_of_keeps (key_execXori _ _ _ _ _)
  | lui => exact stepsFrom_of_keeps (key_execLui _ _ _ _)
  | slti => exact stepsFrom_of_keeps (key_execSlti _ _ _ _ _)
  | ldw => exact stepsFrom_of_keeps (key_execLdw _ _ _ _ _)
  | stw => exact stepsFrom_of_keeps (key_execStw _ _ _ _ _)
  | br => exact stepsFrom_of_keeps (key_execBr _ _ _ _ _ _)
  | endBlock => exact stepsFrom_of_keeps (key_execEndBlock _ _)
  | done => exact stepsFrom_of_keeps (key_execDone _ _)
  | pop => exact stepsFrom_of_keeps (key_execPop _ _ _ _)
  | push => exact stepsFrom_of_keeps (key_execPush _ _ _ _)
  | peek => exact stepsFrom_of_keeps (key_execPeek _ _ _ _)
  | kset => exact stepsFrom_of_keeps (key_execKset _ _ _ _ _)
  | kadd => exact stepsFrom_of_keeps (key_execKadd _ _ _ _ _)
  | kget => exact stepsFrom_of_keeps (key_execKget _ _ _ _)
  | setf => exact stepsFrom_of_keeps (key_execSetf _ _ _ _ _ _)
  | rdfl => exact stepsFrom_of_keeps (key_execRdfl _ _ _)
  | bar => exact stepsFrom_of_keeps (key_execBar _ _ _)
  | settle => exact stepsFrom_of_keeps (key_execSettle _ _)
  | xfer => exact stepsFrom_of_keeps (key_execXfer _ _ _)
  | xferAccept => exact stepsFrom_of_keeps (key_execXferAccept _ _)
  | mma => exact stepsFrom_of_keeps (key_execMma _ _ _ _ _ _)
  | mms => exact stepsFrom_of_keeps (key_execMms _ _ _ _ _ _)
  | mmp => exact stepsFrom_of_keeps (key_execMmp _ _ _ _ _ _)
  | tzero => exact stepsFrom_of_keeps (key_execTzero _ _ _)
  | vop => exact stepsFrom_of_keeps (key_execVop _ _ _ _ _ _ _)
  | vcvt => exact stepsFrom_of_keeps (key_execVcvt _ _ _ _ _ _ _ _ _)
  | spill => exact stepsFrom_of_keeps (key_execSpill _ _ _ _ _)
  | illegal => exact stepsFrom_of_keeps (key_execIllegal _ _)
  | passStart => exact stepsFrom_of_keeps (key_execPassStart _ _)
  | unitComplete => exact stepsFrom_of_keeps (key_execUnitComplete _ _ _)
  | stealChunk => exact stepsFrom_of_keeps (key_execStealChunk _ _)
  | mmsApply => exact stepsFrom_of_keeps (key_execMmsApply _ _)
  | branchFire => exact stepsFrom_of_keeps (key_execBranchFire _ _ _)
  | mergeFire => exact stepsFrom_of_keeps (key_execMergeFire _ _ _)
  | rateRepeatFire => exact stepsFrom_of_keeps (key_execRateRepeatFire _ _ _)
  | rateRepeatEmit => exact stepsFrom_of_keeps (key_execRateRepeatEmit _ _ _)
  | rateSkipFire => exact stepsFrom_of_keeps (key_execRateSkipFire _ _ _)
  | rateSkipDiscard => exact stepsFrom_of_keeps (key_execRateSkipDiscard _ _ _)
  | carryEnter => exact stepsFrom_of_keeps (key_execCarryEnter _ _ _)
  | carryLoop => exact stepsFrom_of_keeps (key_execCarryLoop _ _ _)
  | tokenSend => exact stepsFrom_of_keeps (key_execTokenSend _ _ _ _)
  | token => exact stepsFrom_of_keeps (key_execToken _ _)
  | creditReturn => exact stepsFrom_of_keeps (key_execCreditReturn _ _ _)
  | creditReceive => exact stepsFrom_of_keeps (key_execCreditReceive _ _ _)
  | steerStall => exact stepsFrom_of_keeps (key_execSteerStall _ _ _)
  | launchComplete => exact stepsFrom_of_keeps (key_execLaunchComplete _ _ _)
  | transferComplete => exact stepsFrom_of_keeps (key_execTransferComplete _ _ _)
  | rdReq => exact stepsFrom_of_keeps (key_execRdReq _ _)
  | rdData => exact stepsFrom_of_keeps (key_execRdData _ _)
  | wr => exact stepsFrom_of_keeps (key_execWr _ _)
  | wrAck => exact stepsFrom_of_keeps (key_execWrAck _ _)
  | unreach => exact stepsFrom_of_keeps (key_execUnreach _ _)
  | cfgBody => exact stepsFrom_of_keeps (key_execCfgBody _ _ _ _ _)
  | flitReceive => exact stepsFrom_of_keeps (key_execFlitReceive _ _ _)
  | linkAlivePulse => exact stepsFrom_of_keeps (key_execLinkAlivePulse _ _)
  | portDead => exact stepsFrom_of_keeps (key_execPortDead _ _ _)
  | outputGrant => exact stepsFrom_of_keeps (key_execOutputGrant _ _ _)
  | runoutMove => exact stepsFrom_of_keeps (key_execRunoutMove _ _ _)
  | tableInstall => exact stepsFrom_of_keeps (key_execTableInstall _)
  | darkBitArrive => exact stepsFrom_of_keeps (key_execDarkBitArrive _ _)
  | exposedTransferTimeout => exact stepsFrom_of_keeps (key_execExposedTransferTimeout _ _ _)
  | inflightQuietReset => exact stepsFrom_of_keeps (key_execInflightQuietReset _ _)
  | markOutOfService => exact stepsFrom_of_keeps (key_execMarkOutOfService _ _ _)
  | returnToService => exact stepsFrom_of_keeps (key_execReturnToService _ _ _)
  | fieldFabricReset => exact stepsFrom_of_keeps (key_execFieldFabricReset _ _ _)
  | barrierRelease => exact stepsFrom_of_keeps (key_execBarrierRelease _ _ _ _)
  | fold => exact stepsFrom_of_keeps (key_execFold _ _)
  | foldSegmentSum => exact stepsFrom_of_keeps (key_execFoldSegmentSum _ _ _ _ _ _)
  | ttInjectionEntry => exact stepsFrom_of_keeps (key_execTtInjectionEntry _ _ _)
  | ttForward => exact stepsFrom_of_keeps (key_execTtForward _ _)
  | scrub => exact stepsFrom_of_keeps (key_execScrub _ _ _ _)
  | liftPrefetch => exact stepsFrom_of_keeps (key_execLiftPrefetch _ _ _)
  | migrationWindowEnd => exact stepsFrom_of_keeps (key_execMigrationWindowEnd _)
  | migrationMove => exact stepsFrom_of_keeps (key_execMigrationMove _ _)
  | allocPage => exact stepsFrom_of_keeps (key_execAllocPage _ _)
  | freePage => exact stepsFrom_of_keeps (key_execFreePage _ _)
  | setPage => exact stepsFrom_of_keeps (key_execSetPage _ _)
  | sealGroup => exact stepsFrom_of_keeps (key_execSealGroup _ _ _)
  | openGroup => exact stepsFrom_of_keeps (key_execOpenGroup _ _ _)
  | memPageSelWrite => exact stepsFrom_of_keeps (key_execMemPageSelWrite _ _ _)
  | bar4Read => exact stepsFrom_of_keeps (key_execBar4Read _ _ _ _)
  | bar4Write => exact stepsFrom_of_keeps (key_execBar4Write _ _ _ _)
  | barBadAccess => exact stepsFrom_of_keeps (key_execBarBadAccess _ _ _ _ _ _)
  | registerWrite => exact step_execRegisterWrite _ _ _ _
  | counterLowRead => exact stepsFrom_of_keeps (key_execCounterLowRead _ _ _)
  | counterClear => exact stepsFrom_of_keeps (key_execCounterClear _ _ _)
  | hifLock => exact stepsFrom_of_keeps (key_execHifLock _ _)
  | hifFuncRingsWrite => exact step_execHifFuncRingsWrite _ _ _ _
  | ringRead => exact stepsFrom_of_keeps (key_execRingRead _ _)
  | ringWrite => exact stepsFrom_of_keeps (key_execRingWrite _ _)
  | doorbell => exact stepsFrom_of_keeps (key_execDoorbell _ _ _ _)
  | descriptorTake => exact stepsFrom_of_keeps (key_execDescriptorTake _ _ _)
  | nop => exact stepsFrom_of_keeps (key_execNop _ _)
  | fence => exact stepsFrom_of_keeps (key_execFence _ _)
  | copy => exact stepsFrom_of_keeps (key_execCopy _ _ _)
  | copyDone => exact stepsFrom_of_keeps (key_execCopyDone _ _)
  | configLoad => exact stepsFrom_of_keeps (key_execConfigLoad _ _)
  | drainEnd => exact stepsFrom_of_keeps (key_execDrainEnd _ _ _)
  | drainTimeout => exact stepsFrom_of_keeps (key_execDrainTimeout _ _ _)
  | configLoadDone => exact stepsFrom_of_keeps (key_execConfigLoadDone _ _ _)
  | unload => exact stepsFrom_of_keeps (key_execUnload _ _)
  | launch => exact stepsFrom_of_keeps (key_execLaunch _ _)
  | poolDispatch => exact stepsFrom_of_keeps (key_execPoolDispatch _ _)
  | frameBind => exact stepsFrom_of_keeps (key_execFrameBind _ _)
  | frameUnbind => exact stepsFrom_of_keeps (key_execFrameUnbind _ _)
  | stepBegin => exact stepsFrom_of_keeps (key_execStepBegin _ _)
  | stepCommit => exact stepsFrom_of_keeps (key_execStepCommit _ _)
  | digest => exact stepsFrom_of_keeps (key_execDigest _ _)
  | digestDone => exact stepsFrom_of_keeps (key_execDigestDone _ _)
  | quiesce => exact stepsFrom_of_keeps (key_execQuiesce _ _)
  | quiesceComplete => exact stepsFrom_of_keeps (key_execQuiesceComplete _ _)
  | resume => exact stepsFrom_of_keeps (key_execResume _ _)
  | remap => exact stepsFrom_of_keeps (key_execRemap _ _)
  | eventWait => exact stepsFrom_of_keeps (key_execEventWait _ _)
  | eventWaitCheck => exact stepsFrom_of_keeps (key_execEventWaitCheck _ _)
  | eventWaitDeadline => exact stepsFrom_of_keeps (key_execEventWaitDeadline _ _)
  | timestamp => exact stepsFrom_of_keeps (key_execTimestamp _ _)
  | flr => exact stepsFrom_of_keeps (key_execFlr _ _)
  | hotReset => exact stepsFrom_of_keeps (key_execHotReset _ _)
  | vfEnableClear => exact stepsFrom_of_keeps (key_execVfEnableClear _ _)
  | partitionReset => exact stepsFrom_of_keeps (key_execPartitionReset _ _ _)
  | assign => exact stepsFrom_of_keeps (key_execAssign _ _ _)
  | release => exact stepsFrom_of_keeps (key_execRelease _ _ _)
  | resetFlushDone => exact stepsFrom_of_keeps (key_execResetFlushDone _ _)
  | resetFlushLimit => exact stepsFrom_of_keeps (key_execResetFlushLimit _ _)
  | resetClearDone => exact stepsFrom_of_keeps (key_execResetClearDone _ _)
  | mediaPacket => exact stepsFrom_of_keeps (key_execMediaPacket _ _ _)
  | ptpSync => exact stepsFrom_of_keeps (key_execPtpSync _ _ _)
  | ptpAnnounceTimeout => exact stepsFrom_of_keeps (key_execPtpAnnounceTimeout _ _)
  | ptpHoldmax => exact stepsFrom_of_keeps (key_execPtpHoldmax _ _)
  | slotDecide => exact stepsFrom_of_keeps (key_execSlotDecide _ _)
  | slotRunStart => exact stepsFrom_of_keeps (key_execSlotRunStart _ _)
  | slotStartArrive => exact stepsFrom_of_keeps (key_execSlotStartArrive _ _)
  | ancTransmit => exact stepsFrom_of_keeps (key_execAncTransmit _ _)
  | mediaCtxWrite => exact stepsFrom_of_keeps (key_execMediaCtxWrite _ _ _ _)
  | mediaPortCfgWrite => exact stepsFrom_of_keeps (key_execMediaPortCfgWrite _ _ _ _)
  | mediaLock => exact step_execMediaLock _ _
  | towDataFrame => exact stepsFrom_of_keeps (key_execTowDataFrame _ _ _ _ _)
  | towLinkFrame => exact stepsFrom_of_keeps (key_execTowLinkFrame _ _ _ _)
  | towAckSend => exact stepsFrom_of_keeps (key_execTowAckSend _ _)
  | towLinkDown => exact stepsFrom_of_keeps (key_execTowLinkDown _ _)
  | towLinkUp => exact stepsFrom_of_keeps (key_execTowLinkUp _ _)
  | towForward => exact stepsFrom_of_keeps (key_execTowForward _ _)
  | towRacc => exact stepsFrom_of_keeps (key_execTowRacc _ _)
  | towRaccAck => exact stepsFrom_of_keeps (key_execTowRaccAck _ _)
  | racc => exact stepsFrom_of_keeps (key_execRacc _ _)
  | raccAck => exact stepsFrom_of_keeps (key_execRaccAck _ _)
  | towAckTimeout => exact stepsFrom_of_keeps (key_execTowAckTimeout _ _)
  | towDone => exact stepsFrom_of_keeps (key_execTowDone _ _)
  | paramUpdate => exact stepsFrom_of_keeps (key_execParamUpdate _ _)
  | towParam => exact stepsFrom_of_keeps (key_execTowParam _ _)
  | towParamAck => exact stepsFrom_of_keeps (key_execTowParamAck _ _)
  | towVerdict => exact stepsFrom_of_keeps (key_execTowVerdict _ _)
  | stepDeadline => exact stepsFrom_of_keeps (key_execStepDeadline _ _)
  | towVgLoad => exact stepsFrom_of_keeps (key_execTowVgLoad _ _ _)
  | towVgClear => exact stepsFrom_of_keeps (key_execTowVgClear _ _ _)
  | towLock => exact step_execTowLock _ _
  | crumbCompare => exact stepsFrom_of_keeps (key_execCrumbCompare _ _ _)
  | crumbSecondCheck => exact stepsFrom_of_keeps (key_execCrumbSecondCheck _ _ _)
  | crumbUndecided => exact stepsFrom_of_keeps (key_execCrumbUndecided _ _)
  | integRateLow => exact stepsFrom_of_keeps (key_execIntegRateLow _ _ _ _)
  | pairCompare => exact stepsFrom_of_keeps (key_execPairCompare _ _)
  | pairWaitTimeout => exact stepsFrom_of_keeps (key_execPairWaitTimeout _ _)
  | quarantine => exact stepsFrom_of_keeps (key_execQuarantine _ _)
  | returnToSpare => exact stepsFrom_of_keeps (key_execReturnToSpare _ _)
  | integLinSelWrite => exact stepsFrom_of_keeps (key_execIntegLinSelWrite _ _ _)
  | linkRetrain => exact stepsFrom_of_keeps (key_execLinkRetrain _ _)
  | linkRetrainEnd => exact stepsFrom_of_keeps (key_execLinkRetrainEnd _ _ _)
  | serviceMapWrite => exact stepsFrom_of_keeps (key_execServiceMapWrite _)
  | bringupStart => exact stepsFrom_of_keeps (key_execBringupStart _)
  | bringupPhaseEnd => exact step_execBringupPhaseEnd _ _
  | clockStep => exact stepsFrom_of_keeps (key_execClockStep _ _)
  | fabricBin => exact stepsFrom_of_keeps (key_execFabricBin _ _)
  | fabricChangeDone => exact stepsFrom_of_keeps (key_execFabricChangeDone _ _)
  | pllLockLoss => exact stepsFrom_of_keeps (key_execPllLockLoss _ _)
  | pllRelock => exact stepsFrom_of_keeps (key_execPllRelock _ _)
  | feedPresent => exact stepsFrom_of_keeps (key_execFeedPresent _ _ _)
  | feedLost => exact step_execFeedLost _ _ _
  | capAdjust => exact stepsFrom_of_keeps (key_execCapAdjust _ _)
  | capGateField => exact stepsFrom_of_keeps (key_execCapGateField _ _)
  | capEnd => exact stepsFrom_of_keeps (key_execCapEnd _)
  | capRestoreField => exact stepsFrom_of_keeps (key_execCapRestoreField _)
  | quadBusLoss => exact step_execQuadBusLoss _ _
  | supplyLinkLoss => exact stepsFrom_of_keeps (key_execSupplyLinkLoss _)
  | supplyLinkRestore => exact stepsFrom_of_keeps (key_execSupplyLinkRestore _)
  | powerUpStep => exact step_execPowerUpStep _
  | regionShort => exact stepsFrom_of_keeps (key_execRegionShort _ _)
  | regionOn => exact stepsFrom_of_keeps (key_execRegionOn _ _)
  | interlockOpen => exact step_execInterlockOpen _ _
  | inletTrip => exact step_execInletTrip _ _
  | inletReclose => exact stepsFrom_of_keeps (key_execInletReclose _ _)
  | sensorSample => exact step_execSensorSample _ _
  | snowploughStep => exact stepsFrom_of_keeps (key_execSnowploughStep _ _)
  | coolantSample => exact stepsFrom_of_keeps (key_execCoolantSample _ _ _ _)
  | pdmSample => exact stepsFrom_of_keeps (key_execPdmSample _ _ _ _)
  | thermalModelUpdate => exact stepsFrom_of_keeps (key_execThermalModelUpdate _ _ _)
  | rewax => exact stepsFrom_of_keeps (key_execRewax _)
  | rewaxNow => exact stepsFrom_of_keeps (key_execRewaxNow _ _)
  | planApply => exact stepsFrom_of_keeps (key_execPlanApply _ _)
  | voltageStep => exact stepsFrom_of_keeps (key_execVoltageStep _ _)
  | hoursUpdate => exact stepsFrom_of_keeps (key_execHoursUpdate _ _)
  | stage => exact stepsFrom_of_keeps (key_execStage _ _)
  | cancel => exact stepsFrom_of_keeps (key_execCancel _ _ _)
  | restoreRpf => exact stepsFrom_of_keeps (key_execRestoreRpf _ _ _)
  | recoveryImage => exact stepsFrom_of_keeps (key_execRecoveryImage _ _)
  | signingDone => exact stepsFrom_of_keeps (key_execSigningDone _)
  | getVersion => exact stepsFrom_of_keeps (key_execGetVersion _ _)
  | getCapabilities => exact stepsFrom_of_keeps (key_execGetCapabilities _ _)
  | negotiateAlgorithms => exact stepsFrom_of_keeps (key_execNegotiateAlgorithms _ _)
  | getDigests => exact stepsFrom_of_keeps (key_execGetDigests _ _)
  | getCertificate => exact stepsFrom_of_keeps (key_execGetCertificate _ _ _ _ _)
  | challenge => exact stepsFrom_of_keeps (key_execChallenge _ _ _ _)
  | getMeasurements => exact stepsFrom_of_keeps (key_execGetMeasurements _ _ _ _ _)
  | respondIfReady => exact stepsFrom_of_keeps (key_execRespondIfReady _ _)
  | report => exact stepsFrom_of_keeps (key_execReport _ _ _)
  | slhchain => exact stepsFrom_of_keeps (key_execSlhchain _ _)
  | resetCold => exact step_execResetCold _ _
  | resetWarm => exact step_execResetWarm _ _
  | fullRestart => exact step_execFullRestart _ _
  | powerOff => exact step_execPowerOff _ _
  | powerOn => exact step_execPowerOn _ _
  | setAutoOn => exact stepsFrom_of_keeps (key_execSetAutoOn _ _ _)
  | setReserve => exact step_execSetReserve _ _ _
  | ptpAnnounce => exact stepsFrom_of_keeps (key_execPtpAnnounce _ _ _)
  | mediaLinkDown => exact stepsFrom_of_keeps (key_execMediaLinkDown _ _)
  | mediaLinkUp => exact stepsFrom_of_keeps (key_execMediaLinkUp _ _)
  | perstDeassert => exact stepsFrom_of_keeps (key_execPerstDeassert _ _)
  | vfEnableSet => exact stepsFrom_of_keeps (key_execVfEnableSet _ _ _)
  | atsInvalidate => exact stepsFrom_of_keeps (key_execAtsInvalidate _ _ _ _)
  | completionTimeout => exact stepsFrom_of_keeps (key_execCompletionTimeout _ _)
  | foldCreditReceive => exact stepsFrom_of_keeps (key_execFoldCreditReceive _ _ _ _)
  | i3cEntdaa => exact stepsFrom_of_keeps (key_execI3cEntdaa _ _)
  | mgmtPortLink => exact stepsFrom_of_keeps (key_execMgmtPortLink _ _)

/-- What a step that takes a command can do to the key. -/
theorem step_keyStep {c : Instr} {rest : List Instr} {s t : State} (hp : s.pending = c :: rest) (h : step s = .next t) :
    KeyStep { s.key with pending := rest } t.key := by
  unfold step at h
  rw [hp] at h
  have h2 : stepsFrom (exec c { s with pending := rest }) ({ s with pending := rest } : State).key := step_exec c _
  have h : exec c { s with pending := rest } = .next t := h
  rw [h] at h2
  exact h2

/-- What a step with an empty queue can do to the key: the uptime rises. -/
theorem tick_key {s t : State} (hp : s.pending = []) (h : step s = .next t) : t.key = s.key ∨ t.key = { s.key with now := s.now + 1 } := by
  unfold step at h
  rw [hp] at h
  have h : Host.Outcome.next s.tick = .next t := h
  injection h with h
  subst h
  unfold State.tick
  split
  · exact .inl rfl
  · exact .inr rfl

end Sys2Proof.Machine
end

