-- ==== Sys2Proof/WellFormed.lean ====
section
/-! DEFINITION. Which commands are well formed: those whose operands the rules that give them allow. -/
namespace Sys2Proof

/-- A lane exception keeps within its fields (R421), and its lane within its group (R189, R191). -/
def laneOk (x : LaneEx) : Bool :=
  x.fld < 64 && x.link < 848 && x.dir < 2 &&
    (match x.net with
    | 0 => (x.group < 8 && x.lane < 66) || (x.group == 8 && x.lane < 26)
    | 1 => (x.group == 0 && x.lane < 66) || (x.group == 1 && x.lane < 13)
    | 2 => x.group == 0 && x.lane < 5
    | _ => false)

/-- A command is well formed: lengths of nonces (R494, R496), of the anti-rollback counters (R489), of a stream context (R349), of BAR
accesses (R295), of a Tow payload (R368) and of an address (R347); lanes that exist (R421); excluded units of a stack (R421); sensors sampled
once each (R464); a bus loss that names a bus (R24). -/
def Instr.wf : Instr → Bool
  | .blockDecision _ => true
  | .alu _ _ _ _ _ => true
  | .addi _ _ _ _ => true
  | .andi _ _ _ _ => true
  | .ori _ _ _ _ => true
  | .xori _ _ _ _ => true
  | .lui _ _ _ => true
  | .slti _ _ _ _ => true
  | .ldw _ _ _ _ => true
  | .stw _ _ _ _ => true
  | .br _ _ _ _ _ => true
  | .endBlock _ => true
  | .done _ => true
  | .pop _ _ _ => true
  | .push _ _ _ => true
  | .peek _ _ _ => true
  | .kset _ _ _ _ => true
  | .kadd _ _ _ _ => true
  | .kget _ _ _ => true
  | .setf _ _ _ _ _ => true
  | .rdfl _ _ => true
  | .bar _ _ => true
  | .settle _ => true
  | .xfer _ _ => true
  | .xferAccept _ => true
  | .mma _ _ _ _ _ => true
  | .mms _ _ _ _ _ => true
  | .mmp _ _ _ _ _ => true
  | .tzero _ _ => true
  | .vop _ _ _ _ _ _ => true
  | .vcvt _ _ _ _ _ _ _ _ => true
  | .spill _ _ _ _ => true
  | .illegal _ => true
  | .passStart _ => true
  | .unitComplete _ _ => true
  | .stealChunk _ => true
  | .mmsApply _ => true
  | .branchFire _ _ => true
  | .mergeFire _ _ => true
  | .rateRepeatFire _ _ => true
  | .rateRepeatEmit _ _ => true
  | .rateSkipFire _ _ => true
  | .rateSkipDiscard _ _ => true
  | .carryEnter _ _ => true
  | .carryLoop _ _ => true
  | .tokenSend _ _ _ => true
  | .token _ => true
  | .creditReturn _ _ => true
  | .creditReceive _ _ => true
  | .steerStall _ _ => true
  | .launchComplete _ _ => true
  | .transferComplete _ _ => true
  | .rdReq _ => true
  | .rdData _ => true
  | .wr _ => true
  | .wrAck _ => true
  | .unreach _ => true
  | .cfgBody _ _ _ _ => true
  | .flitReceive _ _ => true
  | .linkAlivePulse _ => true
  | .portDead _ _ => true
  | .outputGrant _ _ => true
  | .runoutMove _ _ => true
  | .tableInstall => true
  | .darkBitArrive _ => true
  | .exposedTransferTimeout _ _ => true
  | .inflightQuietReset _ => true
  | .markOutOfService _ _ => true
  | .returnToService _ _ => true
  | .fieldFabricReset _ _ => true
  | .barrierRelease _ _ _ => true
  | .fold _ => true
  | .foldSegmentSum _ _ _ _ _ => true
  | .ttInjectionEntry _ _ => true
  | .ttForward _ => true
  | .scrub _ _ _ => true
  | .liftPrefetch _ _ => true
  | .migrationWindowEnd => true
  | .migrationMove _ => true
  | .allocPage _ => true
  | .freePage _ => true
  | .setPage _ => true
  | .sealGroup _ _ => true
  | .openGroup _ _ => true
  | .memPageSelWrite _ _ => true
  | .bar4Read _ _ n => 0 < n
  | .bar4Write _ _ b => !b.isEmpty
  | .barBadAccess _ _ _ _ n => 0 < n
  | .registerWrite _ _ _ => true
  | .counterLowRead _ _ => true
  | .counterClear _ _ => true
  | .hifLock _ => true
  | .hifFuncRingsWrite _ _ _ => true
  | .ringRead _ => true
  | .ringWrite _ => true
  | .doorbell _ _ _ => true
  | .descriptorTake _ _ => true
  | .nop _ => true
  | .fence _ => true
  | .copy _ _ => true
  | .copyDone _ => true
  | .configLoad _ => true
  | .drainEnd _ _ => true
  | .drainTimeout _ _ => true
  | .configLoadDone _ _ => true
  | .unload _ => true
  | .launch _ => true
  | .poolDispatch _ => true
  | .frameBind _ => true
  | .frameUnbind _ => true
  | .stepBegin _ => true
  | .stepCommit _ => true
  | .digest _ => true
  | .digestDone _ => true
  | .quiesce _ => true
  | .quiesceComplete _ => true
  | .resume _ => true
  | .remap _ => true
  | .eventWait _ => true
  | .eventWaitCheck _ => true
  | .eventWaitDeadline _ => true
  | .timestamp _ => true
  | .flr _ => true
  | .hotReset _ => true
  | .vfEnableClear _ => true
  | .partitionReset _ _ => true
  | .assign _ _ => true
  | .release _ _ => true
  | .resetFlushDone _ => true
  | .resetFlushLimit _ => true
  | .resetClearDone _ => true
  | .mediaPacket _ m => m.dst.length == (if m.v6 then 16 else 4)
  | .ptpSync _ _ => true
  | .ptpAnnounceTimeout _ => true
  | .ptpHoldmax _ => true
  | .slotDecide _ => true
  | .slotRunStart _ => true
  | .slotStartArrive _ => true
  | .ancTransmit _ => true
  | .mediaCtxWrite _ _ b => b.length == 128
  | .mediaPortCfgWrite _ _ _ => true
  | .mediaLock _ => true
  | .towDataFrame _ _ _ m => m.payload.length ≤ 4096
  | .towLinkFrame _ _ _ => true
  | .towAckSend _ => true
  | .towLinkDown _ => true
  | .towLinkUp _ => true
  | .towForward _ => true
  | .towRacc _ => true
  | .towRaccAck _ => true
  | .racc _ => true
  | .raccAck _ => true
  | .towAckTimeout _ => true
  | .towDone _ => true
  | .paramUpdate _ => true
  | .towParam _ => true
  | .towParamAck _ => true
  | .towVerdict _ => true
  | .stepDeadline _ => true
  | .towVgLoad _ _ => true
  | .towVgClear _ _ => true
  | .towLock _ => true
  | .crumbCompare _ _ => true
  | .crumbSecondCheck _ _ => true
  | .crumbUndecided _ => true
  | .integRateLow _ _ _ => true
  | .pairCompare _ => true
  | .pairWaitTimeout _ => true
  | .quarantine _ => true
  | .returnToSpare _ => true
  | .integLinSelWrite _ _ => true
  | .linkRetrain _ => true
  | .linkRetrainEnd _ found => found.failed.all laneOk
  | .serviceMapWrite => true
  | .bringupStart => true
  | .bringupPhaseEnd x => x.failedLanes.all laneOk && x.excluded.all (fun e => e.2 < 1048576)
  | .clockStep _ => true
  | .fabricBin _ => true
  | .fabricChangeDone _ => true
  | .pllLockLoss _ => true
  | .pllRelock _ => true
  | .feedPresent _ _ => true
  | .feedLost _ _ => true
  | .capAdjust _ => true
  | .capGateField _ => true
  | .capEnd => true
  | .capRestoreField => true
  | .quadBusLoss q => q != 0
  | .supplyLinkLoss => true
  | .supplyLinkRestore => true
  | .powerUpStep => true
  | .regionShort _ => true
  | .regionOn _ => true
  | .interlockOpen _ => true
  | .inletTrip _ => true
  | .inletReclose _ => true
  | .sensorSample l => (l.map Prod.fst).Nodup
  | .snowploughStep _ => true
  | .coolantSample _ _ _ => true
  | .pdmSample _ _ _ => true
  | .thermalModelUpdate _ _ => true
  | .rewax => true
  | .rewaxNow _ => true
  | .planApply _ => true
  | .voltageStep _ => true
  | .hoursUpdate _ => true
  | .stage _ => true
  | .cancel _ _ => true
  | .restoreRpf c _ => c.length == 3
  | .recoveryImage _ => true
  | .signingDone => true
  | .getVersion _ => true
  | .getCapabilities _ => true
  | .negotiateAlgorithms _ => true
  | .getDigests _ => true
  | .getCertificate _ _ _ _ => true
  | .challenge _ _ n => n.length == 32
  | .getMeasurements _ _ sg n => !sg || n.length == 32
  | .respondIfReady _ => true
  | .report _ n => n.length == 32
  | .slhchain _ => true
  | .resetCold _ => true
  | .resetWarm _ => true
  | .fullRestart _ => true
  | .powerOff _ => true
  | .powerOn _ => true
  | .setAutoOn _ _ => true
  | .setReserve _ _ => true
  | .ptpAnnounce _ _ => true
  | .mediaLinkDown _ => true
  | .mediaLinkUp _ => true
  | .perstDeassert _ => true
  | .vfEnableSet _ _ => true
  | .atsInvalidate _ _ _ => true
  | .completionTimeout _ => true
  | .foldCreditReceive _ _ _ => true
  | .i3cEntdaa _ => true
  | .mgmtPortLink _ => true

end Sys2Proof
end

