-- ==== Sys2Proof/Tests/Slice0.lean ====
section
/-! SUPPORT. Checks of the author's own work: ill-formed commands are refused, small steps, and a witness for the hypotheses of every
statement. -/
namespace Sys2Proof.Machine


/-! ### Ill-formed commands: one for each check -/

theorem test_wf_noLane : (Instr.linkRetrainEnd { site := { x := 0, y := 1 }, port := .north } { failed := [{ net := 0, fld := 0, link := 0, dir := 0, group := 8, lane := 26 }], good := false }).wf = false
    ∧ (Instr.linkRetrainEnd { site := { x := 0, y := 1 }, port := .north } { failed := [{ net := 3, fld := 0, link := 0, dir := 0, group := 0, lane := 0 }], good := false }).wf = false := by decide
theorem test_wf_lane : (Instr.linkRetrainEnd { site := { x := 0, y := 1 }, port := .north } { failed := [{ net := 0, fld := 63, link := 847, dir := 1, group := 8, lane := 25 }], good := true }).wf = true := by decide
theorem test_wf_emptyAccess : (Instr.bar4Read 0 0 0).wf = false ∧ (Instr.bar4Write 0 0 []).wf = false ∧ (Instr.barBadAccess 0 0 true 0 0).wf = false := by
  decide
theorem test_wf_address : (Instr.mediaPacket 0 { bytes := 64, vlan := none, v6 := true, dst := [1, 2, 3, 4], dport := 0, pt := 0, seq := 0, ts := 0,
                                                 marker := false, segs := [] }).wf = false := by decide
theorem test_wf_context : (Instr.mediaCtxWrite 0 0 [1, 2]).wf = false := by decide
theorem test_wf_payload (h : TowHead) (m : TowMsg) (hm : m.payload.length = 4097) : (Instr.towDataFrame 0 true h m).wf = false := by
  simp [Instr.wf, hm]
theorem test_wf_phase : (Instr.bringupPhaseEnd { ok := true, serviceMapGood := true, failedSites := [], portsDown := [], excluded := [], failedLinks := [],
                                                 failedLanes := [{ net := 2, fld := 0, link := 0, dir := 0, group := 0, lane := 5 }] }).wf = false
    ∧ (Instr.bringupPhaseEnd { ok := true, serviceMapGood := true, failedSites := [], portsDown := [], excluded := [(0, 1048576)],
                               failedLanes := [], failedLinks := [] }).wf = false := by decide
theorem test_wf_noBus : (Instr.quadBusLoss 0).wf = false := by decide
theorem test_wf_sampledTwice : (Instr.sensorSample [(.field 0 0, some 5), (.field 0 0, none)]).wf = false := by decide
theorem test_wf_counters : (Instr.restoreRpf [1, 2] 0).wf = false := by decide
theorem test_wf_nonce : (Instr.challenge .mctp 0 [1]).wf = false ∧ (Instr.getMeasurements .mctp 0 true [1]).wf = false
    ∧ (Instr.report .mctp [1]).wf = false ∧ (Instr.getMeasurements .mctp 0 false [1]).wf = true := by decide

/-- A core that runs a block and holds the words `ws` from word 64 on, at its program counter. -/
def runCore (ws : List W32) : Core :=
  { seq := .running, inBlock := true, pc := 64, imem := (List.range ws.length).map (fun n => (64 + n, ws.getD n 0)) }

/-- The state in which core 0 of the cluster at the origin runs the words `ws`. -/
def runState (k : Core) : State := { cl := [(0, { core := [(0, k)] })] }

/-- Core 0 of the cluster at the origin. -/
def core0 : CoreRef := { site := { x := 0, y := 0 }, n := 0 }

/-! ### Small checks by hand from the spec's own examples -/

/-- R381: a record of -3, 5 and -2,147,483,648 has this checksum. -/
theorem test_record_checksum : ((recordOf 0 [0xFFFFFFFD, 5, 0x80000000]).drop 8).take 8 = leBytes 8 0xFFFFFFFF80000002 := by decide
/-- R316: descriptor field at offset 8. -/
theorem test_field : ({ ring := 0, index := 0, func := 0, raw := leBytes 8 1 ++ leBytes 8 0x1234 } : Desc).field 8 2 = 0x1234 := by decide
/-- ST 291-1 parity, as R362 names it: 0x61 has three bits set, so b8 is 1 and b9 is 0; 0x60 has two, so b9 is 1. -/
theorem test_anc_parity : anc10 0x61 = 0x161 ∧ anc10 0x60 = 0x260 := by decide
/-- An ANC packet with no user data takes two words: the header and 40 bits of DID, SDID, DC and checksum, filled to 32 bits. -/
theorem test_anc_packet : (ancPacket 9 [0x61, 0x02, 0, 0]).length = 12 ∧ (ancPacket 9 [0x61, 0x02, 0, 0]).take 4 = [0x00, 0x9F, 0xFF, 0x00] := by
  decide +kernel
/-- A step from reset with no feed leaves the engine unpowered (R452). -/
theorem test_reset_idle : step State.reset = .next State.reset := rfl

/-! ### AluFunctionsWriteTheirResults -/

theorem witness_alu : (runState (runCore [wordT 0x01 1 2 3 0])).runsWord core0 (wordT 0x01 1 2 3 0) := by
  refine ⟨by decide, by decide, by decide⟩

/-! ### ImmediateAndCounterInstructionsWriteTheirResults -/

theorem witness_immediates : (runState (runCore [wordI 0x02 1 2 5])).runsWord core0 (wordI 0x02 1 2 5)
    ∧ (runState (runCore [wordQ 0x15 1 0 3 0xFFFF])).runsWord core0 (wordQ 0x15 1 0 3 0xFFFF)
    ∧ (runState (runCore [wordF 3 4 0 true])).runsWord core0 (wordF 3 4 0 true)
    ∧ (runState (runCore [wordZ 0x19 15 0])).runsWord core0 (wordZ 0x19 15 0) := by
  refine ⟨⟨by decide, by decide, by decide⟩, ⟨by decide, by decide, by decide⟩, ⟨by decide, by decide, by decide⟩, by decide, by decide, by decide⟩

/-! ### LoadsAndStoresOfACoreMoveOneWord -/

theorem witness_loads : let s := runState (runCore [wordI 0x08 1 0 8]); let t := runState (runCore [wordI 0x09 1 0 8])
    s.runsWord core0 (wordI 0x08 1 0 8) ∧ s.wordAddr core0 0 8 % 4 = 0 ∧ inData (s.wordAddr core0 0 8) 4 = true
    ∧ (s.clu 0).reservedFrom 0 [(s.wordAddr core0 0 8, 4)] = false ∧ (s.core core0).hazard [(s.wordAddr core0 0 8, 4)] [] = false
    ∧ (s.clu 0).dataBad 0 (s.wordAddr core0 0 8) 4 = false
    ∧ t.runsWord core0 (wordI 0x09 1 0 8) ∧ (t.core core0).hazard [] [(t.wordAddr core0 0 8, 4)] = false := by
  refine ⟨⟨by decide, by decide, by decide⟩, by decide, by decide, by decide, by decide, by decide, ⟨by decide, by decide, by decide⟩, by decide⟩

/-! ### DataWritesChangeTheirBytesAlone -/

theorem witness_dataWrite : inData 0x17FFFE 2 = true ∧ inData 0x20FFFE 2 = true ∧ inData 0x17FFFF 1 = true ∧ inData 0x20FFFF 1 = true
    ∧ inData 0x17FFFF 2 = false ∧ inData 0x20FFFF 2 = false := by decide

/-! ### ControlFlowMovesTheProgramCounter -/

theorem witness_br : let k := { runCore [wordB 4 1 2 0x7FFF, wordZ 0x0D 0 0] with pc := 64, g := [(2, 5)] }
    let s := runState k
    s.mayIssue core0 (wordB (condCode .ltu) 1 2 0x7FFF) = true ∧ branchTaken .ltu (k.reg 1) (k.reg 2) = true ∧ branchTaken .eq (k.reg 1) (k.reg 2) = false
    ∧ (64 : Int) ≤ (65 : Nat) + (0x7FFF : BitVec 15).toInt := by decide
theorem witness_end : let s := runState (runCore [wordZ 0x0D 0 0]); let t := runState (runCore [wordZ 0x0E 0 0])
    s.mayIssue core0 (wordZ 0x0D 0 0) = true ∧ t.mayIssue core0 (wordZ 0x0E 0 0) = true := by decide
theorem witness_settle : (runState (runCore [wordZ 0x1B 0 0])).runsWord core0 (wordZ 0x1B 0 0) := ⟨by decide, by decide, by decide⟩
theorem witness_decision : let s := runState { seq := .running, imem := [(2, 0x80400000)] }
    s.clocked 0 = true ∧ (s.clu 0).blockReady 0 1 = true ∧ (s.clu 0).blockReady 0 0 = false := by decide

/-! ### QueueInstructionsMoveTokens -/

theorem witness_queues : let k := { runCore [wordQ 0x10 1 2 0 0] with port := [(2, 0x85)] }
    let c : Cluster := { core := [(0, k)], queue := [(5, { cap := 4, cons := 2, toks := [{ data := 7, epoch := 0 }] })] }
    let s : State := { cl := [(0, c)] }
    s.mayIssue core0 (wordQ 0x10 1 2 0 0) = true ∧ c.inPort 0 2 = some 5 := by decide
theorem witness_push : let k := { runCore [wordQ 0x11 1 2 0 0] with port := [(2, 0x85)] }
    let c : Cluster := { core := [(0, k)], queue := [(5, { cap := 1, prod := 2, cons := 0xA0 })] }
    let s : State := { cl := [(0, c)] }
    s.mayIssue core0 (wordQ 0x11 1 2 0 0) = true ∧ c.outPort 0 2 = some 5 ∧ (c.getQueue 5).room ≠ 0 := by decide
theorem witness_peek : let k := { runCore [wordQ 0x12 1 2 0 0] with port := [(2, 0x85)] }
    let c : Cluster := { core := [(0, k)], queue := [(5, { cap := 4, cons := 2, toks := [{ data := 7, epoch := 0 }] })] }
    let s : State := { cl := [(0, c)] }
    s.mayIssue core0 (wordQ 0x12 1 2 0 0) = true ∧ c.inPort 0 2 = some 5 := by decide

/-! ### MatrixInstructionsEnterTheirQueue -/

theorem witness_matrix : let k := { runCore [wordM 0x20 1 2 8 false, wordM 0x21 1 2 8 false, wordM 0x22 1 2 8 false, wordM 0x23 0 0 8 false] with
      fa := 3, fb := 3, g := [(1, 0x4000), (2, 0x8000)] }
    k.matQueue.length < 2 ∧ matFormatBad k.fa k.fb false 1 2 = false ∧ (k.matOp .mma 1 2 8 false).addressOk = true
    ∧ (k.matOp .mms 1 2 8 false).addressOk = true ∧ (k.matOp .mmp 1 2 8 false).addressOk = true
    ∧ k.matHazard (k.matOp .mmp 1 2 8 false) = false ∧ (runState k).training 0 = false
    ∧ (runState k).mayIssue core0 (wordM 0x20 1 2 8 false) = true
    ∧ (runState { k with pc := 65 }).mayIssue core0 (wordM 0x21 1 2 8 false) = true
    ∧ (runState { k with pc := 66 }).mayIssue core0 (wordM 0x22 1 2 8 false) = true
    ∧ (runState { k with pc := 67 }).mayIssue core0 (wordM 0x23 0 0 8 false) = true := by decide

/-! ### VectorInstructionsEnterTheirQueue -/

theorem witness_vector : let k := { runCore [wordV 0x28 1 2 3 0 0 false false, wordV 0x29 1 2 0 0 1 false false, wordP 0x2B 1 8 true] with
      g := [(1, 0x4000), (2, 0x8000), (3, 0x200000)] }
    k.vecQueue.length < 2 ∧ vopFormatBad .add 0 = false ∧ vecOperand 0x8000 (vopBytes (vecFmt 0)) = true
    ∧ vecOperand 0x200000 (vopBytes (vecFmt 0)) = true ∧ inData 0x200000 1 = true ∧ inSp 0x4000 2048 = true
    ∧ (runState k).mayIssue core0 (wordV 0x28 1 2 3 0 (vopCode .add) false false) = true
    ∧ (runState { k with pc := 65 }).mayIssue core0 (wordV 0x29 1 2 0 0 1 false false) = true
    ∧ (runState { k with pc := 66 }).mayIssue core0 (wordP 0x2B 1 8 true) = true
    ∧ k.hazard (VecOp.reads (.spill 0x4000 8 true)) (VecOp.writes (.spill 0x4000 8 true)) = false := by decide
theorem witness_vcvtSupplied : let k := { runCore [wordV 0x29 1 2 3 0 0x13 false true] with g := [(1, 0x4000), (2, 0x8000), (3, 0x200000)] }
    (runState k).mayIssue core0 (wordV 0x29 1 2 3 0 0x13 false true) = true ∧ vecScaled 0x13 = true ∧ cvtFormatBad 0 0x13 3 true 0 = false
    ∧ ((runState k).clu 0).dataBad 0 0x200000 1 = false ∧ ((runState k).clu 0).reservedFrom 0 [(0x200000, 1)] = false
    ∧ vecOperand 0x8000 ((vecFmt 0).bytesFor 32) = true ∧ vecOperand 0x4000 ((vecFmt 0x13).bytesFor 32) = true
    ∧ k.hazard (VecOp.reads (.vcvt 0 0x13 0x4000 0x8000 0x200000 false true 0) ++ [(0x200000, 1)])
        (VecOp.writes (.vcvt 0 0x13 0x4000 0x8000 0x200000 false true 0)) = false := by decide
theorem witness_vcvt : cvtFormatBad 0 1 0 false 0 = false ∧ vecOperand 0x8000 ((vecFmt 0).bytesFor (cvtCount 0 1)) = true := by decide

/-! ### UnitsStartAndCompleteInstructions -/

/-- A dense pass into tile 8 of operands that a core captured. -/
def aPass (kind : MatKind) : MatOp := { kind := kind, spec := 3, acc := false, a := 0x4000, b := 0x8000, sa := 0, sb := 0, tile := 8, pc := 64 }
theorem witness_passStart : let k : Core := { matQueue := [aPass .mma] }; let s := runState k
    s.clocked 0 = true ∧ (aPass .mma).kind ≠ .mms ∧ k.unitFree (aPass .mma) = true ∧ (s.clu 0).canReserve 0 [8] = true
    ∧ (s.clu 0).canReserve 0 (aPass .mma).tiles = true ∧ (s.clu 0).passIn 0 (aPass .mma).reads = false
    ∧ (s.clu 0).matBad 0 (aPass .mma) = false
    ∧ ({ s.clu 0 with resv := [(8, { holder := some 1 })] } : Cluster).canReserve 0 [8] = false
    ∧ ({ s.clu 0 with spBad := [0x800] } : Cluster).matBad 0 (aPass .mma) = true := by decide
theorem witness_mmsStart : let k : Core := { matQueue := [aPass .mms] }; let c : Cluster := { core := [(0, k)] }
    (aPass .mms).kind = .mms ∧ k.mms.length < 4 ∧ c.steal.length + 8 ≤ 64 ∧ c.passIn 0 (aPass .mms).reads = false ∧ c.matBad 0 (aPass .mms) = false := by decide
theorem witness_stealChunk : let c : Cluster := { core := [(0, {})], steal := [{ core := 0, pass := 0, m := 7 }, { core := 1, pass := 0, m := 0 }] }
    c.denseReady 0 = false ∧ c.denseReady 1 = false ∧ (c.getCore 0).matRun = none := by decide
theorem witness_mmsApply : let c : Cluster := {}
    c.canReserve 0 [8] = true ∧ ({} : Core).usesTile 8 = false ∧ c.dataBad 0 8192 1024 = false ∧ c.reservedFrom 0 ((VecOp.spill 0x4000 8 true).reads) = false := by decide

/-! ### SteeringUnitsFire -/

/-- A loaded cluster with steering unit 0 of a kind, a token on each of its three inputs and room on both outputs. -/
def steerState (k : SteerKind) (v : Steer) : State :=
  let tok (n : Nat) : List Token := [{ data := BitVec.ofNat 32 n, epoch := 0 }]
  let qs : Tab Queue := [(0, { cap := 4, cons := 0x80, toks := tok 2 }), (1, { cap := 4, cons := 0x81, toks := tok 7 }),
    (2, { cap := 4, cons := 0x82, toks := tok 9 }), (3, { cap := 4, prod := 0x84 }), (4, { cap := 4, prod := 0x85 })]
  { cl := [(0, { cfg := some 0, owner := some 1, steer := [(0, { v with kind := k })], queue := qs })] }
theorem witness_steer : let s := steerState .branch {}
    s.steers 0 = true ∧ ((s.clu 0).getSteer 0).kind = .branch ∧ (s.clu 0).steerHead 0 0 = some { data := 2, epoch := 0 }
    ∧ (s.clu 0).steerHead 0 1 = some { data := 7, epoch := 0 } ∧ (s.clu 0).steerHead 0 2 = some { data := 9, epoch := 0 }
    ∧ (s.clu 0).steerRoom 0 4 = true ∧ (s.clu 0).steerRoom 0 5 = true := by decide
theorem witness_rate : ((steerState .rateRepeat { count := 3, held := some { data := 1, epoch := 0 } }).clu 0).getSteer 0
      = { kind := .rateRepeat, count := 3, held := some { data := 1, epoch := 0 } }
    ∧ (((steerState .rateSkip {}).clu 0).getSteer 0).count = 0 ∧ (((steerState .carry { looping := true }).clu 0).getSteer 0).looping = true := by decide

/-! ### TokensAndCreditsTravel -/

/-- Two clusters of configuration 0 of function 1: queue 3 of the first feeds queue 6 of the second. -/
def pairState : State :=
  let a : Queue := { cap := 8, cons := 0xA0, credits := 2, rx := 1, ry := 0, rq := 6, toks := [{ data := 5, epoch := 0 }] }
  let b : Queue := { cap := 8, prod := 0xA0, owed := 1, rx := 0, ry := 0 }
  let c0 : Cluster := { cfg := some 0, owner := some 1, queue := [(3, a)], core := [(0, { seq := .running })], wdogExp := 10 }
  let c1 : Cluster := { cfg := some 0, owner := some 1, lx := 1, queue := [(6, b)] }
  let p : Packet :=
    { id := 9, dx := 1, dy := 0, sx := 0, sy := 0, typ := .token, vc := 1, func := 1, arg := 6, payload := leBytes 4 5, pos := .delivered 1 }
  { cl := [(0, c0), (1, c1)], part := [(1, { cfg := [(0, { clusters := [0, 1] })] })], ready := true,
    fab := { credits := [{ site := 0, q := 3, epoch := 0, src := 1 }], flight := [p] } }
theorem witness_tokens : pairState.remoteOf 0 ((pairState.clu 0).getQueue 3) = some 1 ∧ pairState.routing 0 = true
    ∧ pairState.ttQueue 0 3 = none ∧ pairState.twinOf 1 = none ∧ pairState.barred 1 = false ∧ pairState.creditHeld 1 0 = false ∧ (pairState.arrived 9 .token).isSome = true ∧ (pairState.clu 0).unfinished = true
    ∧ pairState.clocked 0 = true ∧ (pairState.cfg 1 0).halted = none := by decide
theorem witness_creditReturn : pairState.senderOf 1 6 = some (0, 3) ∧ pairState.routing 1 = true
    ∧ ((pairState.clu 1).getQueue 6).prod = 0xA0 ∧ 0 < ((pairState.clu 1).getQueue 6).owed := by decide

/-! ### IllegalWordHaltsTheCore -/

theorem witness_illegal : (runState (runCore [])).mayIssue core0 0 = true ∧ ((runState (runCore [])).core core0).imemBad.contains 64 = false := by decide

/-! ### BarriersHoldAndRelease -/

/-- Barrier 5 of configuration 0 of function 1, of which core 0 of the cluster at the origin is the one member. -/
def barState (arrived : List (Nat × Nat)) : State :=
  { cl := [(0, { owner := some 1, cfg := some 0, core := [(0, runCore [wordZ 0x1A 0 5])] })],
    fab := { barriers := [{ key := cfgKey 1 0, index := 5, members := [(0, 0)], arrived := arrived, wafer := true }] } }
theorem witness_bar : (barState []).mayIssue core0 (wordZ 0x1A 0 5) = true ∧ ((barState []).clu 0).owner = some 1 := by decide
theorem witness_release : ((barState [(0, 0)]).fab.barriers.find? (fun x => x.key == cfgKey 1 0 && x.index == 5)).isSome = true
    ∧ (barState [(0, 0)]).fab.recomputing = false := by decide

/-! ### TransfersAreAcceptedAndComplete -/

theorem witness_xfer : let s := runState { runCore [wordZ 0x1C 1 0] with g := [(1, 0x4000)] }
    s.mayIssue core0 (wordZ 0x1C 1 0) = true ∧ vecOperand 0x4000 32 = true ∧ (s.core core0).hazard [(0x4000, 32)] [] = false
    ∧ (s.clu 0).freeSlot = some 0 ∧ (s.clu 0).stalled = [] ∧ s.clocked 0 = true := by decide
/-- A transfer whose one request has not been answered, or has. -/
def oneXfer (compl : BitVec 32) : Xfer := { core := 0, req := parseReq (leBytes 32 0xFF000001), issue := 1, compl := compl, lastAnswer := 0, exposed := true }
theorem witness_xferDone : (oneXfer 1).req.doneq = 0xFF ∧ (oneXfer 1).issue = (oneXfer 1).compl ∧ (oneXfer 0).compl ≠ (oneXfer 0).issue
    ∧ (oneXfer 0).exposed = true ∧ ({ now := 2 ^ 40 } : State).lossQuiet ≤ 2 ^ 40 := by decide

/-! ### PacketsTakeEffectAtTheirDestination -/

/-- A state in which packet 1 of a type has arrived at router 0, for function 1, whose cluster at the origin has a transfer in slot 2. -/
def packetState (t : PType) (dx : Nat) (payload : List W8) : State :=
  let p : Packet := { id := 1, dx := dx, dy := 0, sx := 0, sy := 0, typ := t, vc := 1, func := 1, tag := 2, payload := payload, pos := .delivered 0 }
  let x : Xfer := { core := 0, req := parseReq (leBytes 32 1), issue := 1, lastAnswer := 0 }
  { cl := [(0, { owner := some 1, slot := [(2, some x)] })], fab := { flight := [p] },
    mem := { page := [(0, { v := true, owner := 1 })] } }
theorem witness_packets : let r := packetState .rdReq 0xA0 (leBytes 8 0x0000004000000100); let w := packetState .wr 0xA0 (leBytes 8 7)
    let v := packetState .wr 0 (leBytes 8 7)
    (r.arrived 1 .rdReq).isSome = true ∧ r.owns 1 0 64 = true ∧ r.badRead (some []) 0 64 = [] ∧ r.resetting 1 = false
    ∧ (w.arrived 1 .wr).isSome = true ∧ w.owns 1 0 8 = true ∧ w.touchesSealed 0 8 = false ∧ w.owns 2 0 8 = false
    ∧ (v.clu 0).heldAt 0 8 = false ∧ (v.clu 0).owner = some 1 ∧ (v.fab.flight.all (fun p => ((v.clu 0).slotOf p).isSome)) = true
    ∧ (v.fab.flight.all (fun p => ((v.clu 0).slotOf { p with serial := 1 }).isNone)) = true := by decide
/-- A line of the page is uncorrectable, or its partition resets. -/
def packetTrouble : State := { packetState .rdReq 0xA0 (leBytes 8 0x0000004000000100) with
  mem := { page := [(0, { v := true, owner := 1 })], bad := [0] }, part := [(2, { reset := some { since := 0 } })] }
theorem witness_packetTrouble : packetTrouble.badRead (some []) 0 64 = [0] ∧ packetTrouble.resetting 2 = true := by decide

/-! ### LinksAndRoutersMoveFlitsAndPackets -/

/-- A token packet at the router at the origin, bound for the router to its east, to which flits are on their way. -/
def hopState : State :=
  { fab := { flight := [{ id := 1, dx := 1, dy := 0, sx := 0, sy := 0, typ := .token, vc := 2, func := 1, pos := .router 0 none }],
             link := [(1, { sent := 1 })] } }
theorem witness_links : let l : LinkEnd := { site := { x := 0, y := 0 }, port := .east }
    hopState.routing 0 = true ∧ (hopState.link (linkEndKey l)).state = .up ∧ (hopState.link (linkEndKey l)).quiet + 255 < 256
    ∧ 0 < (hopState.link (linkEndKey l)).unacked := by decide
theorem witness_grant : let p : Packet := { id := 1, dx := 1, dy := 0, sx := 0, sy := 0, typ := .token, vc := 2, func := 1, pos := .router 0 none }
    hopState.output p 0 = some (.dir .east) ∧ hopState.readyFor 0 (.dir .east) p = true ∧ hopState.atHead p = true
    ∧ hopTo p 0 (.dir .east) = some (.wire 1 .west none) ∧ hopTo p 0 .locl = some (.delivered 0) ∧ hopState.fab.installed.clean 0 p.dest = true
    ∧ hopState.pick (outNo 0 (.dir .east)) [p] = some p ∧ hopState.packet 1 = some p ∧ (hopState.letIn 0).fab.flight = [p]
    ∧ hopState.roomFor { p with lane := .laneD } p.pos = true ∧ hopState.roomFor { p with lane := .laneU } p.pos = true := by decide
/-- The tables after the field at the origin has gone out of service. -/
theorem witness_notClean : let m : LiveMap := { oos := 1 }
    m.clean 0 1 = false := by decide

/-! ### MapChangesReachRoutersAndTables -/

theorem witness_install : let s : State := { fab := { recomputing := true } }
    s.fab.recomputing = true ∧ s.laneUDone = true ∧ s.routing 0 = true := by decide
theorem witness_notDone : let p : Packet := { id := 1, dx := 1, dy := 0, sx := 0, sy := 0, typ := .token, vc := 2, lane := .laneU, func := 1, pos := .wire 1 .west none }
    ({ fab := { recomputing := true, flight := [p] } } : State).laneUDone = false := by decide
theorem witness_quiet : let s : State := { fab := { darkSince := some 0, inflight := [(1, 5)], tokenFlight := [(5, 2)], suspect := [1, 69] }, now := 2 ^ 40 }
    s.quietSince 1 = true ∧ s.quietSince (64 + 4 * 1 + 1) = true := by decide
theorem witness_fieldCommand : let h : HostIf := { port := [(0, { perst := false })] }
    let s : State := { ready := true, fab := { oos := 1, installed := { oos := 1 } }, fld := [(0, { wasReset := true })], hst := h }
    s.reachesPF 0 = true ∧ s.isOos 0 = true ∧ s.isDark 0 = false ∧ (s.field 0).wasReset = true ∧ (s.fab.installed.dark ||| s.fab.installed.oos).getLsbD 0 = true
    ∧ s.isOos 1 = false := by decide
theorem witness_fieldOwned : ∃ e ∈ ([(0, { owner := some 1 })] : Tab Cluster), e.2.owner.isSome = true ∧ fieldOf e.1 = 0 := ⟨(0, { owner := some 1 }), by decide⟩

/-! ### RecordsArePlacedByCprod -/

/-- A state with ring 3 of function 0, a work ring of 16 records from 0x1000, and one descriptor of it. -/
def ringState (raw : List W8) (started : Bool) : State :=
  { ready := true, hst := { func := [(0, { count := 8 })], ring := [(3, { kind := .work, logsz := 4, cbase := 0x1000, cprod := 17, inprog := 1 })],
                            port := [(0, { perst := false })], descs := [{ ring := 3, index := 17, func := 0, raw := raw, started := started }] } }
theorem witness_record : let s := ringState (leBytes 64 1) false
    (s.desc 3 17).isSome = true ∧ s.resetting 0 = false ∧ (s.ring 3).kind ≠ .disabled ∧ (s.ring 3).cloc = false ∧ s.ctxBad 3 = false := by decide
/-- The same with its completion area in a page of the function. -/
def ringDevState : State := { ringState (leBytes 64 1) false with
  hst := { (ringState (leBytes 64 1) false).hst with ring := [(3, { kind := .work, logsz := 4, cbase := 0x1000, cprod := 17, inprog := 1, cloc := true })] },
  mem := { page := [(0, { v := true })] } }
theorem witness_recordDev : let s := ringDevState
    (s.ring 3).cloc = true ∧ s.owns 0 0x1020 32 = true ∧ (s.dropDesc 3 17).badMerge 0x1020 32 = [] ∧ s.owns 0 0x8000000000 32 = false := by decide

/-! ### DescriptorsThatNeedNoWaitComplete -/

/-- Descriptor 17 of ring 3. -/
def desc17 : DescRef := { ring := 3, index := 17 }
/-- The body of a descriptor whose first byte is the opcode. -/
def descOf (op : Nat) (body : List W8) : Desc := { ring := 3, index := 17, func := 0, raw := leBytes 8 op ++ body ++ List.replicate (56 - body.length) 0 }
/-- `s.starts` as a check. -/
def startsNow (s : State) (d : Desc) (op : Nat) : Bool :=
  s.desc 3 17 == some d && s.ready && !d.started && d.opcode == op && s.startable d && !s.headerBad d
def stateOf (d : Desc) : State := ringState d.raw d.started
theorem witness_nop : startsNow (stateOf (descOf 1 [])) (descOf 1 []) 1 = true ∧ startsNow (stateOf (descOf 2 [1])) (descOf 2 [1]) 2 = true
    ∧ (descOf 2 [1]).field 8 1 = 1 := by decide
theorem witness_timestamp : startsNow (stateOf (descOf 10 [1])) (descOf 10 [1]) 10 = true
    ∧ startsNow (stateOf (descOf 13 [255])) (descOf 13 [255]) 13 = true ∧ (descOf 13 [255]).field 8 1 = 255
    ∧ startsNow (stateOf (descOf 13 [15])) (descOf 13 [15]) 13 = true ∧ (descOf 1 [0, 7]).field 9 1 ≠ 0 ∧ 13 < (descOf 14 []).opcode := by decide
/-- Context 5 of function 0, valid, for a stream of 60 frames a second; event ring 4; configuration 2 loaded and frame-bound. -/
def bindState : State :=
  let x : Ctx := { raw := leBytes 32 0x80 ++ leBytes 4 60 ++ leBytes 4 1 ++ List.replicate 24 0 }
  let d := descOf 6 (leBytes 4 0x00050002 ++ leBytes 4 0 ++ leBytes 4 100 ++ leBytes 4 4)
  let s := stateOf d
  let h : HostIf := { s.hst with ring := [(3, { kind := .work, logsz := 4, inprog := 1 }), (4, { kind := .event, logsz := 4 })] }
  { s with hst := h, media := { ctx := [(5, x)] }, part := [(0, { cfg := [(2, { loaded := true, frame := true })] })] }
theorem witness_bind : let d := descOf 6 (leBytes 4 0x00050002 ++ leBytes 4 0 ++ leBytes 4 100 ++ leBytes 4 4)
    startsNow bindState d 6 = true ∧ d.bop = 0 ∧ d.stream = 5 ∧ bindState.bindBad d = false := by decide

/-! ### DescriptorsThatWaitStart -/

theorem witness_copy : let d := descOf 3 (leBytes 8 0 ++ leBytes 8 4096 ++ leBytes 8 8 ++ [3])
    startsNow (stateOf { d with raw := d.raw }) d 3 = true ∧ d.srcHost = true ∧ d.dstHost = true := by decide
theorem witness_copyHost : let d := descOf 3 (leBytes 8 0 ++ leBytes 8 4096 ++ leBytes 8 8 ++ [1])
    let t := stateOf d
    let s := { t with mem := { page := [(0, { v := true })] } }
    startsNow s d 3 = true ∧ s.copyBad d = false ∧ d.srcHost = true := by decide
theorem witness_digest : let d := descOf 9 (leBytes 8 0 ++ leBytes 8 32 ++ leBytes 16 5)
    let t := stateOf d
    let s := { t with mem := { page := [(0, { v := true })] } }
    startsNow s d 9 = true ∧ s.digestBad d = false := by decide
/-- A CONFIG_LOAD of 64 bytes at address 0 into configuration 2, with device memory that holds an image of no cluster, or zeros. -/
def loadState (version : W8) : State :=
  let d := descOf 4 (leBytes 8 0 ++ leBytes 4 64 ++ leBytes 2 2)
  let s := stateOf d
  { s with mem := { page := [(0, { v := true })], bytes := [(0, version)] } }
theorem witness_load : let d := descOf 4 (leBytes 8 0 ++ leBytes 4 64 ++ leBytes 2 2)
    startsNow (loadState 1) d 4 = true ∧ d.lctl = 0 ∧ (loadState 1).loadWaits d = false ∧ (loadState 1).loadBad d = false
    ∧ (loadState 1).badRead none d.image d.imgLen = [] := by decide
theorem witness_loadBad : let s := { loadState 1 with mem := { page := [(0, { v := true })], bytes := [(0, 1)], bad := [0] } }
    s.badRead none 0 64 = [0] := by decide
theorem witness_loadImage : ((loadState 1).checkImage 0 2 (imageOf ((loadState 1).devRead none 0 64))).isSome = true
    ∧ (loadState 0).checkImage 0 2 (imageOf ((loadState 0).devRead none 0 64)) = none := by decide
theorem witness_unbind : let d := descOf 6 (leBytes 4 0x00050002 ++ [1])
    let t := stateOf d
    let b : Binding := { func := 0, cfgid := 2, latency := 0, fring := 4, args := [], ring := 3, next := 7, running := some 6 }
    let s := { t with media := { ctx := [(5, { bound := some b })] }, part := [(0, { cfg := [(2, { loaded := true, frame := true })] })] }
    startsNow s d 6 = true ∧ d.bop = 1 ∧ s.unbindBad d = false ∧ (s.ctx d.stream).bound = some b ∧ b.running.isSome = true := by decide
theorem witness_waits : startsNow (stateOf (descOf 10 [0])) (descOf 10 [0]) 10 = true
    ∧ startsNow (stateOf (descOf 12 (leBytes 4 1 ++ leBytes 4 3))) (descOf 12 (leBytes 4 1 ++ leBytes 4 3)) 12 = true
    ∧ (stateOf (descOf 12 [])).waitBad (descOf 12 (leBytes 4 1 ++ leBytes 4 3)) = false := by decide
theorem witness_unload : let d := descOf 4 (leBytes 12 0 ++ leBytes 2 2 ++ leBytes 2 0 ++ [1])
    let t := stateOf d
    let s := { t with part := [(0, { cfg := [(2, { loaded := true })] })] }
    startsNow s d 4 = true ∧ d.lctl = 1 ∧ d.loadCfg = 2 ∧ s.loadWaits d = false ∧ (s.cfg 0 2).loaded = true := by decide

/-! ### LaunchesStartTheirConfiguration -/

/-- A LAUNCH of configuration 2 in progress, on a ring of a kind; configuration 2 is loaded. -/
def launchState (kind : RingKind) (halted : Option Report) (body : List W8) : State :=
  let s := stateOf (descOf 5 body)
  let h : HostIf := { s.hst with ring := [(3, { kind := kind, logsz := 4, inprog := 1, pooltab := 64 })] }
  { s with hst := h, part := [(0, { cfg := [(2, { loaded := true, halted := halted })] })],
           mem := { page := [(0, { v := true })], bytes := [(64, 2)] } }
theorem witness_launch : let s := launchState .work none [2]
    startsNow s (descOf 5 [2]) 5 = true ∧ (s.cfg 0 2).loaded = true ∧ (s.cfg 0 2).halted = none ∧ s.launchBehind (descOf 5 [2]) = false
    ∧ s.onPool (descOf 5 [2]) = false ∧ (descOf 5 [2]).place = 0 ∧ ((launchState .work (some {}) [2]).cfg 0 2).halted = some {} := by decide
theorem witness_pool : let s := launchState .pool none []
    startsNow s (descOf 5 []) 5 = true ∧ s.onPool (descOf 5 []) = true ∧ (s.poolPick (descOf 5 [])).isSome = true
    ∧ s.owns 0 (descOf 5 []).place 1 = true := by decide

/-! ### LaunchStartsEveryLoadedCore -/

theorem witness_startRun : let s := launchState .work none [2]
    let p : Part := { cfg := [(2, { loaded := true, clusters := [0] })] }
    let t := { s with part := [(0, p)], cl := [(0, { core := [(0, { seq := .loaded })] })] }
    (t.cfg 0 2).clusters.Nodup ∧ 0 ∈ (t.cfg 0 2).clusters ∧ t.barred 0 = false ∧ ({ t with site := [(0, .quarantined)] } : State).barred 0 = true ∧ ((t.clu 0).getCore 0).seq ≠ .unloaded := by decide

/-! ### StartedDescriptorsComplete -/

/-- `s.inWork` as a check for descriptor 17 of ring 3. -/
def worksNow (s : State) (d : Desc) (op : Nat) : Bool := s.desc 3 17 == some d && d.started && d.opcode == op
/-- A started descriptor on a state whose page 0 is valid, with bad lines. -/
def workState (d : Desc) (bad : List Nat) : State :=
  let t := stateOf d
  { t with mem := { page := [(0, { v := true })], bad := bad }, now := 9 }
def copyDesc (loc : W8) : Desc := { descOf 3 (leBytes 8 0 ++ leBytes 8 4096 ++ leBytes 8 8 ++ [loc]) with started := true }
def digestDesc : Desc := { descOf 9 (leBytes 8 0 ++ leBytes 8 32 ++ leBytes 16 5) with started := true }
theorem witness_copyDone : worksNow (workState (copyDesc 1) []) (copyDesc 1) 3 = true ∧ (workState (copyDesc 1) []).copyBad (copyDesc 1) = false
    ∧ (copyDesc 1).srcHost = true ∧ worksNow (workState (copyDesc 2) [0]) (copyDesc 2) 3 = true
    ∧ (workState (copyDesc 2) [0]).copyBad (copyDesc 2) = false ∧ (workState (copyDesc 2) [0]).badRead (some []) 0 8 = [0]
    ∧ (workState (copyDesc 2) []).badRead (some []) 0 8 = [] := by decide
theorem witness_digestDone : worksNow (workState digestDesc []) digestDesc 9 = true ∧ (workState digestDesc []).digestBad digestDesc = false
    ∧ (workState digestDesc []).badRead (some []) 0 32 = [] := by decide
theorem witness_gone : let s := workState { copyDesc 1 with raw := (copyDesc 1).raw.set 32 3 } []
    let d := { copyDesc 1 with raw := (copyDesc 1).raw.set 32 3 }
    worksNow s d 3 = true ∧ s.copyBad d = true := by decide
theorem witness_badWords : worksNow (workState digestDesc [1]) digestDesc 9 = true ∧ (workState digestDesc [0]).digestBad digestDesc = false
    ∧ (workState digestDesc [0]).badRead (some []) 0 32 = [0] ∧ (let d : Desc := { descOf 12 [0] with started := true }
      worksNow (workState d [0]) d 12 = true ∧ d.field 8 1 = 0 ∧ (workState d [0]).badRead none 0 4 = [0]
        ∧ (workState d []).badRead none 0 4 = []) := by decide
theorem witness_quiesceComplete : let d : Desc := { descOf 10 [0] with started := true }
    worksNow (workState d []) d 10 = true ∧ ((workState d []).prt 0).cfg = [] := by decide
theorem witness_wait : let d : Desc := { descOf 12 (leBytes 4 1 ++ leBytes 4 3) with started := true }
    worksNow (workState d []) d 12 = true ∧ (workState d []).waitHolds d = true := by decide
theorem witness_deadline : let d : Desc := { descOf 12 (leBytes 4 1 ++ leBytes 4 3 ++ leBytes 8 0 ++ leBytes 8 50 ++ leBytes 8 8) with started := true }
    worksNow (workState d []) d 12 = true ∧ (workState d []).waitHolds d = false ∧ d.field 32 8 = 8 ∧ (workState d []).now = 9 := by decide
theorem witness_timeout : let h : HostIf := { func := [(0, { count := 8 })], ring := [(3, { kind := .work, logsz := 4, head := 17, tail := 18 })] }
    let s : State := { ready := true, hst := h }
    s.desc 3 17 = none ∧ s.ringOwner 3 = some 0 ∧ s.canTake 3 0 = true := by decide

/-! ### LoadsProceedThroughTheirPhases -/

/-- A load of one section with no core, or an UNLOAD, in a phase, for configuration 2 of function 0. -/
def loading (unload : Bool) (phase : LoadPhase) : State :=
  let x : Section := { site := 0, bytes := List.replicate 4 0 ++ [1] }
  let l : Load := { desc := (3, 17), unload := unload, phase := phase, deadline := 5, sections := [x] }
  { ready := true, now := 9, part := [(0, { cfg := [(2, { loaded := true, load := some l })] })] }
theorem witness_drain : ((loading false .drain).cfg 0 2).load.isSome = true ∧ (loading false .drain).drained ((loading false .drain).cfg 0 2) = true
    ∧ (loading true .drain).drained ((loading true .drain).cfg 0 2) = true := by decide
/-- The state of a load with a CFG_BODY packet of an epoch delivered at cluster 0 of an enabled field. -/
def bodyState (e : BitVec 2) : State :=
  let p : Packet := { typ := .cfgBody, dx := 0, dy := 0, sx := 0, sy := 0, vc := 2, func := 0, id := 9, arg := 2 ^ 43 + 8, payload := [1, 2, 3, 4, 5, 6, 7, 8], epoch := e, pos := .delivered 0 }
  { loading false .load with fab := { flight := [p] }, cl := [(0, { owner := some 0 })] }
theorem witness_body : ((bodyState 0).bodyFor { site := { x := 0, y := 0 }, n := 0 } true 8 8).isSome = true ∧ ((bodyState 0).clu 0).resetting = false
    ∧ (bodyState 3).loading 0 0 3 = false ∧ (let t := (loading false .load).enterLoad 0 2
      (t.cfg 0 2).load.isSome = true ∧ t.badRead none 0 0 = [] ∧ t.fab.flight = []) := by decide
/-- That site 0 may be placed is the state of the field: it is enabled unless a test or a fuse word bars it, which the model leaves to
each wafer (`Config`). -/
theorem witness_bodyPlaced (h : (bodyState 0).siteState 0 = .enabled) : (bodyState 0).loading 0 0 0 = true := by
  unfold State.loading State.placeable
  rw [h]; decide
theorem witness_loadDone : let t := (loading true .load).enterLoad 0 2
    (t.cfg 0 2).load.isSome = true ∧ t.badRead none 0 0 = [] ∧ (((loading false .load).enterLoad 0 2).cfg 0 2).load.isSome = true := by decide

/-! ### RunsComplete -/

/-- Configuration 2 of function 0 with a run over one cluster whose core is done. -/
def doneState (u : Run) : State :=
  { ready := true, cl := [(0, { core := [(0, { seq := .halted, done := true, flags := 1 })] })],
    part := [(0, { cfg := [(2, { loaded := true, clusters := [0], run := some u })] })] }
theorem witness_done : let u : Run := { desc := some (3, 17) }
    let v : Run := { stream := some 5 }
    ((doneState u).cfg 0 2).run = some u ∧ ((doneState u).clu 0).finished = true ∧ (doneState u).fab.starts = []
    ∧ ((doneState v).cfg 0 2).run = some v := by decide
theorem witness_closed : let d : Desc := { descOf 5 [] with started := true, ending := some {}, writes := [7] }
    let p : Packet := { typ := .wr, dx := 160, dy := 0, vc := 2, id := 7, sx := 0, sy := 0, func := 0, pos := .delivered 0 }
    let s : State := { hst := { descs := [d] } }
    d.ending.isSome = true ∧ s.hst.descs.filter (fun d => d.ending.isSome) = [d] ∧ s.fab.flight = [] ∧ (s.cfg 0 2).run = none
    ∧ ((doneState {}).writesOut 0 [0]) = [] ∧ ({ doneState {} with fab := { flight := [p] } } : State).writesOut 0 [0] = [7] := by decide

/-! ### FoldNodesSumSegments -/

/-- Tree 7 of configuration 2 of function 1 at the origin: its root, with a local term and perhaps a child to the east. -/
def foldState (child0 : Nat) (epoch : BitVec 2) (segs : List SegBuf) : State :=
  let n : FoldNode := { site := 0, parent := 4, child0 := child0, child1 := 7, locl := true }
  let t : FoldTree := { tree := 7, int32 := true, bufs := 2, total := 256, root := 0, doneq := 3, rcore := 0, dest := 0, tag := 9, nodes := [n] }
  let p : Packet := { id := 1, dx := 0, dy := 0, sx := 0, sy := 0, typ := .fold, vc := 3, func := 1, epoch := epoch, arg := foldArg 7 false 0 0,
                      payload := [5], pos := .delivered 0 }
  { cl := [(0, { owner := some 1, queue := [(3, { cap := 4 })] })], part := [(1, { cfg := [(2, { loaded := true, trees := [t] })] })],
    fab := { flight := [p], segs := segs, foldCredits := [(0, 1, 7, 1, 0)] } }
theorem witness_fold : ((foldState 7 0 []).arrived 1 .fold).isSome = true ∧ ((foldState 7 0 []).treeOf 1 7).isSome = true
    ∧ (foldState 7 0 []).routing 0 = true ∧ (foldState 7 0 []).foldUsed 0 1 7 true = 0
    ∧ (match (foldState 7 0 []).arrived 1 .fold with | some (p, i) => (p.src, p.foldTree, p.func, i) == (0, 7, 1, 0) | none => false) = true := by decide
theorem witness_foldEpoch : ((foldState 7 1 []).arrived 1 .fold).isSome = true
    ∧ (match (foldState 7 1 []).treeOf 1 7 with | some (_, t) => t.epoch != 1 | none => false) = true := by decide
theorem witness_foldSum : let b : SegBuf := { site := 0, func := 1, tree := 7, round := false, seg := 0, loc := some [5] }
    let s := foldState 7 0 [b]
    let n : FoldNode := { site := 0, parent := 4, child0 := 7, child1 := 7, locl := true }
    (s.fab.segs.find? (fun y => y.isFor 0 1 7 false 0)) = some b ∧ b.complete n = true ∧ (s.clu 0).heldAt 0 256 = false
    ∧ ((s.clu 0).getQueue 3).room ≠ 0 ∧ s.foldUsed 0 1 7 false < 2 := by decide
theorem witness_foldElements : let b : SegBuf := { site := 0, func := 1, tree := 7, round := false, seg := 0, c0 := some (List.replicate 256 1, 0),
                                                   c1 := some (List.replicate 256 2, 0), loc := some (List.replicate 256 3) }
    b.c0 = some (List.replicate 256 1, 0) ∧ (List.replicate 256 (1 : W8)).length = 256 := ⟨rfl, List.length_replicate⟩
theorem witness_foldCredit : (foldState 7 0 []).fab.foldCredits.find? (fun e => e.1 == 0 && e.2.1 == 1 && e.2.2.1 == 7
    && !(foldState 7 0 []).creditHeld e.2.2.2.2 e.1) = some (0, 1, 7, 1, 0) := by decide
theorem witness_foldNoInput : (match (foldState 7 0 []).treeOf 1 7, (foldState 7 0 []).packet 1 with
    | some (_, t), some p => t.node 1 == none && p.typ == .fold && ((t.node 0).bind (fun n => n.input 5)) == none
    | _, _ => false) = true := by decide

/-! ### TimetableEntriesSendAndForward -/

/-- Stream 3 of configuration 2 of function 1, from the origin to the cluster to its east, with an entry at each, and a run. -/
def ttState (put : Bool) (toks : List Token) (flight : List Packet) (out : Nat) : State :=
  let t : TTStream := { stream := 3, put := put, sq := 4, src := 0, dst := 1, wbase := 0, wsize := 0, budget := 100 }
  let e (i n o start : Nat) : TTEntry := { site := i, stream := 3, flits := 9, start := start, stride := 10, count := 5, inp := n, out := o, key := cfgKey 1 2 }
  let q : Queue := { cap := 8, cons := 0xA0, rx := 1, credits := 8, toks := toks }
  let r : Queue := { cap := 8, prod := 0xA0 }
  let up : Link := { state := .up }
  { cl := [(0, { owner := some 1, cfg := some 2, queue := [(4, q)] }), (1, { owner := some 1, cfg := some 2, lx := 1, queue := [(0, r)] })],
    part := [(1, { cfg := [(2, { loaded := true, clusters := [0, 1], streams := [t], ttlen := 100, run := some {} })] })],
    fab := { flight := flight, entries := [e 0 4 1 0, e 1 3 out 3],
             link := [(linkKey 0 .east, up), (linkKey 1 .west, up), (linkKey 1 .east, up), (linkKey 2 .west, up)] } }
theorem witness_inject : let s := ttState false [{ data := 7, epoch := 0 }] [] 4
    (s.entriesAt 0).length = 1 ∧ (s.entriesAt 0).all (fun e => s.entryOpen e && s.entryLink e && e.leads.isSome
      && (s.streamOf e.key e.stream).isSome && (match s.streamOf e.key 3 with | some t => (s.ttTokens e t 1).isSome | none => false)) = true
    ∧ s.clocked 0 = true ∧ (s.clu 0).resetting = false ∧ ((ttState true [] [] 4).clu 0).ttPacket 3 = none := by decide
/-- A packet of the stream that left the origin at cycle 0 and is in the next router. -/
def ttPacket1 : Packet :=
  { id := 1, dx := 1, dy := 0, sx := 0, sy := 0, typ := .ttData, vc := 1, func := 1, arg := 2 ^ 38 * 3, key := cfgKey 1 2, pos := .router 1 (some .west) }
theorem witness_forward : (ttState false [] [ttPacket1] 4).packet 1 = some ttPacket1
    ∧ (match (ttState false [] [ttPacket1] 4).ttEntry ttPacket1 1 (some .west) with | some (e, n) => e.leads == some (.delivered 1) && n == 0 | none => false) = true
    ∧ (match (ttState false [] [ttPacket1] 1).ttEntry ttPacket1 1 (some .west) with | some (e, n) => e.leads == some (.wire 2 .west (some .west)) && n == 0 | none => false) = true := by
  decide
theorem witness_putWaits : let p : Packet := { ttPacket1 with pos := .source 0 none }
    let x : Xfer := { core := 0, req := {}, tt := [p] }
    ({ slot := [(2, some x)] } : Cluster).ttPacket 3 = some (2, p) ∧ p.flits ≤ 9 := by decide

/-! ### PageCommandsChangePages -/

/-- A state that function 0 reaches, with MEM_PAGE_ENTRY, page 0 and group 2. -/
def pageState (entry : W64) (page : Page) (group : Group) : State :=
  { ready := true, hst := { port := [(0, { perst := false })] }, regs := [(memBase + 0x100, 50)],
    mem := { entry := entry, page := if page = {} then [] else [(0, page)], group := [(2, group)] } }
theorem witness_alloc : let s := pageState 0x8000000000000000 {} {}
    s.reachesPF 0 = true ∧ s.mem.cmd.busy = false ∧ (s.page 0).v = false ∧ (entryPage s.mem.entry).isSome = true ∧ s.quotaLimit 0 = 50
    ∧ s.usedUnits 0 = 0 := by decide
theorem witness_allocSpace : (pageState 0x8000000000000000 {} {}).hasSpace 0 0 1 = true := by decide
theorem witness_pages : (pageState 0 { v := true } {}).sealedPage 0 = false ∧ (pageState 0 { v := true } {}).setCheck = 0
    ∧ ((pageState 0 {} { state := .openG, pages := 1 }).group 2).state ≠ .unused ∧ ((pageState 0 {} {}).tgroup 2).step = none
    ∧ (pageState 0 {} {}).freeCheck ≠ 0 ∧ (pageState 0 {} {}).setCheck ≠ 0 ∧ (pageState 0 { v := true } {}).allocCheck ≠ 0 := by decide
theorem witness_setMove : let s := pageState 0x2000004000000000 { v := true } {}
    s.setCheck = 0 ∧ bitOf s.mem.entry.toNat 61 = true ∧ bits s.mem.entry.toNat 40 38 = 1 ∧ (s.page 0).spread = 0 ∧ s.moveBarred (s.page 0) = false
    ∧ (let u := pageState 0x2000004000000000 { v := true, moving := some (1, 0) } {}
      u.setCheck = 0 ∧ (u.page 0).moving.isSome = true)
    ∧ (let u := pageState 0x2000004000000000 { v := true, stuck := [7] } {}
      let v : State := { u with mem := { u.mem with bad := [7] } }
      v.setCheck = 0 ∧ v.moveBarred (v.page 0) = true) ∧ ((pageState 0 {} {}).group 3).state = .unused := by decide

/-! ### MemoryTendsItself -/

theorem witness_scrub : let s := pageState 0 { v := true } {}
    (s.page 0).v = true ∧ s.stackOf 0 = 0 ∧ s.mem.bad.contains 0 = false ∧ s.mem.soft = [] ∧ (s.page 1).v = false := by decide
theorem witness_scrubBad : let s := pageState 0 { v := true } {}
    let t : State := { s with mem := { s.mem with bad := [5], soft := [6] } }
    5 ∈ t.mem.bad ∧ 6 ∈ t.mem.soft ∧ 6 ∉ t.mem.bad ∧ t.stackOf (64 * 5) = 0 := by decide
theorem witness_move : let s := pageState 0 { v := true, moving := some (1, 0), chunk := 511 } {}
    (s.page 0).moving = some (1, 0) ∧ (s.page 0).chunk = 511 ∧ (({ mem := {} } : State).reg (memBase + 8)).getLsbD 31 = true := by decide
theorem witness_moveBad : let s := pageState 0 { v := true, moving := some (1, 0) } {}
    s.badRead none 0 4096 = [] ∧ ({ s with mem := { s.mem with bad := [3] } } : State).badRead none 0 4096 = [3] := by decide
theorem witness_migWindow : let s : State := { ready := true, now := 1000 * 100, mem := { winSeen := true } }
    s.mem.winStart + 1000 * max 4 (bits (s.reg (memBase + 8)).toNat 23 16) ≤ s.now ∧ (s.reg (memBase + 8)).getLsbD 31 = true := by decide
theorem witness_migrate : let s := pageState 0 { v := true } {}
    let t : State := { s with regs := (memBase + 0x108, 66) :: s.regs }
    t.migBudget 0 = 2 ∧ (s.page 0).owner = 0 ∧ s.migBudget 0 = 64 := by decide
theorem witness_lift : let x : Stream := { last := 5, ahead := 6, down := false, dist := 4, lastHit := 0 }
    let p := pageState 0 { v := true } {}
    let s : State := { p with mem := { p.mem with ctl := [(0, { stream := [(2, some x)] })] } }
    (s.ctl 0).getStream 2 = some x ∧ x.next = some 7 ∧ (s.lineAddr 0 7).isSome = true ∧ (s.ctl 0).cached 7 = false ∧ s.mem.bad = []
    ∧ ({ set := [(setOf 7, [{ line := 7, key := 7, dirty := false, lift := none }])] } : Ctl).cached 7 = true := by decide

/-! ### RegistersHoldWhatIsWritten -/

/-- A state that function 0 reaches. -/
def hostState : State := { ready := true, hst := { port := [(0, { perst := false })] } }
theorem witness_registers : hostState.reaches 0 = true ∧ hostState.reachesPF 0 = true ∧ hostState.mayWrite 0 0x1000 = true ∧
    plainMask (fabBase + 0x20) = some 0x00000FFF ∧ isCounter (fabBase + 0x1C) = false ∧ isCounter (fabBase + 0x30) = true
    ∧ (hostState.pairWords (fabBase + 0x30)).isSome = true ∧ (hostState.pairWords 0x10).isSome = true ∧ hostState.pairWords (fabBase + 0x20) = none
    ∧ hostState.pairWords 0x14 = none ∧ hostState.pairWords (fabBase + 0x1C) = none
    ∧ plainReg (fabBase + 0x20) = true ∧ hostState.sees 1 (fabBase + 0x20) = false ∧ hostState.sees 0 0x14 = true := by decide

/-! ### BarAccessesReachWhatTheirFunctionMay -/

/-- `hostState` with page 0 of function 0 and a bad line. -/
def barMem (bad : List Nat) : State := { hostState with mem := { page := [(0, { v := true })], bad := bad } }
theorem witness_bar4 : (barMem []).reaches 0 = true ∧ (barMem []).barSize 0 4 = 4398046511104 ∧ (pagesOf 8 8).all ((barMem []).bar4Page 0) = true
    ∧ (barMem []).badRead none 8 8 = [] ∧ ((barMem [0]).badRead none 8 8).filter (fun l => (barMem [0]).bar4Page 0 (l / 32768)) = [0]
    ∧ splitPages 8 [1, 2] = [(8, [1, 2])] ∧ (barMem []).sealedPage 0 = false ∧ hostState.bar4Page 0 0 = false := by decide
theorem witness_bad : hostState.barSize 0 0 = 67108864 ∧ hostState.barSize 0 2 = 8388608 ∧ hostState.barSize 0 2 < 8388608 + 8 := by decide

/-! ### RingRangesNeverOverlap -/

theorem witness_ranges : hostState.writesEntry 0 5 = true ∧ hostState.ringsApart := by
  refine ⟨by decide, fun f _ => ?_⟩
  rw [show hostState.fent f = {} from rfl]
  refine ⟨by decide, fun _ => by decide, fun g _ _ => ?_⟩
  rw [show hostState.fent g = {} from rfl]; decide

/-! ### RingWindowAndDoorbells -/

/-- Ring 3 of function 0 in a kind, selected, with RING_DATA for a context of a kind code and LOG2SZ 4. -/
def windowState (kind : RingKind) (code : W8) : State :=
  let d : List W8 := (List.replicate 64 0).set 28 4 |>.set 29 code
  let h : HostIf := { func := [(0, { count := 8 })], ring := if kind = .disabled then [] else [(3, { kind := kind, logsz := 4 })],
                      port := [(0, { perst := false })], win := [(0, { sel := 3, data := d })] }
  { ready := true, hst := h }
theorem witness_window : (windowState .disabled 1).selRing 0 = some (3, 0) ∧ (windowState .disabled 1).ctxBad 3 = false
    ∧ dataKind ((windowState .disabled 1).rwin 0).data = some .work ∧ (windowState .disabled 1).enableBad 0 ((windowState .disabled 1).rwin 0).data .work = false
    ∧ (windowState .disabled 1).enableBad 0 ((windowState .disabled 1).rwin 0).data .event = false ∧ hostState.selRing 0 = none
    ∧ (windowState .work 1).reaches 0 = true ∧ dataKind ((windowState .work 0).rwin 0).data = some .disabled
    ∧ liveChange ((windowState .work 0).rwin 0).data .work ((windowState .work 0).ring 3) = true ∧ dataKind ((windowState .work 9).rwin 0).data = none := by decide
theorem witness_live : liveChange ((windowState .work 1).rwin 0).data .work ((windowState .work 1).ring 3) = true
    ∧ liveChange ((windowState .work 2).rwin 0).data .pool ((windowState .work 2).ring 3) = false
    ∧ (windowState .disabled 1).enableBad 0 (((windowState .disabled 1).rwin 0).data.set 28 3) .work = true := by decide
theorem witness_doorbell : (windowState .work 1).doorbellBad 0 3 0x100000002 = false ∧ (windowState .work 1).doorbellBad 0 3 0x11 = true
    ∧ (windowState .work 1).barSize 0 2 = 8388608 ∧ (windowState .work 1).inRange 0 3 = true ∧ (windowState .work 1).inRange 0 8 = false := by decide

/-! ### DescriptorsAreTakenInOrder -/

/-- A ring of a kind with one descriptor to take, in host or device memory. -/
def takeState (dloc : Bool) (bad : List Nat) : State :=
  let h : HostIf := { func := [(0, { count := 8 })], ring := [(3, { kind := .work, logsz := 4, tail := 1, dloc := dloc })] }
  { ready := true, hst := h, mem := { page := if bad = [9] then [] else [(0, { v := true })], bad := bad } }
theorem witness_take : (takeState false []).ringOwner 3 = some 0 ∧ (takeState false []).resetting 0 = false ∧ (takeState false []).ctxBad 3 = false
    ∧ (takeState true []).owns 0 0 64 = true ∧ (takeState true []).badRead none 0 64 = [] := by decide
theorem witness_takeTurn : (takeState false []).myTurn 0 3 = true ∧ (takeState true []).myTurn 0 3 = true ∧ (takeState false []).ready = true
    ∧ (let s := takeState true []
       let u := (s.serve 0 3).useCtx 3
       u.owns 0 0 64 = true ∧ u.badRead none 0 64 = []) ∧ (let s := takeState true [0]
       let u := (s.serve 0 3).useCtx 3
       u.badRead none 0 64 = [0]) ∧ (let s := takeState true [9]
       let u := (s.serve 0 3).useCtx 3
       u.owns 0 0 64 = false) := by decide
theorem witness_takeCtx (h : Config.contextLine 3 = 7) : ({ takeState false [] with mem := { bad := [7] } } : State).ctxBad 3 = true := by
  unfold State.ctxBad; rw [h]; decide
theorem witness_takeBad : (takeState true [9]).owns 0 0 64 = false ∧ (takeState true [0]).badRead none 0 64 = [0] := by decide

/-! ### ResetsMarkTheirFunctions -/

/-- A state that functions 0 and 3 of port 0 reach, with a partition of function 3. -/
def vfState (p : Part) : State :=
  { ready := true, hst := { port := [(0, { perst := false, vfEnable := true, numVfs := 5 })] }, part := if p = {} then [] else [(3, p)] }
theorem witness_resets : (vfState {}).reachesPF 0 = true ∧ portOf 0 = portOf 3 ∧ ((vfState {}).prt 3).cmd.busy = false ∧ (vfState {}).reaches 3 = true
    ∧ (vfState {}).resetting 3 = false ∧ ((vfState {}).port 0).vfEnable = true ∧ (hostState.port 0).vfEnable = false := by decide

/-! ### PartitionsGainLoseAndMoveClusters -/

/-- Partition 3 with an empty rectangle at the origin, and a cluster there. -/
def rectState (owner : Option Nat) (rect : W32) : State :=
  { vfState { rect := rect } with cl := [(0, { owner := owner })], site := [(0, .enabled)] }
theorem witness_assign : (rectState none 0).assignBad 3 = false ∧ (rectState (some 4) 0).assignBad 3 = true ∧ (rectState (some 3) 0).releaseBad 3 = false
    ∧ (rectState none 0x01000000).releaseBad 3 = true ∧ ((rectState none 0).prt 3).cmd.busy = false := by decide
theorem witness_phases : let r : ResetRun := { since := 0, flushed := true }
    let s : State := { part := [(3, { reset := some r })], now := 10000 }
    (s.prt 3).reset = some r ∧ s.fab.credits = [] ∧ Tab.get 0 s.fab.inflight 3 = 0 := by decide
/-- A REMAP of configuration 2 with a record of one move at address 0, for a configuration that the state has not loaded at site 0. -/
def remapState (version : W8) : State :=
  let d := descOf 11 (leBytes 8 0 ++ leBytes 4 32 ++ leBytes 2 2)
  let s := stateOf d
  { s with mem := { page := [(0, { v := true })], bytes := [(0, version), (2, 1)] },
           part := [(0, { quiesced := true, cfg := [(2, { loaded := true })] })] }
theorem witness_remap : let d := descOf 11 (leBytes 8 0 ++ leBytes 4 32 ++ leBytes 2 2)
    let s := remapState 1
    let b := s.devRead none 0 32
    startsNow s d 11 = true ∧ s.remapDescBad d = false ∧ s.remapWaits 0 2 = false ∧ s.badRead none 0 32 = [] ∧ recordBad b = false
    ∧ s.remapBad 0 2 [moveOf b 0] = true ∧ (List.range (rd b 2 2)).map (moveOf b) = [moveOf b 0] := by decide
/-- The same with site 0 loaded by a section of no core, and a record that moves it to site 1. -/
def remapGood : State :=
  let s := remapState 1
  let x : Section := { site := 0, bytes := List.replicate 2720 0 }
  { s with mem := { s.mem with bytes := [(0, 1), (2, 1), (18, 1), (24, 64)] },
           part := [(0, { quiesced := true, cfg := [(2, { loaded := true, clusters := [0], sections := [x] })] })] }
theorem witness_remapMove : remapGood.remapBad 0 2 [moveOf (remapGood.devRead none 0 32) 0] = false
    ∧ (moveOf (remapGood.devRead none 0 32) 0).new = 1 ∧ remapGood.remapLines [moveOf (remapGood.devRead none 0 32) 0] = []
    ∧ recordBad ((remapState 2).devRead none 0 32) = true
    ∧ (let s := { remapGood with mem := { remapGood.mem with bad := [0] } }
      s.badRead none 0 32 = [0]) := by decide +kernel
theorem witness_remapSection : let s := { remapGood with mem := { remapGood.mem with bad := [1] } }
    (s.remapLines [moveOf (s.devRead none 0 32) 0]).eraseDups ≠ [] ∧ s.badRead none 0 32 = []
    ∧ s.sectionOwned 0 (moveOf (s.devRead none 0 32) 0).addr = true := by decide +kernel
theorem witness_remapEnd : let d : Desc := { descOf 11 (leBytes 8 0 ++ leBytes 4 32 ++ leBytes 2 2) with started := true }
    worksNow (stateOf d) d 11 = true ∧ (stateOf d).fab.recomputing = false := by decide

/-! ### PartitionResetsTouchTheirOwnFunctionAlone -/

theorem witness_resetAlone : let r : ResetRun := { since := 0, flushed := true }
    let s : State := { part := [(3, { reset := some r })] }
    (match exec (.resetClearDone 3) s with | .next _ => true | _ => false) = true ∧ 0 ∉ s.clustersOf 3 := by decide

/-! ### MediaPortsAreConfiguredAndKeepTime -/

/-- `hostState` with media port 2. -/
def portState (m : MPort) : State := { hostState with media := { port := [(2, m)] }, now := 20000000 }
def annOf : Announce :=
  { domain := 127, v6 := false, prio1 := 1, clockClass := 6, accuracy := 0, variance := 0, prio2 := 1, identity := 9, steps := 0, logInterval := 3 }
theorem witness_mediaPort : (portState {}).reachesPF 0 = true ∧ (portState {}).media.lock = false ∧ (portState {}).modeRefused 2 1 = false
    ∧ (portState {}).modeRefused 2 3 = true ∧ bits (0x40000000 : W32).toNat 31 30 = 1 ∧ bits (0x40000000 : W32).toNat 29 28 = 0
    ∧ ((portState {}).mport 2).mode ≠ .media ∧ ((portState { mode := .media }).mport 2).mode = .media ∧ (portState { mode := .media }).modeRefused 2 1 = false
    ∧ ((portState { mode := .media, speed := 0 }).mport 2).speed = 0 := by decide
theorem witness_ctxWrite : let x : Ctx := { raw := 0x80 :: List.replicate 127 0 }
    let y : Ctx := { raw := List.replicate 128 0 }
    x.valid = true ∧ y.valid = false ∧ (portState {}).ctxRefused 0 x = true ∧ ((portState {}).ctx 0).valid = false
    ∧ (({ hostState with media := { ctx := [(0, x)] } } : State).ctx 0).valid = true := by decide
/-- A stream context that R350 accepts: port 2, 2 by 1 pixels, 60 frames a second, its buffers in page 0. -/
def goodRaw : List W8 := [0x80, 0, 2, 0, 2, 0, 96, 0] ++ List.replicate 18 0 ++ leBytes 2 2 ++ leBytes 2 1 ++ leBytes 2 64 ++ leBytes 4 60
  ++ leBytes 4 1 ++ leBytes 8 0 ++ leBytes 4 64 ++ List.replicate 76 0
def goodCtx : State := { portState { mode := .media } with mem := { page := [(0, { v := true })] } }
theorem witness_ctxGood : goodRaw.length = 128 ∧ ({ raw := goodRaw } : Ctx).valid = true ∧ goodCtx.ctxRefused 0 { raw := goodRaw } = false := by
  decide +kernel
theorem witness_ptp : let m : MPort := { mode := .media, link := .up, ptpEn := true, state := .locked, master := some annOf }
    let t : MPort := { mode := .media, link := .up, ptpEn := true, state := .locking, step := true, master := some annOf }
    (portState m).ptpRuns 2 = true ∧ ((portState m).mport 2).master.isSome = true ∧ ((portState t).mport 2).step = true
    ∧ annOf.domain.toNat = m.domain ∧ annOf.v6 = m.ptpV6 := by decide
theorem witness_holdmax : let m : MPort := { state := .holdover }
    m.lost + 1000000 * min 3600 (max 1 m.holdmax) ≤ (portState m).now ∧ m.master = none := by decide
theorem witness_annTimeout : let m : MPort := { mode := .media, ptpEn := true, master := some annOf, masters := [{ ann := annOf, heard := 0 }] }
    m.announceLate 20000000 = true := by decide

/-! ### FrameSlotsRunAndReport -/

/-- A port whose time base is at `base`, a context bound with a result buffer of 64 bytes, and its configuration. -/
def slotState (b : Binding) (bad : List Nat) : State :=
  let x : Ctx := { raw := goodRaw.take 112 ++ leBytes 4 64 ++ List.replicate 12 0, bound := some b }
  let m : Media := { port := [(2, { mode := .media, link := .up, state := .locked })], ctx := [(5, x)] }
  { goodCtx with media := m, part := [(0, { cfg := [(2, { loaded := true, frame := true })] })], mem := { page := [(0, { v := true })], bad := bad } }
def binding (waiting : List Nat) (anc : List AncWait) : Binding :=
  { func := 0, cfgid := 2, latency := 0, fring := 0, args := [], ring := 0, next := 3, waiting := waiting, anc := anc }
def packet1 (port : W16) : MediaFrame :=
  { bytes := 100, v6 := false, dst := [0, 0, 0, 0], dport := port, vlan := none, pt := 96, seq := 5, ts := 0, marker := true, segs := [] }
theorem witness_packet : ((slotState (binding [] []) []).ctxFor 2 (packet1 9)) = none ∧ ((slotState (binding [] []) []).ctxFor 2 (packet1 0)).isSome = true
    ∧ ((slotState (binding [] []) []).mport 2).tagOk none = true := by decide +kernel
theorem witness_frame : let s := { slotState (binding [] []) [] with now := 0 }
    ((s.ctx 5).frameOf (s.ptpTime (s.ctx 5).tport) 0).isSome = true ∧ (s.ctx 5).past 0 = false ∧ (s.ctx 5).held 0 = false := by decide +kernel
theorem witness_frameLate : let s := { slotState (binding [] []) [] with now := 0 }
    let t : State := { s with media := { s.media with ctx := [(5, { s.ctx 5 with decided := some 0 })] } }
    (t.ctx 5).past 0 = true ∧ ((slotState (binding [4] []) []).ctx 5).held 0 = true ∧ ((slotState (binding [] []) []).ctx 5).red = false
    ∧ (s.ctx 5).frameOf 0 77 = none ∧ (s.ctx 5).segBad { line := 9, second := false, pixel := 0, bytes := [] } = true
    ∧ ((slotState (binding [] []) []).mport 2).tagOk (some 3) = false := by decide +kernel
theorem witness_slot : let s := slotState (binding [] []) []
    (s.ctx 5).bound = some (binding [] []) ∧ (s.ctx 5).slotAt 3 ≤ s.ptpTime (s.ctx 5).tport ∧ s.dropReason (s.ctx 5) (binding [] []) 3 = some .incomplete
    := by decide +kernel
/-- The same with frame 3 received whole: its one packet came after the marker of frame 2. -/
def fullState (b : Binding) : State :=
  let s := slotState b []
  { s with media := { s.media with ctx := [(5, { s.ctx 5 with recv := [(3, { seqs := [8], marker := some 8 })], lastSeq := [(2, 7)] })] } }
theorem witness_slotWaits : (fullState (binding [] [])).dropReason ((fullState (binding [] [])).ctx 5) (binding [] []) 3 = none
    ∧ (fullState (binding [1, 2] [])).dropReason ((fullState (binding [1, 2] [])).ctx 5) (binding [1, 2] []) 3 = some .overrun := by decide +kernel
theorem witness_slotStart : let s := slotState (binding [3] []) []
    s.mayStart (binding [3] []) = true ∧ s.owns 0 ((s.ctx 5).field 120 8) 64 = true := by decide +kernel
theorem witness_arrive : let u : Run := { stream := some 5 }
    let s : State := { fab := { starts := [0] }, cl := [(0, { owner := some 1, cfg := some 2 })], part := [(1, { cfg := [(2, { run := some u })] })] }
    0 ∈ s.fab.starts ∧ s.runOf 0 = some (1, u) := by decide
theorem witness_anc : let a : AncWait := { frame := 3, done := 0, report := {} }
    let s := slotState (binding [] [a]) []
    (s.ctx 5).field 60 4 = 0 ∧ (s.ctx 5).field 112 4 = 64 ∧ s.owns 0 ((s.ctx 5).resultBuf 3) 64 = true ∧ s.badRead none ((s.ctx 5).resultBuf 3) 64 = []
    ∧ (s.ancOf (s.ctx 5) 3).isSome = true ∧ (slotState (binding [] [a]) [3]).badRead none ((s.ctx 5).resultBuf 3) 64 = [3] := by decide +kernel
theorem witness_ancBad : let a : AncWait := { frame := 3, done := 0, report := {} }
    let t := slotState (binding [] [a]) []
    let s : State := { t with mem := { t.mem with bytes := [(192, 9), (198, 200)] } }
    s.ancOf (s.ctx 5) 3 = none := by decide +kernel

/-! ### TowPortsExchangeFrames -/

/-- Engine 0 with Tow ports 0 and 1, port 0 in a state and holding messages. -/
def towState (st : TowState) (rx : List TowMsg) : State :=
  let a : TPort := { state := st, rx := rx, linkSent := true, linkSeen := true }
  let b : TPort := { state := .up, peer := [2048, 2048, 512, 512] }
  { hostState with media := { port := [(0, { mode := .tow }), (1, { mode := .tow })] }, now := 100,
                   tow := { port := [(0, a), (1, b)], route := [(5, 0x800003E1)] } }
def towHead (ver : W8) : TowHead :=
  { etype := 0x88B5, ver := ver, seq := 0, ack := 0, nak := false, credReq0 := 0, credReq1 := 0, credAns0 := 0, credAns1 := 0 }
def towMsg (dst : Fin 16) (msg : W8) (hops : Fin 16) (arg : W64) : TowMsg :=
  { msg := msg, srcEng := 3, dstEng := dst, vgroup := 2, lane := false, hops := hops, step := 7, arg := arg, payload := [] }
theorem witness_tow : (towState .up []).towTakes 0 = true ∧ (towHead 1).etype = (towState .up []).tow.etype ∧ (towHead 2).ver ≠ 1
    ∧ ((towState .up []).tport 0).state = .up ∧ (towHead 1).seq = ((towState .up []).tport 0).rxSeq
    ∧ ((towState .training []).tport 0).state = .training ∧ ((towState .up []).tport 0).heard + 4 ≤ (towState .up []).now := by decide
theorem witness_forwardTow : let m := towMsg 5 1 9 0
    let s := towState .up [m]
    s.towTransit 0 = some m ∧ (s.towPort 5).isSome = true ∧ m.hops ≠ 0 ∧ (towMsg 5 1 0 0).hops = 0 ∧
    (match s.towPort 5 with | some o => (s.tport o).canSend (msgThrough m (s.tport 0) (s.tport o)) | none => false) = true := by decide

/-! ### ContributionsReachTheirHomes -/

/-- Group 2 of function 0 with NELEM 64, its one block homed in an engine, step 7 open in engine 0 alone; record 1 has arrived. -/
def trainState (home : Nat) (step : Option TStep) (gs : GroupState) (rx : List TowMsg) (buf : AccBuf) : State :=
  let b : Block := { homeEng := home, homeStk := 0, pelem := 0, pscale := 0, optst := 0, acc := 0x100000 }
  let rec_ := leBytes 4 0 ++ [1, 0, 0, 0] ++ leBytes 8 5 ++ leBytes 4 5
  let p : Packet := { id := 1, dx := 0, dy := 0xA0, sx := 0, sy := 0, typ := .racc, vc := 3, func := 0, tag := 2, arg := 2 ^ 40 * 2 + 2 ^ 39,
                      payload := rec_, pos := .delivered 0 }
  let q : Packet := { p with id := 2, typ := .raccAck }
  let x : Xfer := { core := 0, req := parseReq (leBytes 32 5), issue := 1, lastAnswer := 0 }
  let g : TGroup := { nelem := 64, loaded := true, blocks := [b], ended := 6, step := step, acc := [(1, buf)] }
  let v : Group := { state := gs }
  let pg : Page := { v := true }
  let t : Tow := { port := [(0, { state := .up, rx := rx })], group := [(2, g)], fwd := [{ mtag := 9, group := 2, step := 7, port := some 0, sent := 0, packet := p }] }
  { hostState with now := 300, tow := t, cl := [(0, { slot := [(2, some x)] })], fab := { flight := [p, q] },
                   mem := { page := [(0, pg), (1, pg)], group := [(2, v)] } }
def openStep : TStep := { step := 7, scale := 0, engines := 1, deadline := 250 }
theorem witness_racc : let s := trainState 0 (some openStep) .sealed [] {}
    (s.arrived 1 .racc).isSome = true ∧ (s.arrived 2 .raccAck).isSome = true ∧ s.resetting 0 = false ∧ (s.tgroup 2).loaded = true
    ∧ ((s.tgroup 2).step.map TStep.step) = some 7 ∧ ((s.tgroup 2).block 0).isSome = true ∧ ((s.arrived 2 .raccAck).all (fun q => ((s.clu 0).slotOf q.1).isSome)) = true
    ∧ s.tow.engineId = 0 := by decide
theorem witness_home : let s := trainState 0 (some openStep) .sealed [] {}
    let r := leBytes 4 0 ++ [1, 0, 0, 0] ++ leBytes 8 5 ++ leBytes 4 5
    (s.recordBlock 2 r).isSome = true ∧ serialBefore 32 (s.tgroup 2).ended.toNat 7 = true ∧ (Tab.get {} (s.tgroup 2).acc 1).step = none
    ∧ serialBefore 32 (s.tgroup 2).ended.toNat 5 = false
    ∧ (Tab.get {} ((trainState 0 none .sealed [] { step := some 9 }).tgroup 2).acc 1).step = some 9 := by decide
theorem witness_towRacc : let r := leBytes 4 0 ++ [1, 0, 0, 0] ++ leBytes 8 5 ++ leBytes 4 5
    let m : TowMsg := { towMsg 0 1 9 0 with payload := r }
    let a := towMsg 0 2 9 (BitVec.ofNat 64 (9 * 2 ^ 32))
    let b := towMsg 0 2 9 0
    let s := trainState 0 none .sealed [m, a] {}
    s.ready = true ∧ s.towFirst 0 (fun m => m.dstEng == s.eng && m.msg == 1) = some m ∧ s.towStale m = false
    ∧ s.towFirst 0 (fun m => m.dstEng == s.eng && m.msg == 2) = some a ∧ s.towStale b = false
    ∧ (s.tow.fwd.find? (fun f => f.mtag.toNat == a.arg.toNat / 2 ^ 32)).isSome = true
    ∧ (s.tow.fwd.find? (fun f => f.mtag.toNat == b.arg.toNat / 2 ^ 32)) = none ∧ s.ackTimeout ≤ 300 := by decide
theorem witness_vg : let s := trainState 0 none .openG [] {}
    s.reachesPF 0 = true ∧ (s.group 2).state = .openG ∧ s.owns (s.group 2).owner 0 48 = true ∧ s.badRead none 0 48 = []
    ∧ blockCount (s.tgroup 2).nelem.toNat = 1 ∧ s.blockBad 2 (s.devRead none 0 48) = true := by decide
theorem witness_vgGood : let s := (trainState 0 none .openG [] {}).modTgroup 2 (fun x => { x with nelem := 0 })
    s.reachesPF 0 = true ∧ (s.group 2).state = .openG ∧ s.owns (s.group 2).owner 0 0 = true ∧ s.badRead none 0 0 = []
    ∧ blockCount (s.tgroup 2).nelem.toNat = 0 := by decide
theorem witness_vgBad : let s0 := trainState 0 none .openG [] {}
    let s := { s0 with mem := { s0.mem with bad := [0] } }
    s.owns (s.group 2).owner 0 48 = true ∧ s.badRead none 0 48 ≠ []
    ∧ (s.modTgroup 2 (fun x => { x with table := BitVec.ofNat 64 (2 ^ 40) })).owns 0 (2 ^ 40) 48 = false := by decide
theorem witness_raccAckLate : let s := { trainState 0 none .sealed [] {} with cl := [] }
    (s.arrived 2 .raccAck).all (fun q => ((s.clu 0).slotOf q.1).isNone) = true ∧ (s.arrived 2 .raccAck).isSome = true := by decide

/-! ### TrainingStepsOpenCommitAndEnd -/

/-- `trainState` with a descriptor in progress, and pages of group 2 in place of the others. -/
def stepState (step : Option TStep) (rx : List TowMsg) (d : Desc) : State :=
  let s := trainState 0 step .sealed rx {}
  let h : HostIf := { (stateOf d).hst with port := s.hst.port }
  let m : MemSys := { s.mem with page := [(0, { v := true, vers := true, vgroup := 2 }), (1, { v := true })] }
  { s with hst := h, mem := m }
def beginDesc7 : Desc := descOf 7 ([2, 0, 0, 0] ++ leBytes 4 7 ++ [0, 0, 1, 0])
def commitDesc8 : Desc := descOf 8 ([2, 0, 0, 0] ++ leBytes 4 7 ++ leBytes 8 0)
def fullStep : TStep := { openStep with dones := [{ eng := 0, scale := 0, engines := 1, lost := false }],
                                        commit := some { desc := (3, 17), opt := 0, pfmt := 0, hyper := [] } }
theorem witness_begin : startsNow (stepState none [] beginDesc7) beginDesc7 7 = true ∧ (stepState none [] beginDesc7).beginBad beginDesc7 = false
    ∧ (stepState (some openStep) [] beginDesc7).beginBad beginDesc7 = true := by decide
theorem witness_commit : startsNow (stepState (some openStep) [] commitDesc8) commitDesc8 8 = true
    ∧ (stepState (some openStep) [] commitDesc8).commitFieldsBad commitDesc8 = false
    ∧ (stepState (some openStep) [] commitDesc8).commitBad commitDesc8 = false ∧ (stepState none [] commitDesc8).commitBad commitDesc8 = true
    ∧ ((stepState (some openStep) [] commitDesc8).tgroup 2).uncommitted = none
    ∧ (stepState (some openStep) [] commitDesc8).badRead none (commitDesc8.field 16 8) 64 = [] := by decide
theorem witness_commitBad : (stepState (some openStep) [] commitDesc8).commitFieldsBad (descOf 8 ([2, 2, 0, 0] ++ leBytes 4 7 ++ leBytes 8 0)) = true
    ∧ (let s := (stepState none [] commitDesc8).modTgroup 2 (fun x => { x with uncommitted := some 7 })
       s.commitFieldsBad commitDesc8 = false ∧ (s.tgroup 2).uncommitted = some commitDesc8.stepNo) := by decide
theorem witness_commitUE : let s0 := stepState (some openStep) [] commitDesc8
    let s := { s0 with mem := { s0.mem with bad := [0] } }
    s.badRead none (commitDesc8.field 16 8) 64 ≠ [] ∧ s.commitFieldsBad commitDesc8 = false := by decide
theorem witness_pack : ({ nelem := 33 } : TGroup).packBad 9 = true ∧ ({ nelem := 64 } : TGroup).packBad 9 = false := by decide
theorem witness_stepDeadline : ((stepState (some openStep) [] commitDesc8).tgroup 2).step = some openStep
    ∧ openStep.deadline ≤ (stepState (some openStep) [] commitDesc8).now := by decide
theorem witness_update : let s := stepState (some fullStep) [] commitDesc8
    (∀ e ∈ enginesOf fullStep.engines, ∃ d ∈ fullStep.dones, d.eng = e.val) ∧ s.homed (s.tgroup 2) ≠ [] ∧ s.viewHeld 2 = false
    ∧ fullStep.updated = false ∧ fullStep.sentVerdict = false := by decide
theorem witness_messages : let s := stepState (some openStep) [towMsg 0 3 9 0, towMsg 0 4 9 0, towMsg 0 5 9 0, towMsg 0 6 9 0] commitDesc8
    (∀ m ∈ (s.tport 0).rx, s.towStale m = false) ∧ (s.tport 0).rx.length = 4 ∧ s.paramAddr (towMsg 0 3 9 0) = some 0
    ∧ s.versionedIn 2 0 0 = true ∧ s.ready = true
    ∧ (∀ m ∈ (s.tport 0).rx, s.towFirst 0 (fun x => x.dstEng == s.eng && x.msg == m.msg) = some m) := by decide

/-! ### IntegrityChecksGiveVerdicts -/

/-- Cluster 0 of function 1 with a capture, a pairing and a checker at site 5. -/
def integState (first : Option (List W8)) (pair : Option PairInfo) : State :=
  let k : Capture := { core := 2, opcode := 0x10, operands := [], orig := [1, 2], first := first }
  { hostState with now := 500, cl := [(0, { owner := some 1, checker := some 5, caps := [k], pair := pair })] }
theorem witness_crumb : ((integState none none).clu 0).caps.find? (fun k => k.first.isNone) =
      some { core := 2, opcode := 0x10, operands := [], orig := [1, 2] } ∧ ((integState none none).clu 0).checker.isSome = true
    ∧ ((integState (some [9]) none).clu 0).caps.find? (fun k => k.first.isSome) =
      some { core := 2, opcode := 0x10, operands := [], orig := [1, 2], first := some [9] } ∧ 0 + 100 ≤ (integState (some [9]) none).now := by decide
def pairPacket (payload : List W8) : Packet :=
  { id := 1, dx := 0, dy := 0, sx := 0, sy := 0, typ := .token, vc := 2, func := 1, payload := payload, pos := .delivered 0 }
theorem witness_pair : let p := pairPacket [1]
    let k : PairInfo := { other := 1, primary := true, held := [(p, 0)], twin := [p] }
    let j : PairInfo := { other := 1, primary := true, held := [(p, 0)], twin := [pairPacket [2]] }
    let n : PairInfo := { other := 1, primary := true, held := [(p, 0)] }
    ((integState none (some k)).clu 0).pair = some k ∧ k.twin.find? (fun q => p.counterpart q) = some p ∧ p.same p = true
    ∧ j.twin.find? (fun q => p.counterpart q) = some (pairPacket [2]) ∧ p.same (pairPacket [2]) = false
    ∧ 0 + (integState none (some n)).pairWait 1 ≤ 500 ∧ ((integState none (some n)).clu 0).owner = some 1 := by decide
theorem witness_quarantine : let s := { integState none none with site := [(0, .enabled)] }
    let q := { integState none none with site := [(0, .quarantined)] }
    s.reachesPF 0 = true ∧ s.quarSite = some 0 ∧ s.enabled 0 = true ∧ q.siteState 0 = .quarantined ∧ (q.clu 0).cfg = none ∧ q.enabled 0 = false
    ∧ s.reaches 0 = true ∧ bits (0x80000000#32).toNat 15 8 = 0 ∧ bitOf (0x80000000#32).toNat 31 = true

    ∧ { integState none none with regs := [(integBase + 0x30, 0xA0)] }.quarSite = none := by decide
theorem witness_rateLow : let s : State := { integState none none with now := 1000000, integ := { checked := [(3, 1000)], compared := [(3, 3)] } }
    let u : State := { s with integ := { checked := [(3, 1024)], compared := [(3, 4)] } }
    s.ready = true ∧ Tab.get 0 s.integ.since 3 + 1000000 ≤ s.now ∧ 256 * Tab.get 0 s.integ.compared 3 < Tab.get 0 s.integ.checked 3
    ∧ Tab.get 0 u.integ.checked 3 ≤ 256 * Tab.get 0 u.integ.compared 3 := by decide

/-! ### LinksRetrainAndRegionsReturn -/

/-- The link from the router at the origin to the east, and an engine whose field 0 is in a state. -/
def link0 : LinkEnd := { site := { x := 0, y := 0 }, port := .east }
def linkState (x : LinkState) (strikes : List Nat) (r : Region) (slow : Option Bool) : State :=
  let k : Link := { state := x, strikes := strikes }
  { hostState with now := 50, pwr := { step := .released }, fab := { link := [(linkEndKey link0, k)] },
                   fld := [(0, { region := r, slowNext := slow, regionOnAt := some 20 })] }
theorem witness_retrain : (linkState .dead [] .on none).ready = true ∧ (linkState .dead [] .on none).retrains link0 = true := by decide
theorem witness_retrainEnd : let s := linkState .training [] .on none
    (∃ k ∈ linkEnds link0, (s.link k).state = .training) ∧ (∀ k ∈ (linkEnds link0).map (fun k => fieldOf (k / 4)), (s.field k).slowNext = none)
    ∧ ((linkEnds link0).map (fun k => (recent (s.link k).strikes 3600000000 s.now).length)).foldl max 0 < s.strikeMax := by decide
theorem witness_retrainOff : let s := linkState .training [] .on none
    let x : LaneEx := { net := 0, fld := 0, link := 0, dir := 0, group := 8, lane := 3 }
    let u := s.spare 0 .east [x] true
    s.physLink 0 .east = some 0 ∧ u.fab.lanes ≠ s.fab.lanes ∧ u.linkGone 0 .east true = false ∧ (s.spare 0 .east [] true).linkGone 0 .east true = false
    ∧ (s.spare 0 .east [] false).linkGone 0 .east false = true
    ∧ linkWorn [x, { x with lane := 4 }, { x with lane := 5 }] 0 0 = true ∧ linkWorn [x, { x with lane := 4 }] 0 0 = false := by decide
theorem witness_region : let s := linkState .up [] .dark none
    s.reachesPF 0 = true ∧ s.pwr.mbox.busy = false ∧ s.pwr.arg = 0 ∧ (s.field 0).region = .dark ∧ (s.field 0).regionOnAt = some 20
    ∧ ((linkState .up [] .on none).field 0).region = .on ∧ ((linkState .up [] .starting none).field 0).region = .starting := by decide
theorem witness_fabricBin : let s := { linkState .up [] .on none with pwr := { step := .released, arg := 1 } }
    s.argClean = true ∧ s.isDark 0 = false ∧ (s.field 0).slow ≠ bitOf s.pwr.arg.toNat 0 ∧ s.reachesPF 0 = true
    ∧ { s with fab := { dark := 1 } }.isDark 0 = true := by decide
theorem witness_fabricDone : (((linkState .up [] .on (some true)).field 0).slowNext) = some true := by decide
theorem witness_fabricCmd : let t : State := { pwr := { mbox := { field := 0x01000000, busy := true } } }
    t.pwr.mbox.busy = true ∧ t.pwr.mbox.field.toNat / 2 ^ 24 = 1 ∧ t.argField = 0 := by decide
theorem witness_fieldBack : let s := linkState .up [] .starting none
    s.fab.fieldCmd.busy = false ∧ (s.field 0).region = .starting := by decide

/-! ### PowerUpAndBringUpProceedInOrder -/

def atStep (x : PowerStep) (cool : Bool) : State :=
  { pwr := { step := x, wantOn := true, feedA := { present := true } }, thm := { waitCool := cool } }
def found (ok : Bool) : PhaseFinding := { ok := ok, serviceMapGood := true, failedSites := [], failedLanes := [], failedLinks := [], portsDown := [], excluded := [] }
theorem witness_power : (atStep .off false).pwr.step = .off ∧ (atStep .off false).pwr.feedA.present = true ∧ (atStep .started false).pwr.wantOn = true
    ∧ (atStep .standby false).sec.recovery = false ∧ (atStep .converters false).pwr.step = .converters ∧ (atStep .crust false).pwr.step = .crust
    ∧ (atStep .regions false).thm.waitCool = false ∧ (atStep .regions true).coolEnough = false := by decide
theorem witness_boot : let s := atStep .released false
    s.pwr.step = .released ∧ s.ready = false ∧ s.boot.active = false ∧ s.boot.phase = 0 ∧ (found true).ok = true ∧ (found false).ok = false
    ∧ { s with boot := { active := true, phase := 9 } }.boot.active = true
    ∧ { s with boot := { mapDue := some 3 } }.boot.mapDue = some 3 := by decide

/-! ### FeedsClocksAndTheCapAct -/

/-- A powered engine with both feeds, whose field 0 has a clock and a gate. -/
def powerState (step : PowerStep) (cclk : Nat) (capAt : Bool) (ending gate : Bool) : State :=
  let a : FeedSt := { present := true, dv := 3800, presentAt := 0, lastTrip := some 5 }
  { now := 20000000, pwr := { feedA := a, feedB := { a with tripped := true }, step := step, capActive := capAt, capEnding := ending,
                              capLow := some 7 },
    fld := [(0, { cclk := cclk, gateCap := gate })] }
theorem witness_clock : let s := powerState .released 20 true false false
    s.isDark 0 = false ∧ (s.field 0).holdC = false ∧ (s.field 0).cclk < min (s.field 0).bin (min (s.field 0).spCeil (s.field 0).capCeil)
    ∧ 28 < ((powerState .released 30 true false false).field 0).cclk ∧ ((powerState .released 28 true false false).field 0).cclk = 28
    ∧ s.held (.compute 0) = false ∧ { s with fld := [(0, { holdC := true })] }.held (.compute 0) = true := by decide
theorem witness_feeds : let s := powerState .released 28 true false false
    (s.feed .a).present = true ∧ s.logicOn = true ∧ (s.feed (otherFeed .a)).present = true ∧ ({} : State).pwr.feedA.present = false
    ∧ ({} : State).logicOn = false ∧ { s with pwr := { feedA := s.pwr.feedA, step := .standby } }.logicOn = false
    ∧ ({ s with pwr := { feedA := s.pwr.feedA, step := .standby } }.feed (otherFeed .a)).present = false := by decide
theorem witness_cap : let s := powerState .released 28 true false false
    s.pwr.capActive = true ∧ s.pwr.linkLost = false ∧ s.pwr.capAt + 10000 ≤ s.now ∧ s.pwr.capLow = some 7 ∧ 7 + 20000 ≤ s.now
    ∧ s.pwr.gateAt + 1000 ≤ s.now ∧ (List.range 64).reverse.find? (fun k => !(s.field k).gateCap && !s.isDark k) = some 63
    ∧ s.pwr.feedB.presentAt + 10000000 ≤ s.now
    ∧ (List.range 64).find? (fun k => ((powerState .released 28 true true true).field k).gateCap) = some 0 := by decide
theorem witness_capEnding : let s := powerState .released 28 true true true
    let u := powerState .released 28 true true false
    s.pwr.capActive = true ∧ s.pwr.capEnding = true ∧ s.capGates = true ∧ u.capGates = false ∧ u.capFree = true
    ∧ (let v := { u with fld := [(3, { capCeil := 14 })] }; (v.field 3).capCeil < min (v.field 3).bin (v.field 3).spCeil)
    ∧ (s.feed .b).tripped = true := by decide
theorem witness_inlet : let s := powerState .released 28 true false false
    (s.feed .b).lastTrip = some 5 ∧ (s.feed .b).tripped = true ∧ (s.feed .b).latched = false ∧ 5 + 10000000 ≤ s.now ∧ s.now < 5 + 3600000000
    ∧ { s with pwr := { step := .released } }.pwr.feedA.present = false := by decide

/-! ### SensorsCoolingAndAgeingAct -/

/-- A released engine whose field 0 has the sensor readings and state given. -/
def heatState (temp : Int) (x : FieldSt) : State :=
  let v : Sense := { temp := temp, hot := 1600 ≤ temp }
  { hostState with now := 20000000, pwr := { step := .released }, fld := [(0, { x with sensor := (List.range 16).map (fun i => (i, v)) })] }
theorem witness_sensor : let s := heatState 1600 {}
    let r : List (Sensor × Option Int) := [(.field 0 3, some 1600)]
    (s.each r (fun t e => t.sampleOne e.1 e.2)).trips s (r.map Prod.fst) = some (.field 0 3)
    ∧ (s.each [(.field 0 3, some 900)] (fun t e => t.sampleOne e.1 e.2)).trips s [.field 0 3] = none := by decide
theorem witness_judge : let x := (heatState 1500 {}).field 0
    let y := (heatState 1300 { gateSp := true, openSince := some 7 }).field 0
    12 ≤ x.working.length ∧ 16 * 92 ≤ x.hottest ∧ y.hottest < 16 * 88 ∧ y.openSince = some 7 ∧ y.gateSp = true
    ∧ ({ x with sensor := [(0, { failed := true }), (1, { failed := true }), (2, { failed := true }), (3, { failed := true }),
                           (4, { failed := true })] } : FieldSt).working.length = 11 := by decide
theorem witness_snowplough : let s := heatState 1320 {}
    let y := (heatState 1200 { coolSince := some 7, spCeil := 20 }).field 0
    s.pwr.step = .released ∧ s.isDark 0 = false ∧ 16 * 82 ≤ (s.field 0).hottest ∧ 14 < (s.field 0).spCeil ∧ (s.field 0).lowered + 1000 ≤ s.now
    ∧ y.hottest < 16 * 79 ∧ y.raised + 10000 ≤ s.now ∧ y.held350 = false := by decide
theorem witness_framed : let s := heatState 900 {}
    let c : Ctx := { bound := some { func := 1, cfgid := 4, latency := 0, fring := 0, args := [], ring := 0, next := 0 } }
    let k : Cfg := { clusters := [0] }
    let u := { s with media := { ctx := [(2, c)] }, part := [(1, { cfg := [(4, k)] })] }
    s.framed 0 = [] ∧ u.framed 0 = [2] := by decide
theorem witness_coolant : let s := { heatState 900 {} with thm := { outSince := some 7 } }
    let t := { heatState 900 {} with thm := { inSince := some 7, alarm := true } }
    s.thm.alarm = false ∧ s.thm.outSince.getD s.now + 5000000 ≤ s.now ∧ t.thm.inSince.getD s.now + 5000000 ≤ t.now
    ∧ (heatState 900 {}).now < (heatState 900 {}).thm.outSince.getD (heatState 900 {}).now + 5000000 := by decide
theorem witness_ageing : let s := heatState 900 {}
    s.isDark (fieldOf 0) = false ∧ s.siteState 0 ≠ .retired ∧ s.ready = true ∧ s.thm.drift = false
    ∧ { s with thm := { drift := true } }.thm.drift = true ∧ { s with mgmt := { hours := 9999 } }.rewaxInterval ≤ 9999
    ∧ s.reachesPF 0 = true ∧ s.pwr.mbox.busy = false ∧ s.pwr.arg = 0 ∧ { s with pwr := { arg := 1 } }.pwr.arg ≠ 0
    ∧ s.logicOn = true ∧ s.mgmt.hours ≤ 5 := by decide
theorem witness_plan : let p : Plan := { volt := 720, bin := 26, slow := true }
    let s := heatState 900 { plan := some p }
    (s.field 0).atPlan = false ∧ (s.field 0).volt < p.volt ∧ ((heatState 900 { plan := some p, applying := true }).field 0).applying = true
    ∧ ((heatState 900 { plan := some p, volt := 730, bin := 26, cclk := 26 }).field 0).bin = p.bin := by decide

/-! ### ImagesAreCheckedStagedAndRecovered -/

/-- An engine that serves recovery with an I3C address. -/
def recoveryState : State := { hostState with sec := { recovery := true, rpfOk := false }, mgmt := { i3c := some 9 } }
theorem witness_stage : let s := { hostState with mem := { page := [(0, { v := true })] }, sec := { len := 64 } }
    s.reachesPF 0 = true ∧ s.sec.mbox.busy = false ∧ s.owns 0 s.sec.addr.toNat s.sec.len.toNat = true ∧ s.badRead none 0 64 = []
    ∧ { s with mem := {} }.owns 0 0 64 = false ∧ ({ s with mem := { s.mem with bad := [0] } }.badRead none 0 64) = [0] := by decide
theorem witness_recovery : recoveryState.sec.recovery = true ∧ recoveryState.mgmt.i3c.isSome = true ∧ recoveryState.sec.rpfOk = false := by decide
theorem witness_cause : let img : List W8 := leBytes 4 0x57465753 ++ [1, 4] ++ List.replicate 506 0
    imgField img 0 4 = 0x57465753 ∧ bodyLimit (imgType img) ≠ 0 ∧ 3 < imgSlot img ∧ imgBodyLen img = 0 ∧ zeroAt img 6 2 = true
    ∧ imgField (List.replicate 512 0) 0 4 ≠ 0x57465753 := by decide

/-! ### TheLseAnswersAndSigns -/

/-- An engine that answers MCTP, with a connection in a state and something being signed. -/
def spdmState (k : SpdmConn) (x : Option Signing) : State :=
  { hostState with pwr := { step := .released }, mgmt := { i3c := some 9 }, sec := { conn := [(2, k)], signing := x } }
theorem witness_spdm : (spdmState {} none).spdmUp .mctp = true ∧ ((spdmState {} none).spdm (connKey .mctp)).version = false
    ∧ ((spdmState { version := true } none).spdm 2).version = true ∧ ((spdmState { caps := true } none).spdm 2).caps = true
    ∧ ((spdmState { algs := true } none).spdm 2).algs = true ∧ ((spdmState { held := some .invalidRequest } none).spdm 2).held = some .invalidRequest := by
  decide
theorem witness_signing : (spdmState {} (some .serviceMap)).sec.signing = some .serviceMap ∧ (spdmState {} none).sec.signing = none
    ∧ ({ waiting := [.answer 2 (.report []) true, .marginRecord] } : Sec).waiting.find? Signing.isRecord = some .marginRecord := by decide

/-! ### ManagementCommandsAct -/

def mgmtState (step : PowerStep) (busy : Option Nat) : State :=
  { hostState with pwr := { step := step }, mgmt := { busy := busy, redfishUp := true, link := true } }
theorem witness_mgmt : let s := mgmtState .released none
    s.mgmtHears .redfishOperator = true ∧ s.mgmt.busy = none ∧ s.logicOn = true ∧ (mgmtState .started none).logicOn = false
    ∧ (mgmtState .started none).mgmtHears .redfishOperator = true ∧ (mgmtState .released (some 1)).mgmtHears .redfishOperator = true ∧ s.lmcUp = true
    ∧ (mgmtState .standby none).mgmtHears .mctp = false
    ∧ { mgmtState .standby none with sec := { recovery := true } }.sec.recovery = true ∧ (8 : W8).toNat ≤ 16 ∧ 16 < (17 : W8).toNat := by decide

/-! ### StepTakesTheFrontCommand -/

theorem witness_front : step { State.reset with pending := [.powerUpStep] } = .next State.reset := rfl

/-! ### IdleEngineTicks -/

theorem witness_tick : State.reset.pending = [] ∧ State.reset.pwr.step = .off ∧ (atStep .standby false).pwr.step ≠ .off
    ∧ (atStep .standby false).pending = [] := by decide

/-! ### StepKeepsTheInvariant -/

theorem witness_inv : State.reset.slotLeft ∧ State.reset.reserveOk ∧ step State.reset = .next State.reset :=
  ⟨by show (0 : BitVec 4) ≠ 0xF; decide, by show 8 ≤ 16; decide, rfl⟩

/-! ### RevocationsAndLocksStay -/

theorem witness_locks : let s : State := { sec := { revoked := 1 }, media := { lock := true }, tow := { lock := true } }
    step s = .next s ∧ s.sec.revoked.getLsbD 0 = true := ⟨rfl, by decide⟩

/-! ### EveryStepTakesOneCommandAndKeepsTheUptime -/

theorem witness_one : step { State.reset with pending := [.powerUpStep, .rewax] } = .next { State.reset with pending := [.rewax] } := rfl

/-! ### CountersStickUntilCleared -/

theorem witness_counter : ({ count := 5 } : Counter).count ≤ 2 ^ 48 - 1 ∧ 5 + 3 ≤ 2 ^ 48 - 1 ∧ ({ count := 2 ^ 48 - 1 } : Counter).count = 2 ^ 48 - 1
    ∧ 2 ^ 48 - 1 < ({ count := 2 ^ 48 - 1 } : Counter).count + 1 ∧ (0x40000000#32).getLsbD 30 = true ∧ (0x80000000#32).getLsbD 30 = false := by decide

/-! ### BytesReadWhatWasWritten -/

theorem witness_mem : Mem.wf ([(3, 7), (9, 1)] : Mem) := by decide

end Sys2Proof.Machine
end

/-! ## Descriptors that wait

The rules of a descriptor's start (R312, R314, R315): what `beginDesc` does once its checks hold, and what the marks of a start change. -/
namespace Sys2Proof.Machine

/-! ### The descriptor that a command names -/

/-- The descriptor found for a ring and an index has that ring and that index. -/
theorem desc_key {s : State} {r : Nat} {i : W32} {d : Desc} (h : s.desc r i = some d) : d.ring = r ∧ d.index = i := by
  simpa using List.find?_some h

/-- Two changes of a descriptor are one, where the first keeps the name under which the second finds it. -/
theorem modDesc_modDesc (s : State) (r : Nat) (i : W32) (g h : Desc → Desc) (hg : ∀ x, (g x).ring = x.ring ∧ (g x).index = x.index) :
    (s.modDesc r i g).modDesc r i h = s.modDesc r i (fun x => h (g x)) := by
  simp only [State.modDesc, State.modDescs, List.map_map]
  congr 3
  funext x
  by_cases hx : x.ring = r ∧ x.index = i
  · simp [hx, hg x]
  · have hne : (x.ring == r && x.index == i) = false := by simpa using hx
    simp only [Function.comp_apply, hne, Bool.false_eq_true, if_false]

section named
variable {s : State} {r : DescRef} {d : Desc}

/-- Starting the found descriptor is starting the one that the command names. -/
theorem started_eq_begun (h : s.desc r.ring.val r.index = some d) (t : State) :
    t.started d = t.begun r := by
  obtain ⟨hring, hindex⟩ := desc_key h
  simp only [State.started, State.begun, hring, hindex]

/-- Ending the found descriptor finishes the one that the command names with a bare status. -/
theorem endDesc_eq_finishDesc (h : s.desc r.ring.val r.index = some d) (t : State) (st : W16) :
    t.endDesc d st = t.finishDesc r.ring.val r.index { status := st } := by
  obtain ⟨hring, hindex⟩ := desc_key h
  simp only [State.endDesc, rep, hring, hindex]

/-- A start that captures a view is one change of the descriptor (R286). -/
theorem started_view (h : s.desc r.ring.val r.index = some d) (t : State) (l : List Nat) :
    (t.started d).modDesc d.ring d.index (fun x => { x with view := l })
      = t.modDesc r.ring.val r.index (fun x => { x with started := true, since := t.now, view := l }) := by
  obtain ⟨hring, hindex⟩ := desc_key h
  rw [State.started, hring, hindex]
  exact modDesc_modDesc _ _ _ _ _ (fun _ => ⟨rfl, rfl⟩)

/-- A start leaves the stream contexts as they are. -/
@[simp] theorem ctx_begun (s : State) (r : DescRef) (x : Nat) : (s.begun r).ctx x = s.ctx x := rfl

/-! ### Starting -/

/-- A descriptor that starts is the one that its command names. -/
theorem State.starts.desc_eq {n : Nat} (h : s.starts r d n) : s.desc r.ring.val r.index = some d := h.1

/-- A descriptor that starts has not started before. -/
theorem State.starts.not_started {n : Nat} (h : s.starts r d n) : d.started = false := h.2.2.1

/-- A descriptor that may start and passes its opcode's check takes its effect (R312, R314, R315). -/
theorem beginDesc_of_starts {n : Nat} (h : s.starts r d n) {op : Nat → Bool} {bad : Desc → Bool}
    (hop : op n = true) (hbad : bad d = false) (eff : Desc → State → State) : s.beginDesc r op bad eff = eff d s := by
  obtain ⟨hdesc, hready, hnew, hopcode, hmay, hhead⟩ := h
  simp [State.beginDesc, hdesc, hready, hnew, hopcode, hmay, hhead, hop, hbad]

/-- COPY starts with its view, unless a failing host side ends it (R286, R331). -/
theorem execCopy_of_starts (h : s.starts r d 3) (hok : s.copyBad d = false) (fail : Option HostFail) :
    execCopy r fail s = .next (if fail.isSome && (d.srcHost || d.dstHost) then s.finishDesc r.ring.val r.index { status := 0x0102 }
      else s.modDesc r.ring.val r.index (fun x => { x with started := true, since := s.now, view := s.viewNow })) := by
  rw [execCopy, beginDesc_of_starts h rfl hok, started_view h.desc_eq, endDesc_eq_finishDesc h.desc_eq, stIllegal]

/-- DIGEST starts with its view (R286, R410). -/
theorem execDigest_of_starts (h : s.starts r d 9) (hok : s.digestBad d = false) :
    execDigest r s = .next (s.modDesc r.ring.val r.index (fun x => { x with started := true, since := s.now, view := s.viewNow })) := by
  rw [execDigest, beginDesc_of_starts h rfl hok, started_view h.desc_eq]

/-- QUIESCE with QMODE 0 starts and stops its function's starts (R316). -/
theorem execQuiesce_of_starts (h : s.starts r d 10) (hmode : d.field 8 1 = 0) :
    execQuiesce r s = .next ((s.begun r).modPart d.func (fun p => { p with quiesced := true })) := by
  simp [execQuiesce, h.desc_eq, hmode, beginDesc_of_starts h, started_eq_begun h.desc_eq]

/-- EVENT_WAIT starts to wait (R316). -/
theorem execEventWait_of_starts (h : s.starts r d 12) (hok : s.waitBad d = false) :
    execEventWait r s = .next (s.begun r) := by
  rw [execEventWait, beginDesc_of_starts h rfl hok, started_eq_begun h.desc_eq]

/-! ### CONFIG_LOAD and UNLOAD -/

/-- CONFIG_LOAD that nothing holds back begins its load (R315 to R317). -/
theorem execConfigLoad_of_starts (h : s.starts r d 4) (hl : d.lctl = 0) (hwait : s.loadWaits d = false)
    (hok : s.loadBad d = false) : execConfigLoad r s = .next (s.startLoad d) := by
  simp [execConfigLoad, h.desc_eq, hl, hwait, beginDesc_of_starts h, hok]

/-- An image without an uncorrectable line that passes its check begins the drain (R159, R163). -/
theorem startLoad_of_image {k : Checked} (h : s.desc r.ring.val r.index = some d)
    (hread : s.badRead none d.image d.imgLen = [])
    (hk : s.checkImage d.func d.loadCfg (imageOf (s.devRead none d.image d.imgLen)) = some k) :
    s.startLoad d = ((s.demand none d.image d.imgLen false none).begun r).modCfg d.func d.loadCfg (fun c => { c with
      load := some { loadFrom d (imageOf (s.devRead none d.image d.imgLen)) k s.now (s.pairsOn d.func) with
        oldEpoch := s.epochOf d.func d.loadCfg } }) := by
  simp only [State.startLoad, hread, hk, started_eq_begun h]

/-- An image that fails its check ends the CONFIG_LOAD (R6, R317). -/
theorem startLoad_of_badImage (h : s.desc r.ring.val r.index = some d)
    (hread : s.badRead none d.image d.imgLen = [])
    (hk : s.checkImage d.func d.loadCfg (imageOf (s.devRead none d.image d.imgLen)) = none) :
    s.startLoad d = (s.demand none d.image d.imgLen false none).finishDesc r.ring.val r.index { status := 0x0102 } := by
  simp only [State.startLoad, hread, hk, endDesc_eq_finishDesc h, stIllegal]

/-- An image with uncorrectable lines counts them and ends the CONFIG_LOAD (R262). -/
theorem startLoad_of_badRead {x : Nat} {l : List Nat} (h : s.desc r.ring.val r.index = some d)
    (hread : s.badRead none d.image d.imgLen = x :: l) :
    s.startLoad d = ((s.demand none d.image d.imgLen false none).memUEs 7 (x :: l)).finishDesc r.ring.val r.index { status := 0x0301 } := by
  simp only [State.startLoad, hread, endDesc_eq_finishDesc h, stMemUE]

/-- UNLOAD of a loaded configuration that nothing holds back begins its drain (R316, R317). -/
theorem execUnload_of_starts (h : s.starts r d 4) (hl : d.lctl = 1) (hwait : s.loadWaits d = false)
    (himage : d.image = 0) (hlen : d.imgLen = 0) (hcfg : d.loadCfg ≤ 255) (hloaded : (s.cfg d.func d.loadCfg).loaded = true) :
    execUnload r s = .next ((s.begun r).modCfg d.func d.loadCfg (fun c => { c with
      load := some { desc := (r.ring.val, r.index), unload := true, deadline := s.now + d.drain,
                     oldEpoch := s.epochOf d.func d.loadCfg } })) := by
  obtain ⟨hring, hindex⟩ := desc_key h.desc_eq
  have hbound : ¬ 255 < d.loadCfg := by omega
  simp [execUnload, h.desc_eq, hl, hwait, beginDesc_of_starts h, himage, hlen, hbound, hloaded, started_eq_begun h.desc_eq, hring, hindex]

/-! ### FRAME_UNBIND -/

/-- A change of a binding is a change of its context. -/
theorem modBound_of_bound {s : State} {x : Nat} {b : Binding} (h : (s.ctx x).bound = some b) (g : Binding → Binding) :
    s.modBound x g = s.modCtx x (fun y => { y with bound := some (g b) }) := by
  simp only [State.modBound, State.modCtx, h, Option.map_some]

/-- A binding with a run in progress or results that have not left stays (R357). -/
theorem unbindDone_of_busy {s : State} {x : Nat} {b : Binding} (h : (s.ctx x).bound = some b) (hbusy : b.running.isSome = true ∨ b.anc ≠ []) :
    s.unbindDone x = s := by
  unfold State.unbindDone
  rw [h]
  rcases hbusy with hrun | hanc
  · simp [Option.isNone_eq_false_iff.2 hrun]
  · simp [hanc]

/-- FRAME_UNBIND releases the waiting frames, and waits for the run in progress and its results (R357). -/
theorem execFrameUnbind_of_busy {b : Binding} (h : s.starts r d 6) (hbop : d.bop = 1)
    (hok : s.unbindBad d = false) (hb : (s.ctx d.stream).bound = some b) (hbusy : b.running.isSome = true ∨ b.anc ≠ []) :
    execFrameUnbind r s = .next ((s.begun r).modCtx d.stream (fun x =>
      { x with bound := some { b with waiting := [], unbind := some (r.ring.val, r.index) } })) := by
  obtain ⟨hring, hindex⟩ := desc_key h.desc_eq
  have hnew : d.started = false := h.not_started
  have hb' : ((s.begun r).ctx d.stream).bound = some b := by rw [ctx_begun, hb]
  rw [execFrameUnbind, h.desc_eq]
  simp only [hbop, hnew, ne_eq, not_true_eq_false, if_false, Bool.false_and, Bool.false_eq_true]
  rw [beginDesc_of_starts h rfl hok, started_eq_begun h.desc_eq, modBound_of_bound hb', hring, hindex,
    unbindDone_of_busy (b := { b with waiting := [], unbind := some (r.ring.val, r.index) }) (by simp) hbusy]

end named

/-- Settles O20: each start is the effect that `beginDesc` gives once the descriptor's checks hold. -/
theorem descriptorsThatWaitStart : Obligations.DescriptorsThatWaitStart := by
  unfold Obligations.DescriptorsThatWaitStart
  refine ⟨fun s r d h hok => ⟨execCopy_of_starts h hok none, fun w hhost => ?copyOfHost⟩, fun s r d => execDigest_of_starts,
    fun s r d => execQuiesce_of_starts, fun s r d => execEventWait_of_starts, ?load, ?loadOfBadLines, ?unload,
    fun s r d b => execFrameUnbind_of_busy⟩
  case copyOfHost =>
    have hside : (d.srcHost || d.dstHost) = true := by simpa using hhost
    exact (execCopy_of_starts h hok (some w)).trans (by simp [hside])
  case load =>
    rintro s r d m h hl hwait hok hread rfl
    have hstart : exec (.configLoad r) s = .next (s.startLoad d) := execConfigLoad_of_starts h hl hwait hok
    refine ⟨?_, fun hk => ?_⟩
    · rintro k l hk rfl
      exact ⟨by rw [hstart, startLoad_of_image h.desc_eq hread hk], rfl, rfl⟩
    · rw [hstart, startLoad_of_badImage h.desc_eq hread hk]
  case loadOfBadLines =>
    intro s r d x l h hl hwait hok hread
    have hstart : exec (.configLoad r) s = .next (s.startLoad d) := execConfigLoad_of_starts h hl hwait hok
    rw [hstart, startLoad_of_badRead h.desc_eq hread]
  case unload =>
    rintro s r d l h hl hwait himage hlen hcfg hloaded rfl
    exact execUnload_of_starts h hl hwait himage hlen hcfg hloaded

end Sys2Proof.Machine

/-! ## Registers of BAR0

What a write and a read of a register do by where the register lies (R4, R140, R299, R534, R536): one rule for each kind of register. -/
namespace Sys2Proof.Machine

/-! ### Writes -/

/-- A physical function may write every register (R299). -/
theorem mayWrite_of_isPF {f : Nat} (h : isPF f = true) (s : State) (o : Nat) : s.mayWrite f o = true := by
  simp [State.mayWrite, h]

/-- CLR of a counter's high word clears it whole (R140). -/
theorem Counter.write_clr (c : Counter) {v : W32} (h : v.getLsbD 30 = true) : c.write v = {} := by
  simp [Counter.write, bitOf, BitVec.testBit_toNat, h]

/-- OVF without CLR clears OVF alone (R140, R510). -/
theorem Counter.write_ovf (c : Counter) {v : W32} (hclr : v.getLsbD 30 = false) (h : v.getLsbD 31 = true) :
    c.write v = { c with ovf := false } := by
  simp only [Counter.write, bitOf, BitVec.testBit_toNat, hclr, h, Bool.false_eq_true, if_false, if_true]

/-- A write of the ring window goes to the RING block (R305). -/
theorem execRegisterWrite_ring {s : State} {f : Func} {o : Fin 67108864} (hf : s.reaches f.val = true) (ha : o.val % 4 = 0)
    (hlow : 0x200000 ≤ o.val) (hhigh : o.val < 0x400000) (v : W32) : execRegisterWrite f o v s = s.writeRing f (o.val - 0x200000) v := by
  have hhif : ¬ o.val < 0x200000 := by omega
  simp [execRegisterWrite, hf, ha, hhif, hlow, hhigh]

section pastRings
variable {s : State} {f : Func} {o : Fin 67108864} (hf : s.reaches f.val = true) (hw : s.mayWrite f.val o.val = true) (ha : o.val % 4 = 0)
  (hlow : 0x400000 ≤ o.val) (hsel : o.val ≠ integBase + 0x40)
include hf hw ha hlow hsel

/-- A write of the high word of a counter pair changes that counter (R140, R511). -/
theorem execRegisterWrite_counter (hc : isCounter (o.val - 4) = true) (v : W32) :
    execRegisterWrite f o v s = .next (s.setCtr (o.val - 4) ((s.ctr (o.val - 4)).write v)) := by
  have hhif : ¬ o.val < 0x200000 := by omega
  have hring : ¬ o.val < 0x400000 := by omega
  have hfour : 4 ≤ o.val := by omega
  simp [execRegisterWrite, hf, hw, ha, hsel, hhif, hring, hfour, hc]

/-- A write of a plain register sets its writable bits (R4). -/
theorem execRegisterWrite_plain (hc : isCounter (o.val - 4) = false) {m : W32} (hm : plainMask o.val = some m) (v : W32) :
    execRegisterWrite f o v s = .next (s.setReg o.val (v &&& m)) := by
  have hhif : ¬ o.val < 0x200000 := by omega
  have hring : ¬ o.val < 0x400000 := by omega
  simp [execRegisterWrite, hf, hw, ha, hsel, hhif, hring, hc, hm]

/-- A write of any other register goes to the block where it lies (R299). -/
theorem execRegisterWrite_block (hc : isCounter (o.val - 4) = false) (hm : plainMask o.val = none) (v : W32) :
    execRegisterWrite f o v s = s.writeBlock f o.val v := by
  have hhif : ¬ o.val < 0x200000 := by omega
  have hring : ¬ o.val < 0x400000 := by omega
  simp [execRegisterWrite, hf, hw, ha, hsel, hhif, hring, hc, hm]

end pastRings

/-! ### Command registers -/

/-- FAB_FIELD_CMD lies in no block that starts before it (R223). -/
theorem writeBlock_fieldCmd (s : State) (f : Func) (v : W32) : s.writeBlock f 0x800018 v = s.writeFieldCmd f v := by
  simp [State.writeBlock, fabBase]

/-- MEM_PAGE_CMD lies in the MEM block (R292). -/
theorem writeBlock_pageCmd (s : State) (f : Func) (v : W32) : s.writeBlock f 0xC00020 v = s.writePageCmd f v := by
  simp [State.writeBlock, State.writeMem, fabBase, memBase, mediaBase]

/-- PART_CMD of partition 5 lies in the PART block (R335). -/
theorem writeBlock_partCmd (s : State) (f : Func) (v : W32) : s.writeBlock f 0x405008 v = s.writePart f 0x405008 v := by
  simp [State.writeBlock]

/-! Each code of a command register runs its command (R217, R289, R305, R335). -/

section codes
variable (s : State) (f : Func) {v : W32}

theorem writeRing_read (h : v.toNat / 2 ^ 30 = 1) : s.writeRing f 8 v = execRingRead f s := by
  simp [-Nat.reducePow, State.writeRing, h]

theorem writeRing_write (h : v.toNat / 2 ^ 30 = 2) : s.writeRing f 8 v = execRingWrite f s := by
  simp [-Nat.reducePow, State.writeRing, h]

theorem writePart_reset (h : v.toNat / 2 ^ 30 = 1) : s.writePart f 0x405008 v = execPartitionReset f 5 s := by
  simp [-Nat.reducePow, State.writePart, entryOff, h]

theorem writePart_assign (h : v.toNat / 2 ^ 30 = 2) : s.writePart f 0x405008 v = execAssign f 5 s := by
  simp [-Nat.reducePow, State.writePart, entryOff, h]

theorem writePart_release (h : v.toNat / 2 ^ 30 = 3) : s.writePart f 0x405008 v = execRelease f 5 s := by
  simp [-Nat.reducePow, State.writePart, entryOff, h]

theorem writeFieldCmd_markOutOfService (h : v.toNat / 2 ^ 30 = 1) :
    s.writeFieldCmd f v = execMarkOutOfService f (Fin.ofNat 64 (v.toNat / 2 ^ 24 % 64)) s := by
  have hfields : 2 ^ 6 = 64 := rfl
  simp [-Nat.reducePow, State.writeFieldCmd, bits, h, hfields]

/-- The page commands start with GROUP as written (R292). -/
theorem writePageCmd_alloc (h : v.toNat / 2 ^ 28 = 1) :
    s.writePageCmd f v = execAllocPage f (s.modMem (fun m => { m with cmd := m.cmd.idle (v &&& 0x0FF00000) })) := by
  simp [-Nat.reducePow, State.writePageCmd, h]

theorem writePageCmd_free (h : v.toNat / 2 ^ 28 = 2) :
    s.writePageCmd f v = execFreePage f (s.modMem (fun m => { m with cmd := m.cmd.idle (v &&& 0x0FF00000) })) := by
  simp [-Nat.reducePow, State.writePageCmd, h]

end codes

section commands
variable {s : State} {f : Func} (h : s.reachesPF f.val = true)
include h

/-- A physical function's write of RING_CMD (R305). -/
theorem execRegisterWrite_ringCmd (v : W32) : execRegisterWrite f 0x200008 v s = s.writeRing f 8 v := by
  obtain ⟨-, hf⟩ := Bool.and_eq_true_iff.1 h
  have ho : ((0x200008 : Fin 67108864) : Nat) = 0x200008 := rfl
  rw [execRegisterWrite_ring hf (by decide) (by decide) (by decide), ho]

/-- A physical function's write of a register that is neither a counter nor plain goes to the block where it lies (R299). -/
theorem execRegisterWrite_blockPF {o : Fin 67108864} (ho : o.val % 4 = 0 ∧ 0x400000 ≤ o.val ∧ o.val ≠ integBase + 0x40)
    (hkind : isCounter (o.val - 4) = false ∧ plainMask o.val = none) (v : W32) : execRegisterWrite f o v s = s.writeBlock f o.val v := by
  obtain ⟨hpf, hf⟩ := Bool.and_eq_true_iff.1 h
  obtain ⟨ha, hlow, hsel⟩ := ho
  exact execRegisterWrite_block hf (mayWrite_of_isPF hpf s o.val) ha hlow hsel hkind.1 hkind.2 v

/-- A physical function's write of PART_CMD of partition 5 (R335). -/
theorem execRegisterWrite_partCmd (v : W32) : execRegisterWrite f 0x405008 v s = s.writePart f 0x405008 v :=
  (execRegisterWrite_blockPF h (by decide) (by decide) v).trans (writeBlock_partCmd s f v)

/-- A physical function's write of FAB_FIELD_CMD (R223). -/
theorem execRegisterWrite_fieldCmd (v : W32) : execRegisterWrite f 0x800018 v s = s.writeFieldCmd f v :=
  (execRegisterWrite_blockPF h (by decide) (by decide) v).trans (writeBlock_fieldCmd s f v)

/-- A physical function's write of MEM_PAGE_CMD (R289). -/
theorem execRegisterWrite_pageCmd (v : W32) : execRegisterWrite f 0xC00020 v s = s.writePageCmd f v :=
  (execRegisterWrite_blockPF h (by decide) (by decide) v).trans (writeBlock_pageCmd s f v)

end commands

/-! ### Reads -/

/-- A register that the function does not see reads as zero (R299). -/
theorem readReg_hidden {s : State} {f o : Nat} (h : s.sees f o = false) : s.readReg f o = 0 := by
  simp [State.readReg, h]

/-- The low word of a latched pair reads live (R534). -/
theorem readReg_low {s : State} {f o : Nat} {lo hi : W32} (h : s.sees f o = true) (hp : s.pairWords o = some (lo, hi)) :
    s.readReg f o = lo := by
  simp [State.readReg, h, hp]

/-- The high word of a latched pair reads from the function's latch, and live where it holds nothing (R534). -/
theorem readReg_high {s : State} {f o : Nat} {lo hi : W32} (h : s.sees f o = true) (ho : 4 ≤ o) (hp : s.pairWords o = none)
    (hq : s.pairWords (o - 4) = some (lo, hi)) : s.readReg f o = (Tab.get none s.latch (64 * (o - 4) + f)).getD hi := by
  simp [State.readReg, h, ho, hp, hq, latchKey]

/-- A plain register reads as what it holds (R4). -/
theorem readReg_plain {s : State} {f o : Nat} (h : s.sees f o = true) (hp : s.pairWords o = none) (hq : s.pairWords (o - 4) = none)
    (hplain : plainReg o = true) : s.readReg f o = s.reg o := by
  simp [State.readReg, h, hp, hq, hplain]

/-- A read outside INTEG_LIN_DATA returns one word (R415). -/
theorem readValue_word {s : State} {f o : Nat} (h : o < 0x1808000 ∨ 0x1810000 ≤ o) : s.readValue f o = (s.readReg f o).zeroExtend 64 := by
  have hout : ¬ (integBase + 0x8000 ≤ o ∧ o < integBase + 0x10000 ∧ o % 8 = 0) := by unfold integBase; omega
  exact if_neg hout

section counterRead
variable {s : State} {f : Func} {o : Fin 67108864} (hf : s.reaches f.val = true) (ha : o.val % 4 = 0)
include hf ha

/-- A read of the low word of a latched pair loads the function's latch (R534). -/
theorem execCounterLowRead_latches {lo hi : W32} (hp : s.pairWords o.val = some (lo, hi)) (h : s.sees f.val o.val = true) :
    execCounterLowRead f o s = .next ({ s with latch := Tab.put none s.latch (64 * o.val + f.val) (some hi) }.emit
      (.value f.val (s.readValue f.val o.val))) := by
  simp [execCounterLowRead, hf, ha, hp, h, latchKey]

/-- A read of any other register, or of one that the function does not see, loads no latch. -/
theorem execCounterLowRead_reads (h : s.pairWords o.val = none ∨ s.sees f.val o.val = false) :
    execCounterLowRead f o s = .next (s.emit (.value f.val (s.readValue f.val o.val))) := by
  rcases h with hp | hs
  · simp [execCounterLowRead, hf, ha, hp]
  · cases hp : s.pairWords o.val <;> simp [execCounterLowRead, hf, ha, hp, hs]

end counterRead

/-- Settles O30: a write and a read are what the rule of the register's kind gives. -/
theorem registersHoldWhatIsWritten : Obligations.RegistersHoldWhatIsWritten := by
  unfold Obligations.RegistersHoldWhatIsWritten
  refine ⟨?plain, ?counter, ?command, fun s f o hf ha => ⟨?latch, execCounterLowRead_reads hf ha⟩,
    fun s f o => ⟨readValue_word, readReg_hidden, fun _ _ => readReg_low, fun _ _ => readReg_high, readReg_plain⟩, ?clear⟩
  case plain =>
    intro s f o v m hf hw ha ho hsel hc hm
    have hlow : 0x400000 ≤ o.val := le_trans (by decide) ho
    exact ⟨execRegisterWrite_plain hf hw ha hlow hsel hc hm v, fun k => reg_setReg s o.val k (v &&& m)⟩
  case counter =>
    intro s f o v hf hw ha ho hsel hc
    have hlow : 0x400000 ≤ o.val := le_trans (by decide) ho
    have hwrite : exec (.registerWrite f o v) s = .next (s.setCtr (o.val - 4) ((s.ctr (o.val - 4)).write v)) :=
      execRegisterWrite_counter hf hw ha hlow hsel hc v
    exact ⟨fun hclr => by rw [hwrite, Counter.write_clr _ hclr], fun hclr hovf => by rw [hwrite, Counter.write_ovf _ hclr hovf]⟩
  case command =>
    intro s f v h
    have hring : exec (.registerWrite f 0x200008 v) s = s.writeRing f 8 v := execRegisterWrite_ringCmd h v
    have hpart : exec (.registerWrite f 0x405008 v) s = s.writePart f 0x405008 v := execRegisterWrite_partCmd h v
    have hfield : exec (.registerWrite f 0x800018 v) s = s.writeFieldCmd f v := execRegisterWrite_fieldCmd h v
    have hpage : exec (.registerWrite f 0xC00020 v) s = s.writePageCmd f v := execRegisterWrite_pageCmd h v
    rw [hring, hpart, hfield, hpage]
    refine ⟨writeRing_read s f, writeRing_write s f, writePart_reset s f, writePart_assign s f, writePart_release s f,
      writeFieldCmd_markOutOfService s f, ?_⟩
    rintro t rfl
    exact ⟨writePageCmd_alloc s f, writePageCmd_free s f⟩
  case latch =>
    rintro lo hi l hp hs rfl
    exact execCounterLowRead_latches hf ha hp hs
  case clear =>
    intro s f o hf hw hc
    show execCounterClear f o s = _
    simp [execCounterClear, hf, hw, hc]

end Sys2Proof.Machine

/-! ## What every step keeps of the key

The queue and the uptime (R23, R449, R505), and the revoked slots and the locks (R26, R365, R394, R484), read off the one inversion
lemma over all commands, `step_keyStep`. -/
namespace Sys2Proof.Machine

/-- A step is a tick of an idle engine, which changes the uptime at most, or takes the front command. -/
theorem key_of_step {s t : State} (h : step s = .next t) :
    (s.pending = [] ∧ ∃ n, (n = s.now ∨ n = s.now + 1) ∧ t.key = { s.key with now := n }) ∨
      KeyStep { s.key with pending := s.pending.tail } t.key := by
  cases hp : s.pending with
  | nil =>
    refine .inl ⟨rfl, ?_⟩
    rcases tick_key hp h with hk | hk
    · exact ⟨s.now, .inl rfl, hk⟩
    · exact ⟨s.now + 1, .inr rfl, hk⟩
  | cons c rest => exact .inr (step_keyStep hp h)

section keyStep
variable {k l : Key}

/-- No command touches the queue. -/
theorem KeyStep.pending_eq (h : KeyStep k l) : l.pending = k.pending := by cases h <;> rfl

/-- A command leaves the uptime, or the standby supply starts or ends and it is 0 (R449, R505). -/
theorem KeyStep.now_eq (h : KeyStep k l) : l.now = k.now ∨ l.now = 0 := by
  cases h with
  | lost => exact .inr rfl
  | started => exact .inr rfl
  | _ => exact .inl rfl

/-- No command gives back a revoked slot (R484). -/
theorem KeyStep.revoked_stays (h : KeyStep k l) {n : Nat} (hn : k.revoked.getLsbD n = true) : l.revoked.getLsbD n = true := by
  cases h with
  | revoke m hm hleft => simp [hn]
  | _ => exact hn

/-- The locks and the HIF_FUNC entries as a reset of the module leaves them (R26). -/
def Key.unlocked (k : Key) : Prop := k.mlock = false ∧ k.tlock = false ∧ k.func = []

/-- A command keeps the locks that are set, or resets the module (R26, R365, R394). -/
theorem KeyStep.locks_stay (h : KeyStep k l) :
    ((k.mlock = true → l.mlock = true) ∧ (k.tlock = true → l.tlock = true)) ∨ l.unlocked := by
  cases h with
  | cleared => exact .inr ⟨rfl, rfl, rfl⟩
  | lost => exact .inr ⟨rfl, rfl, rfl⟩
  | mlock => exact .inl ⟨fun _ => rfl, id⟩
  | tlock => exact .inl ⟨id, fun _ => rfl⟩
  | _ => exact .inl ⟨id, id⟩

end keyStep

/-- Without a HIF_FUNC entry in the table every function's entry is at its reset value (R301). -/
theorem fent_of_func_nil {s : State} (h : s.hst.func = []) (f : Nat) : s.fent f = {} := by
  rw [State.fent, h, Tab.get_nil]

/-- A step gives back no revoked slot (R484). -/
theorem step_revoked_stays {s t : State} (h : step s = .next t) {n : Nat} (hn : s.sec.revoked.getLsbD n = true) :
    t.sec.revoked.getLsbD n = true := by
  rw [key_revoked] at hn ⊢
  rcases key_of_step h with ⟨_, m, _, hk⟩ | hk
  · rw [hk]; exact hn
  · exact hk.revoked_stays hn

/-- A step keeps the locks that are set, or resets the module (R26, R365, R394). -/
theorem step_locks_stay {s t : State} (h : step s = .next t) :
    ((s.media.lock = true → t.media.lock = true) ∧ (s.tow.lock = true → t.tow.lock = true)) ∨ t.key.unlocked := by
  rcases key_of_step h with ⟨_, m, _, hk⟩ | hk
  · rw [key_mlock t, key_tlock t, hk]
    exact .inl ⟨id, id⟩
  · exact hk.locks_stay

/-- Settles O55: from the inversion lemma over all commands. -/
theorem revocationsAndLocksStay : Obligations.RevocationsAndLocksStay := by
  intro s t h
  refine ⟨fun n => step_revoked_stays h, ?_⟩
  rcases step_locks_stay h with ⟨hmedia, htow⟩ | ⟨hmedia, htow, hfunc⟩
  · exact ⟨fun hl => .inl (hmedia hl), fun hl => .inl (htow hl)⟩
  · have hreset : t.media.lock = false ∧ t.tow.lock = false ∧ ∀ f, t.fent f = {} := ⟨hmedia, htow, fent_of_func_nil hfunc⟩
    exact ⟨fun _ => .inr hreset, fun _ => .inr hreset⟩

/-- Settles O56: from the inversion lemma over all commands, and the tick of an idle engine. -/
theorem everyStepTakesOneCommandAndKeepsTheUptime : Obligations.EveryStepTakesOneCommandAndKeepsTheUptime := by
  intro s t h
  rw [key_pending t, key_now t]
  rcases key_of_step h with ⟨hidle, n, hn, hk⟩ | hk
  · rw [hk, hidle]
    exact ⟨hidle, hn.imp id (fun hrise => .inl ⟨rfl, hrise⟩)⟩
  · exact ⟨hk.pending_eq, hk.now_eq.imp id .inr⟩

end Sys2Proof.Machine

/-! ## Module resets

What `clearLogic`, and with it a module reset, leaves of the state (R26, R418, R423, R453, R460, R513, R515). -/
namespace Sys2Proof.Machine

/-- A table of the values of `g` at the keys below `n` reads as `g` there. -/
theorem Tab.get_map_range {α : Type} (d : α) (g : Nat → α) {n j : Nat} (h : j < n) :
    Tab.get d ((List.range n).map (fun k => (k, g k))) j = g j := by
  suffices hfrom : ∀ m a, a ≤ j → j < a + m → Tab.get d ((List.range' a m).map (fun k => (k, g k))) j = g j by
    rw [List.range_eq_range']
    exact hfrom n 0 (Nat.zero_le j) (by omega)
  intro m
  induction m with
  | zero => intro a ha hj; omega
  | succ m ih =>
    intro a ha hj
    simp only [List.range'_succ, List.map_cons, Tab.get]
    split
    · next heq => rw [heq]
    · exact ih (a + 1) (by omega) (by omega)

/-- What goes into a module reset with the pending map written and the answers to the host's connections dropped (R419, R498). -/
def State.settledMap (s : State) : State := (if s.boot.mapDue.isSome then s.writeMap else s).dropConns [0, 1]

section settledMap
variable (s : State)
@[simp] theorem settledMap_now : s.settledMap.now = s.now := by unfold State.settledMap; split <;> rfl
@[simp] theorem settledMap_hst : s.settledMap.hst = s.hst := by unfold State.settledMap; split <;> rfl
@[simp] theorem settledMap_fld : s.settledMap.fld = s.fld := by unfold State.settledMap; split <;> rfl
@[simp] theorem settledMap_mgmt : s.settledMap.mgmt = s.mgmt := by unfold State.settledMap; split <;> rfl
@[simp] theorem settledMap_bank : s.settledMap.sec.bank = s.sec.bank := by unfold State.settledMap; split <;> rfl
@[simp] theorem settledMap_counter : s.settledMap.sec.counter = s.sec.counter := by unfold State.settledMap; split <;> rfl
@[simp] theorem settledMap_revoked : s.settledMap.sec.revoked = s.sec.revoked := by unfold State.settledMap; split <;> rfl
end settledMap

section moduleReset
variable (s : State) (cause : Nat) (q : BitVec 4) (n : Nat) (w : Bool) (p : PowerStep)

/-- What of the standby side and of the flash a module reset keeps is what stood in it with the pending map written. -/
theorem moduleReset_keeps :
    (s.moduleReset cause q n w p).now = s.settledMap.now ∧ (s.moduleReset cause q n w p).hst.mem = s.settledMap.hst.mem ∧
    (s.moduleReset cause q n w p).sec.bank = s.settledMap.sec.bank ∧
    (s.moduleReset cause q n w p).sec.counter = s.settledMap.sec.counter ∧
    (s.moduleReset cause q n w p).sec.revoked = s.settledMap.sec.revoked ∧
    (s.moduleReset cause q n w p).mgmt.hours = s.settledMap.mgmt.hours ∧
    (s.moduleReset cause q n w p).mgmt.autoOn = s.settledMap.mgmt.autoOn :=
  ⟨rfl, rfl, rfl, rfl, rfl, rfl, rfl⟩

/-- The fields after a module reset. -/
theorem moduleReset_fld :
    (s.moduleReset cause q n w p).fld = (List.range 64).map (fun k => (k, (s.settledMap.field k).afterReset)) := rfl

/-- A field after a module reset (R418, R447, R457, R465). -/
theorem field_moduleReset {k : Nat} (hk : k < 64) : (s.moduleReset cause q n w p).field k = (s.field k).afterReset := by
  rw [State.field, moduleReset_fld, Tab.get_map_range {} (fun k => (s.settledMap.field k).afterReset) hk,
    State.field, State.field, settledMap_fld]

/-- The counts of region trips are the only counters that a module reset keeps (R460). -/
theorem moduleReset_ctrs {e : Nat × Counter} (he : e ∈ (s.moduleReset cause q n w p).ctrs) : ∃ k < 64, e.1 = offRegionTrips k := by
  have hkept : ((List.range 64).any fun k => e.1 == offRegionTrips k) = true := (List.mem_filter.1 he).2
  simpa using hkept

end moduleReset

/-- Settles O60: field by field of `clearLogic`. -/
theorem moduleResetsKeepTheStandbyState : Obligations.ModuleResetsKeepTheStandbyState := by
  rintro s t cause q n w p rfl
  obtain ⟨hnow, hmem, hbank, hcounter, hrevoked, hhours, hauto⟩ := moduleReset_keeps s cause q n w p
  simp only [settledMap_now, settledMap_hst, settledMap_bank, settledMap_counter, settledMap_revoked, settledMap_mgmt]
    at hnow hmem hbank hcounter hrevoked hhours hauto
  refine ⟨rfl, rfl, rfl, rfl, rfl, rfl, rfl, rfl, rfl, rfl, rfl, fun e => moduleReset_ctrs s cause q n w p, hnow, hmem, hbank, hcounter,
    hrevoked, fun k hk => ?_, hhours, hauto, rfl, rfl, rfl⟩
  rw [field_moduleReset s cause q n w p hk]
  exact ⟨rfl, rfl⟩

/-! ## Resets of functions and ports -/

/-- A host that reaches the engine's physical function writes a PART_CMD of its port that is not busy (R333, R335). -/
theorem execPartitionReset_of_writes {s : State} {f g : Func} (hpf : s.reachesPF f.val = true) (hport : portOf f.val = portOf g.val)
    (hbusy : (s.prt g.val).cmd.busy = false) :
    execPartitionReset f g s = .next ((s.requestReset g.val).modPart g.val (fun p =>
      { p with cmd := { field := partWord 1, busy := true, status := stOk } })) := by
  have hwrites : s.partWrites f.val g.val = true := by simp [State.partWrites, hpf, hport, hbusy]
  simp [execPartitionReset, hwrites]

theorem execFlr_of_PF {s : State} {f : Func} (h : s.reaches f.val = true) (hpf : f.val % 32 = 0) :
    execFlr f s = .next ((s.each (portFuncs (portOf f.val)) State.requestReset).dropConns [portOf f.val]) := by
  simp [execFlr, h, isPF, hpf]

theorem execFlr_of_VF {s : State} {f : Func} (h : s.reaches f.val = true) (hvf : f.val % 32 ≠ 0) :
    execFlr f s = .next (s.requestReset f.val) := by
  simp [execFlr, h, isPF, hvf]

/-- Settles O35: each reset means against its guard. -/
theorem resetsMarkTheirFunctions : Obligations.ResetsMarkTheirFunctions := by
  refine ⟨fun s f g => execPartitionReset_of_writes, fun s f h hvf hnew => ?flrVF, fun s f => execFlr_of_PF, fun s h hready => ?hotReset,
    fun s h hready hperst hvf => ?clear, fun s h n hready hperst hvf => ?set, fun s h => rfl, fun s f a p hf => ?ats⟩
  case flrVF =>
    show execFlr f s = _
    rw [execFlr_of_VF h hvf, State.requestReset, hnew]; rfl
  case hotReset =>
    show execHotReset h s = _
    simp [execHotReset, hready]
  case clear =>
    show execVfEnableClear h s = _
    simp [execVfEnableClear, hready, hperst, hvf]
  case set =>
    show execVfEnableSet h n s = _
    simp [execVfEnableSet, hready, hperst, hvf]
  case ats =>
    show execAtsInvalidate f a p s = _
    simp [execAtsInvalidate, hf]

end Sys2Proof.Machine

/-! ## Clocks, feeds and the cap

Each command of `Power.lean` against its guard (R24, R440 to R451, R458, R520, R526). -/
namespace Sys2Proof.Machine

/-! ### Compute clocks and PLLs -/

/-- A field's clock that may move goes one step towards its target (R440). -/
theorem execClockStep_of_free {s : State} {fld : FieldIx} (hdark : s.isDark fld.val = false) (hhold : (s.field fld.val).holdC = false) :
    ((s.field fld.val).cclk < (s.field fld.val).target →
      execClockStep fld s = .next (s.modField fld.val (fun x => { x with cclk := x.cclk + 1 }))) ∧
    ((s.field fld.val).target < (s.field fld.val).cclk →
      execClockStep fld s = .next (s.modField fld.val (fun x => { x with cclk := x.cclk - 1 }))) ∧
    ((s.field fld.val).cclk = (s.field fld.val).target → execClockStep fld s = .next s) := by
  simp only [execClockStep, hdark, hhold, Bool.or_self, Bool.false_eq_true, if_false]
  refine ⟨fun h => if_pos h, fun h => ?_, fun h => ?_⟩
  · rw [if_neg (by omega), if_pos h]
  · rw [if_neg (by omega), if_neg (by omega)]

/-- A PLL of the crust, whose hold stands in the list of crust holds. -/
def inCrust : Pll → Bool
  | .memory _ => true
  | .port _ => true
  | _ => false

/-- Crust PLLs have places of their own. -/
theorem crustPll_inj {p q : Pll} (hp : inCrust p = true) (hq : inCrust q = true) (h : crustPll p = crustPll q) : p = q := by
  cases p with
  | memory k =>
    cases q with
    | memory l => exact congrArg Pll.memory (Fin.ext h)
    | port j => have hk := k.isLt; simp only [crustPll] at h; omega
    | _ => simp [inCrust] at hq
  | port i =>
    cases q with
    | memory l => have hl := l.isLt; simp only [crustPll] at h; omega
    | port j => exact congrArg Pll.port (Fin.ext (Nat.add_left_cancel h))
    | _ => simp [inCrust] at hq
  | _ => simp [inCrust] at hp

section crustHold
variable (s : State) {p : Pll} (b : Bool)

theorem held_of_inCrust (h : inCrust p = true) : s.held p = s.pwr.crustHold.contains (crustPll p) := by
  cases p <;> simp [inCrust] at h <;> rfl

theorem setHold_of_inCrust (h : inCrust p = true) : s.setHold p b =
    { s with pwr := { s.pwr with crustHold := (if b then [crustPll p] else []) ++ s.pwr.crustHold.filter (· != crustPll p) } } := by
  cases p <;> simp [inCrust] at h <;> rfl

end crustHold

/-- A PLL other than the reference is held as it was last set (R442). -/
theorem held_setHold_self (s : State) {p : Pll} (b : Bool) (hp : p ≠ .reference) : (s.setHold p b).held p = b := by
  cases hc : inCrust p with
  | true =>
    rw [held_of_inCrust _ hc, setHold_of_inCrust s b hc]
    cases b <;> simp
  | false =>
    cases p with
    | compute f => simp [State.setHold, State.held]
    | fabric f => simp [State.setHold, State.held]
    | memory k => simp [inCrust] at hc
    | port i => simp [inCrust] at hc
    | reference => exact absurd rfl hp

/-- The hold of one PLL leaves that of another (R442). -/
theorem held_setHold_ne (s : State) {p q : Pll} (b : Bool) (hp : p ≠ .reference) (hq : q ≠ .reference) (hne : p ≠ q) :
    (s.setHold p b).held q = s.held q := by
  cases hcp : inCrust p with
  | true =>
    rw [setHold_of_inCrust s b hcp]
    cases hcq : inCrust q with
    | true =>
      have hplace : crustPll q ≠ crustPll p := fun h => hne (crustPll_inj hcp hcq h.symm)
      rw [held_of_inCrust _ hcq, held_of_inCrust _ hcq, Bool.eq_iff_iff]
      cases b <;> simp [hplace]
    | false =>
      cases q with
      | compute g => rfl
      | fabric g => rfl
      | reference => exact absurd rfl hq
      | _ => simp [inCrust] at hcq
  | false =>
    cases p with
    | compute f =>
      cases q with
      | compute g =>
        have hfg : g.val ≠ f.val := fun h => hne (by rw [Fin.ext h])
        simp [State.setHold, State.held, hfg]
      | fabric g => by_cases hfg : g.val = f.val <;> simp [State.setHold, State.held, hfg]
      | _ => rfl
    | fabric f =>
      cases q with
      | fabric g =>
        have hfg : g.val ≠ f.val := fun h => hne (by rw [Fin.ext h])
        simp [State.setHold, State.held, hfg]
      | compute g => by_cases hfg : g.val = f.val <;> simp [State.setHold, State.held, hfg]
      | _ => rfl
    | memory k => simp [inCrust] at hcp
    | port i => simp [inCrust] at hcp
    | reference => exact absurd rfl hp

theorem released_eq {s : State} (h : s.pwr.step = .released) : s.released = true := by simp [State.released, h]

/-! ### Feeds -/

section modFeed
variable (s : State) (x : Feed) (f : FeedSt → FeedSt)
@[simp] theorem feed_modFeed : (s.modFeed x f).feed x = f (s.feed x) := by cases x <;> rfl
@[simp] theorem feed_modFeed_other : (s.modFeed x f).feed (otherFeed x) = s.feed (otherFeed x) := by cases x <;> rfl
@[simp] theorem modFeed_now : (s.modFeed x f).now = s.now := by cases x <;> rfl
@[simp] theorem modFeed_pwr_step : (s.modFeed x f).pwr.step = s.pwr.step := by cases x <;> rfl
@[simp] theorem logicOn_modFeed : (s.modFeed x f).logicOn = s.logicOn := by simp [State.logicOn]
end modFeed

/-- What the loss of a feed starts (R444, R447, R449). -/
theorem loseFeed_cases {s u : State} {x : Feed} (hu : u = s.modFeed x (fun f => { f with present := false })) :
    (s.logicOn = true → (s.feed (otherFeed x)).present = true → s.loseFeed x = ({ u with
      pwr := { u.pwr with capActive := true, capEnding := false, capAt := s.now, capLow := none } }.setCap 14).feedEvent.capEvent) ∧
    (s.logicOn = true → (s.feed (otherFeed x)).present = false → s.loseFeed x = u.feedEvent) ∧
    (s.logicOn = false → s.pwr.step ≠ .off → (s.feed (otherFeed x)).present = false → s.loseFeed x = u.feedEvent.standbyLost) := by
  subst hu
  simp only [State.loseFeed, feed_modFeed_other]
  refine ⟨fun hon hother => ?_, fun hon hother => ?_, fun hoff hstep hother => ?_⟩
  · simp [hon, hother]
  · simp [hon, hother]
  · simp [hoff, hother, hstep]

/-- A present feed whose voltage leaves 250 V to 410 V is lost (R444). -/
theorem execFeedLost_of_outside {s : State} {x : Feed} {dv : Nat} (hp : (s.feed x).present = true) (hdv : dv < 2500 ∨ 4100 < dv) :
    execFeedLost x dv s = .next ((s.modFeed x (fun f => { f with dv := dv })).loseFeed x) := by
  have hout : (decide (2500 ≤ dv) && decide (dv ≤ 4100)) = false := by
    rw [Bool.and_eq_false_iff, decide_eq_false_iff_not, decide_eq_false_iff_not]; omega
  simp [execFeedLost, hp, hout]

theorem execFeedLost_of_within {s : State} {x : Feed} {dv : Nat} (h : (s.feed x).present = false ∨ (2500 ≤ dv ∧ dv ≤ 4100)) :
    execFeedLost x dv s = .next s := by
  rcases h with h | ⟨hlow, hhigh⟩
  · simp [execFeedLost, h]
  · simp [execFeedLost, hlow, hhigh]

/-- A feed becomes present from 260 V to 400 V where it is neither tripped nor latched (R444). -/
theorem execFeedPresent_of_good {s : State} {x : Feed} {dv : Nat} (htrip : (s.feed x).tripped = false) (hlatch : (s.feed x).latched = false)
    (hlow : 2600 ≤ dv) (hhigh : dv ≤ 4000) (hp : (s.feed x).present = false) : execFeedPresent x dv s =
      .next (s.modFeed x (fun f => { f with dv := dv, present := true, presentAt := s.now, interlock := false })) := by
  simp [execFeedPresent, htrip, hlatch, hp, Nat.not_lt.2 hlow, Nat.not_lt.2 hhigh]

theorem execFeedPresent_of_bad {s : State} {x : Feed} {dv : Nat}
    (h : (s.feed x).tripped = true ∨ (s.feed x).latched = true ∨ dv < 2600 ∨ 4000 < dv) : execFeedPresent x dv s = .next s := by
  simp only [execFeedPresent, Bool.or_eq_true, decide_eq_true_eq, or_assoc, h, if_true]

/-- A trip is the second within an hour where the feed tripped less than an hour ago (R526). -/
theorem execInletTrip_of_present {s : State} {x : Feed} {b : Bool} (hp : (s.feed x).present = true)
    (hb : b = true ↔ ∃ t, (s.feed x).lastTrip = some t ∧ s.now < t + 3600000000) : execInletTrip x s =
      .next ((s.modFeed x (fun f => { f with tripped := true, lastTrip := some s.now, latched := f.latched || b })).openInlet x) := by
  cases hlast : (s.feed x).lastTrip with
  | none =>
    have hfirst : b = false := by simpa [hlast] using hb
    simp [execInletTrip, hp, hlast, hfirst]
  | some t =>
    have hagain : b = decide (s.now < t + hourUs) := by
      rw [Bool.eq_iff_iff, hb, decide_eq_true_iff, hlast]
      exact ⟨fun ⟨_, ht, h⟩ => Option.some.inj ht ▸ h, fun h => ⟨t, rfl, h⟩⟩
    simp [execInletTrip, hp, hlast, hagain]

/-! ### The cap -/

section capAdjust
variable {s t : State} {w : Nat} (ha : s.pwr.capActive = true) (hl : s.pwr.linkLost = false) (ht : s.pwr.capAt + 10000 ≤ s.now)
  (htaken : t = { s with pwr := { s.pwr with input := w, capAt := s.now } })
include ha hl ht htaken

/-- The cap moves its ceiling by the input power once 10 ms have passed (R447). -/
theorem execCapAdjust_of_capped (he : s.pwr.capEnding = false) : execCapAdjust w s = .next (t.capMove s.capCeil w) := by
  subst htaken
  simp [execCapAdjust, ha, hl, he, Nat.not_lt.2 ht]

/-- A cap that ends waits for its gated fields (R448). -/
theorem execCapAdjust_of_gates (he : s.pwr.capEnding = true) (hg : s.capGates = true) : execCapAdjust w s = .next t := by
  subst htaken
  simp [execCapAdjust, ha, hl, he, hg, Nat.not_lt.2 ht]

/-- A cap that ends and gates no field raises its ceiling (R448). -/
theorem execCapAdjust_of_ungated (he : s.pwr.capEnding = true) (hg : s.capGates = false) :
    execCapAdjust w s = .next ((t.setCap (min 28 (s.capCeil + 1))).capFinish) := by
  subst htaken
  simp [execCapAdjust, ha, hl, he, hg, Nat.not_lt.2 ht]

end capAdjust

/-- The cap gates the next field once the input power has been above 12,000 W at the lowest step for 20 ms (R447). -/
theorem execCapGateField_of_due {s : State} {w k since : Nat} (ha : s.pwr.capActive = true) (he : s.pwr.capEnding = false)
    (hlow : s.pwr.capLow = some since) (hdue : since + 20000 ≤ s.now) (hw : 12000 < w) (hgate : s.pwr.gateAt + 1000 ≤ s.now)
    (hk : (List.range 64).reverse.find? (fun k => !(s.field k).gateCap && !s.isDark k) = some k) : execCapGateField w s =
      .next (({ s with pwr := { s.pwr with input := w, gateAt := s.now } } : State).modGate k (fun x => { x with gateCap := true })) := by
  have hw' : ¬ w ≤ 12000 := Nat.not_le.2 hw
  simp only [execCapGateField, ha, he, hlow, hdue, hw', Nat.not_lt.2 hgate, hk]
  rfl

theorem execCapEnd_of_both {s : State} (ha : s.pwr.capActive = true) (he : s.pwr.capEnding = false) (hfa : s.pwr.feedA.present = true)
    (hfb : s.pwr.feedB.present = true) (hta : s.pwr.feedA.presentAt + 10000000 ≤ s.now) (htb : s.pwr.feedB.presentAt + 10000000 ≤ s.now) :
    execCapEnd s = .next { s with pwr := { s.pwr with capEnding := true, capLow := none } } := by
  have hmax : max s.pwr.feedA.presentAt s.pwr.feedB.presentAt + 10000000 ≤ s.now := by omega
  simp only [execCapEnd, ha, he, hfa, hfb, hmax]
  rfl

theorem execCapRestoreField_of_gated {s : State} {k : Nat} (he : s.pwr.capEnding = true) (hgate : s.pwr.gateAt + 1000 ≤ s.now)
    (hk : (List.range 64).find? (fun k => (s.field k).gateCap) = some k) : execCapRestoreField s =
      .next (({ s with pwr := { s.pwr with gateAt := s.now } } : State).modGate k (fun x => { x with gateCap := false })) := by
  simp only [execCapRestoreField, he, Nat.not_lt.2 hgate, hk]
  rfl

/-- The ceiling after 10 ms of input power: up below 11,500 W, down above 12,000 W (R447). -/
theorem capMove_cases (s : State) (n w : Nat) {u : State}
    (hu : u = { s with pwr := { s.pwr with capLow := if n = 14 ∧ 12000 < w then some (s.pwr.capLow.getD s.now) else none } }) :
    (w < 11500 → s.capMove n w = u.setCap (min 28 (n + 1))) ∧
    (11500 ≤ w → w ≤ 12000 → s.capMove n w = u.setCap n) ∧
    (12000 < w → s.capMove n w = u.setCap (max 14 (n - 1))) := by
  subst hu
  exact ⟨fun h => congrArg (State.setCap _) (if_pos h),
    fun hlow hhigh => congrArg (State.setCap _) ((if_neg (Nat.not_lt.2 hlow)).trans (if_neg (Nat.not_lt.2 hhigh))),
    fun h => congrArg (State.setCap _) ((if_neg (by omega)).trans (if_pos h))⟩

/-- The cap limits no field where every field's own ceiling lies no higher than the cap's (R448). -/
theorem capFree_iff (s : State) :
    s.capFree = true ↔ ∀ k < 64, min (s.field k).bin (s.field k).spCeil ≤ (s.field k).capCeil := by
  simp [State.capFree]

/-- The cap is over once it limits no field (R448). -/
theorem capFinish_of_free {s : State} (h : ∀ k < 64, min (s.field k).bin (s.field k).spCeil ≤ (s.field k).capCeil) :
    s.capFinish = (({ s with pwr := { s.pwr with capActive := false, capEnding := false } } : State).setCap 28).capEvent :=
  if_pos ((capFree_iff s).2 h)

theorem capFinish_of_limited {s : State} (h : ∃ k < 64, (s.field k).capCeil < min (s.field k).bin (s.field k).spCeil) : s.capFinish = s := by
  obtain ⟨k, hk, hlimit⟩ := h
  exact if_neg (fun hfree => Nat.not_le.2 hlimit ((capFree_iff s).1 hfree k hk))

/-! ### Quadrant buses, the isolator link and inlets -/

/-- A quadrant bus lost while the logic side is on resets the module, or ends the standby supply where no feed is left (R24, R449). -/
theorem execQuadBusLoss_of_on {s : State} {q : BitVec 4} (hon : s.logicOn = true) (hq : q ≠ 0) :
    execQuadBusLoss q s = .next (if s.pwr.feedA.present = true ∨ s.pwr.feedB.present = true then
      { s.moduleReset 5 q 0 false .started with pwr := { (s.moduleReset 5 q 0 false .started).pwr with quadOk := 0, quadCv := [] } }
      else s.standbyLost) := by
  simp only [execQuadBusLoss, hon, hq]
  cases s.pwr.feedA.present <;> cases s.pwr.feedB.present <;> rfl

theorem execInletReclose_of_due {s : State} {x : Feed} {t : Nat} (hlast : (s.feed x).lastTrip = some t) (htrip : (s.feed x).tripped = true)
    (hlatch : (s.feed x).latched = false) (ht : t + 10000000 ≤ s.now) :
    execInletReclose x s = .next (s.modFeed x (fun f => { f with tripped := false })) := by
  simp [execInletReclose, hlast, htrip, hlatch, ht]

/-- Settles O46: each command of clocks, feeds, the cap, buses and inlets against its guard. -/
theorem feedsClocksAndTheCapAct : Obligations.FeedsClocksAndTheCapAct := by
  refine ⟨?clock, ?pll, ?present, ?lost, ?adjust, ?gate, ?capEnd, ?restore, ?quad, ?link, ?interlock, ?trip, ?reclose, ?ending, ?finish,
    ?holds, fun s x dv => execFeedPresent_of_bad, fun s x dv => execFeedLost_of_within⟩
  case clock =>
    rintro s fld _ rfl hdark hhold
    exact execClockStep_of_free hdark hhold
  case pll =>
    intro s p hstep
    have hrel := released_eq hstep
    refine ⟨fun hfree => ?_, fun hheld => ?_⟩
    · show execPllLockLoss p s = _
      simp [execPllLockLoss, hrel, hfree]
    · show execPllRelock p s = _
      simp [execPllRelock, hrel, hheld]
  case present => exact fun s x dv => execFeedPresent_of_good
  case lost =>
    rintro s u x dv hp hdv hu
    obtain ⟨hcap, hboth, hstandby⟩ := loseFeed_cases hu
    have hexec : exec (.feedLost x dv) s = _ := execFeedLost_of_outside hp hdv
    rw [hexec]
    simp only [logicOn_modFeed, feed_modFeed_other, modFeed_now, modFeed_pwr_step] at hcap hboth hstandby
    exact ⟨fun hon ho => congrArg _ (hcap hon ho), fun hon ho => congrArg _ (hboth hon ho),
      fun hoff hs ho => congrArg _ (hstandby hoff hs ho)⟩
  case adjust =>
    rintro s t w c ha hl ht he rfl rfl
    have hexec : exec (.capAdjust w) s = _ := execCapAdjust_of_capped ha hl ht rfl he
    rw [hexec]
    obtain ⟨hup, hstay, hdown⟩ := capMove_cases ({ s with pwr := { s.pwr with input := w, capAt := s.now } } : State) s.capCeil w rfl
    exact ⟨fun h => congrArg _ (hup h), fun h h' => congrArg _ (hstay h h'), fun h => congrArg _ (hdown h)⟩
  case gate =>
    rintro s t w k since ha he hlow hdue hw hgate hk rfl
    exact execCapGateField_of_due ha he hlow hdue hw hgate hk
  case capEnd => exact fun s => execCapEnd_of_both
  case restore => exact fun s k => execCapRestoreField_of_gated
  case quad =>
    rintro s t q hon hq rfl
    have hexec : exec (.quadBusLoss q) s = _ := execQuadBusLoss_of_on hon hq
    rw [hexec]
    exact ⟨fun h => congrArg _ (if_pos h), fun ha hb => congrArg _ (if_neg (by simp [ha, hb]))⟩
  case link =>
    intro s hstep
    refine ⟨fun h => ?_, fun h => ?_⟩
    · show execSupplyLinkLoss s = _
      simp [execSupplyLinkLoss, h, hstep]
    · show execSupplyLinkRestore s = _
      simp [execSupplyLinkRestore, h]
  case interlock =>
    rintro s u x rfl
    rfl
  case trip =>
    rintro s u x b hp hb rfl
    exact execInletTrip_of_present hp hb
  case reclose => exact fun s x t => execInletReclose_of_due
  case ending =>
    rintro s t w c ha hl ht he rfl htaken
    exact ⟨execCapAdjust_of_gates ha hl ht htaken he, execCapAdjust_of_ungated ha hl ht htaken he⟩
  case finish =>
    rintro s t rfl
    exact ⟨capFinish_of_free, capFinish_of_limited⟩
  case holds => exact fun s p q b hp hq hne => ⟨held_setHold_self s b hp, held_setHold_ne s b hp hq hne⟩

end Sys2Proof.Machine

/-! ## Map changes and the field commands

TABLE_INSTALL, DARK_BIT_ARRIVE, INFLIGHT_QUIET_RESET and FAB_FIELD_CMD (R201, R207, R215, R217). -/
namespace Sys2Proof.Machine

/-- The tables are installed once lane U is empty of what the old tree can still move (R201, R216, R217). -/
theorem execTableInstall_of_done {s : State} (hr : s.fab.recomputing = true) (hdone : s.laneUDone = true) : execTableInstall s = .next
    (((s.modFab (fun f =>
      { f with installed := s.liveMap, recomputing := false, generation := f.generation + 1,
               fieldCmd := if s.fab.fieldCmd.field.toNat / 2 ^ 30 = 3 then s.fab.fieldCmd else { s.fab.fieldCmd with busy := false } })).bump
      (fabBase + 0x38) 1).each s.fab.flight State.settlePacket).assignCheckers := by
  simp only [execTableInstall, hr, hdone, Bool.and_self, if_true, bump_fab]
  rfl

/-- Zeroing the keys of a list leaves them at zero, whatever else is zeroed. -/
theorem Tab.get_foldl_zero (k : Nat → Nat) (l : List Nat) (t : Tab Nat) {j : Nat} (h : (∃ e ∈ l, j = k e) ∨ Tab.get 0 t j = 0) :
    Tab.get 0 (l.foldl (fun t e => Tab.put 0 t (k e) 0) t) j = 0 := by
  induction l generalizing t with
  | nil => simpa using h
  | cons x l ih =>
    refine ih _ ?_
    rw [Tab.get_put]
    rcases h with ⟨e, he, hj⟩ | h
    · rcases List.mem_cons.1 he with rfl | he
      · exact .inr (if_pos hj)
      · exact .inl ⟨e, he, hj⟩
    · right
      split
      · rfl
      · exact h

section fieldCommand
variable {s : State} {f cmd : Nat} {fld : FieldIx} {ok : Bool} {eff : State → State}

/-- A field command whose condition holds takes its effect with the register busy (R217, R223). -/
theorem fieldCommand_of_ok (hpf : s.reachesPF f = true) (hbusy : s.fab.fieldCmd.busy = false) (hok : ok = true) :
    s.fieldCommand f cmd fld ok eff =
      eff (s.modFab (fun b => { b with fieldCmd := { field := fieldCmdWord cmd fld, busy := true, status := stOk } })) := by
  simp [State.fieldCommand, hpf, hbusy, hok]

/-- A field command whose condition fails reports ILLEGAL_DESCRIPTOR (R217, R223). -/
theorem fieldCommand_of_refused (hpf : s.reachesPF f = true) (hbusy : s.fab.fieldCmd.busy = false) (hok : ok = false) :
    s.fieldCommand f cmd fld ok eff =
      s.modFab (fun b => { b with fieldCmd := { field := fieldCmdWord cmd fld, busy := false, status := stIllegal } }) := by
  simp [State.fieldCommand, hpf, hbusy, hok]

end fieldCommand

/-- A cluster of the field has an owner. -/
theorem anyOwned_iff (s : State) (fld : Nat) : (s.cl.any (fun e => e.2.owner.isSome && fieldOf e.1 == fld)) = true ↔
    ∃ e ∈ s.cl, e.2.owner.isSome = true ∧ fieldOf e.1 = fld := by
  simp only [List.any_eq_true, Bool.and_eq_true, beq_iff_eq]

/-- Settles O17: the commands of a map change, and each field command with its condition met and failed. -/
theorem mapChangesReachRoutersAndTables : Obligations.MapChangesReachRoutersAndTables := by
  refine ⟨fun s => ⟨execTableInstall_of_done, fun hwait => ?wait⟩, fun s x i hi hr => ?dark, fun s f hq => ?quiet,
    fun s b f fld cmd hpf hbusy hb => ⟨fun hc hfree => ?mark, fun hc hoos hdark hreset => ?returned, fun hc hout hmap hidle => ?reset⟩,
    fun s b f fld cmd hpf hbusy hb => ⟨fun hc howned => ?markBad, fun hc hbad => ?returnBad, fun hc hbad => ?resetBad⟩⟩
  case wait =>
    have hguard : (s.fab.recomputing && s.laneUDone) = false := by rcases hwait with h | h <;> simp [h]
    show execTableInstall s = _
    simp [execTableInstall, hguard]
  case dark =>
    subst hi
    show execDarkBitArrive x s = _
    simp only [execDarkBitArrive, hr, if_true]
    rfl
  case quiet =>
    refine ⟨_, rfl, ?_, fun e he hqe => ?_⟩
    · show Tab.get 0 (if s.quietSince f.val = true then Tab.put 0 s.fab.inflight f.val 0 else s.fab.inflight) f.val = 0
      rw [if_pos hq, Tab.get_put_self]
    · refine Tab.get_foldl_zero (fun e => 4 * f.val + e) _ s.fab.tokenFlight (.inl ⟨e, ?_, rfl⟩)
      exact List.mem_filter.2 ⟨List.mem_range.2 he, hqe⟩
  case mark =>
    subst hc hb
    refine congrArg _ (fieldCommand_of_ok hpf hbusy ?_)
    rw [Bool.not_eq_true', ← Bool.not_eq_true, anyOwned_iff]
    exact fun ⟨e, he, hsome, hfld⟩ => hfree e he hsome hfld
  case returned =>
    subst hc hb
    exact congrArg _ (fieldCommand_of_ok hpf hbusy (by simp [hoos, hdark, hreset]))
  case reset =>
    subst hc hb
    refine congrArg _ (fieldCommand_of_ok hpf hbusy ?_)
    rw [hmap, hidle, Bool.or_eq_true _ _ |>.mpr hout]; rfl
  case markBad =>
    subst hc hb
    refine congrArg _ (fieldCommand_of_refused hpf hbusy ?_)
    rw [(anyOwned_iff s fld.val).2 howned]; rfl
  case returnBad =>
    subst hc hb
    refine congrArg _ (fieldCommand_of_refused hpf hbusy ?_)
    rcases hbad with h | h | h <;> simp [h]
  case resetBad =>
    subst hc hb
    refine congrArg _ (fieldCommand_of_refused hpf hbusy ?_)
    rcases hbad with ⟨hdark, hoos⟩ | h | h
    · simp [hdark, hoos]
    · rw [h]; simp
    · simp [h]

end Sys2Proof.Machine

/-! ## Media ports and their time bases

Each command against its guard (R16, R349, R350, R355, R356, R365). -/
namespace Sys2Proof.Machine

/-! ### Registers of a port and stream contexts -/

section portCfg
variable {s u : State} {f : Func} {p : EPort} {v : W32} (hpf : s.reachesPF f.val = true) (hlock : s.media.lock = false)
  (hu : u = s.modMport p.val (fun m => { m with vlanEn := bitOf v.toNat 27, pcp := bits v.toNat 26 24, vid := bits v.toNat 23 12 }))
include hpf hlock hu

/-- A mode or speed that R365 does not allow is refused; the VLAN fields are written. -/
theorem execMediaPortCfgWrite_of_refused (h : s.modeRefused p.val (bits v.toNat 31 30) = true ∨ bits v.toNat 29 28 = 3) :
    execMediaPortCfgWrite f p v s = .next (u.modMport p.val (fun m => { m with refused := true })) := by
  subst hu
  have hrefused : (s.modeRefused p.val (bits v.toNat 31 30) || bits v.toNat 29 28 == 3) = true := by simpa using h
  simp [execMediaPortCfgWrite, hpf, hlock, hrefused]

/-- A mode and speed that R365 allows are the port's already, or it retrains with them. -/
theorem execMediaPortCfgWrite_of_allowed (hmode : s.modeRefused p.val (bits v.toNat 31 30) = false) (hspeed : bits v.toNat 29 28 ≠ 3) :
    execMediaPortCfgWrite f p v s = .next (
      if (s.mport p.val).mode = modeOf (bits v.toNat 31 30) ∧ (s.mport p.val).speed = bits v.toNat 29 28 then
        u.modMport p.val (fun m => { m with refused := false })
      else ((u.modMport p.val (fun m =>
          { m with mode := modeOf (bits v.toNat 31 30), speed := bits v.toNat 29 28, refused := false,
                   link := if modeOf (bits v.toNat 31 30) = .off then .down else .training })).ptpStop p.val
            (modeOf (bits v.toNat 31 30) == .media)).modTport p.val
          (fun t => t.restart (if modeOf (bits v.toNat 31 30) = .tow then .training else .down))) := by
  subst hu
  have hallowed : (s.modeRefused p.val (bits v.toNat 31 30) || bits v.toNat 29 28 == 3) = false := by simpa [hmode] using hspeed
  simp only [execMediaPortCfgWrite, hpf, hlock, hallowed, Bool.not_true, Bool.or_self, Bool.false_eq_true, if_false]
  split <;> rfl

end portCfg

section ctxWrite
variable {s : State} {f : Func} {c : StreamIx} {b : List W8} {x : Ctx} (hpf : s.reachesPF f.val = true) (hlen : b.length = 128)
  (hx : x = { raw := b, rtp := (s.ctx c.val).rtp })
include hpf hlen hx

/-- A valid context changes to invalid alone, and while it is unbound (R349, R350). -/
theorem execMediaCtxWrite_of_valid (hold : (s.ctx c.val).valid = true) : execMediaCtxWrite f c b s = .next (
    if x.valid = false ∧ (s.ctx c.val).bound = none then s.modCtx c.val (fun _ => { x with raw := ctxClean b }) else s) := by
  subst hx
  simp only [execMediaCtxWrite, hpf, hlen, hold, Bool.not_true, bne_self_eq_false, Bool.or_self, Bool.false_eq_true, if_false, if_true,
    Bool.and_eq_true, Bool.not_eq_true', Option.isNone_iff_eq_none]
  split <;> rfl

/-- A context that is not valid stays so without V, becomes valid after its checks, or is marked BAD (R349, R350). -/
theorem execMediaCtxWrite_of_invalid (hold : (s.ctx c.val).valid = false) : execMediaCtxWrite f c b s = .next (
    if x.valid = false then s.modCtx c.val (fun _ => { x with raw := ctxClean b, bad := (s.ctx c.val).bad })
    else if s.ctxRefused c.val x = true then s.modCtx c.val (fun y => { y with bad := true })
    else s.modCtx c.val (fun _ => x)) := by
  subst hx
  simp only [execMediaCtxWrite, hpf, hlen, hold, Bool.not_true, bne_self_eq_false, Bool.or_self, Bool.false_eq_true, if_false,
    Bool.not_eq_true']
  split
  · rfl
  · split <;> rfl

end ctxWrite

/-! ### PTP -/

section ptp
variable {s u : State} {p : EPort}

/-- An Announce of the port's domain is heard and the best master chosen; an UNLOCKED time base goes to LOCKING (R355, R356). -/
theorem execPtpAnnounce_of_heard {a : Announce} (hruns : s.ptpRuns p.val = true) (hdomain : a.domain.toNat = (s.mport p.val).domain)
    (hv6 : a.v6 = (s.mport p.val).ptpV6) (hu : u = s.modMport p.val (fun m =>
      { m with masters := hearMaster m.masters a s.now, master := bestMaster (hearMaster m.masters a s.now) })) :
    execPtpAnnounce p a s = .next (if (s.mport p.val).state = .unlocked then
      (u.modMport p.val (fun m => { m with step := true })).ptpTo p.val .locking else u) := by
  have hmine : (!s.ptpRuns p.val || a.domain.toNat != (s.mport p.val).domain || a.v6 != (s.mport p.val).ptpV6) = false := by
    simp [hruns, hdomain, hv6]
  subst hu
  simp only [execPtpAnnounce, hmine, Bool.false_eq_true, if_false]
  split <;> rfl

section sync
variable {o : Int} (hruns : s.ptpRuns p.val = true) (hstate : (s.mport p.val).state ≠ .unlocked)
  (hmaster : (s.mport p.val).master.isSome = true)
include hruns hstate hmaster

/-- A Sync is followed where PTP runs, the time base is not UNLOCKED and has a master (R356). -/
theorem followsSync : (!s.ptpRuns p.val || decide ((s.mport p.val).state = .unlocked) || (s.mport p.val).master.isNone) = false := by
  rw [Option.isNone_eq_false_iff.2 hmaster]
  simp [hruns, hstate]

/-- The first Sync after a change of master steps the time base (R356). -/
theorem execPtpSync_of_step (hstep : (s.mport p.val).step = true) : execPtpSync p o s = .next ((s.modMport p.val (fun m =>
    { m with base := m.base - o, step := false, offset := 0, since := s.now })).stepSlots p.val) := by
  simp only [execPtpSync, followsSync hruns hstate hmaster, hstep, Bool.false_eq_true, if_false, if_true]

/-- Every other Sync slews the time base within its bound, and 16 good ones in a row lock it (R356). -/
theorem execPtpSync_of_slew (hstep : (s.mport p.val).step = false) :
    ∃ d ≤ (s.mport p.val).slewMax s.now o, ∃ n u, n = (if o.natAbs < 2000 then (s.mport p.val).good + 1 else 0) ∧
      u = { s with free := s.free + 1 }.modMport p.val (fun m =>
        { m with base := if 0 ≤ o then m.base - d else m.base + d, offset := o, good := n, since := s.now }) ∧
      execPtpSync p o s = .next (if 16 ≤ n ∧ (s.mport p.val).state ≠ .locked then u.ptpTo p.val .locked else u) := by
  refine ⟨(Config.freeValue s.free).toNat % ((s.mport p.val).slewMax s.now o + 1), Nat.lt_succ_iff.1 (Nat.mod_lt _ (Nat.succ_pos _)),
    _, _, rfl, rfl, ?_⟩
  simp only [execPtpSync, followsSync hruns hstate hmaster, hstep, Bool.false_eq_true, if_false, Bool.and_eq_true, decide_eq_true_eq,
    bne_iff_ne]
  exact (apply_ite Host.Outcome.next _ _ _).symm

end sync

/-- A master is late once no Announce of it has come for ANN_TO announce intervals (R355, R365). -/
theorem announceLate_of_unheard {m : MPort} {now : Nat} {a : Announce} (ha : m.master = some a) (h : ∀ x ∈ m.masters,
    x.ann.identity = a.identity → x.heard + min 7 (max 2 m.annTo) * (125000 * 2 ^ a.logInterval.val) ≤ now) :
    m.announceLate now = true := by
  rw [MPort.announceLate, ha]
  refine List.all_eq_true.2 (fun x hx => ?_)
  by_cases hid : x.ann.identity = a.identity
  · simp [announceInterval, h x hx hid]
  · simp [hid]

/-- A late master is lost (R356). -/
theorem execPtpAnnounceTimeout_of_late (hready : s.ready = true) (hmode : (s.mport p.val).mode = .media)
    (hen : (s.mport p.val).ptpEn = true) (hlate : (s.mport p.val).announceLate s.now = true) : execPtpAnnounceTimeout p s =
    .next ((s.modMport p.val (fun m => { m with masters := [], master := none, lost := s.now, step := false })).ptpTo
      p.val (if (s.mport p.val).state = .locked ∨ (s.mport p.val).state = .holdover then .holdover else .unlocked)) := by
  simp [execPtpAnnounceTimeout, hready, hmode, hen, hlate]

end ptp

/-- Settles O38: each command of a media port and of its time base against its guard. -/
theorem mediaPortsAreConfiguredAndKeepTime : Obligations.MediaPortsAreConfiguredAndKeepTime := by
  refine ⟨fun s f hpf => if_pos hpf, ?config, fun s p => ⟨rfl, rfl⟩, ?context, fun s p hready hmode => ⟨?down, ?up⟩, ?announce, ?sync,
    ?timeout, ?holdmax⟩
  case config =>
    rintro s u f p v mode hpf hlock hu rfl
    refine ⟨execMediaPortCfgWrite_of_refused hpf hlock hu, fun hmode hspeed => ?_⟩
    have hexec : exec (.mediaPortCfgWrite f p v) s = _ := execMediaPortCfgWrite_of_allowed hpf hlock hu hmode hspeed
    rw [hexec]
    exact ⟨fun h => congrArg _ (if_pos h), fun h => congrArg _ (if_neg h)⟩
  case context =>
    rintro s f c b x hpf hlen hx y rfl
    refine ⟨fun hold hkeep => ?_, fun hold hoff hfree => ?_, fun hold hoff => ?_, fun hold hon hgood => ?_, fun hold hon hbad => ?_⟩
    · refine (execMediaCtxWrite_of_valid hpf hlen hx hold).trans (congrArg _ (if_neg (fun ⟨hoff, hfree⟩ => ?_)))
      rcases hkeep with h | h
      · simp [hoff] at h
      · simp [hfree] at h
    · exact (execMediaCtxWrite_of_valid hpf hlen hx hold).trans (congrArg _ (if_pos ⟨hoff, hfree⟩))
    · exact (execMediaCtxWrite_of_invalid hpf hlen hx hold).trans (congrArg _ (if_pos hoff))
    · refine (execMediaCtxWrite_of_invalid hpf hlen hx hold).trans (congrArg _ ?_)
      rw [if_neg (by simp [hon]), if_neg (by simp [hgood])]
    · refine (execMediaCtxWrite_of_invalid hpf hlen hx hold).trans (congrArg _ ?_)
      rw [if_neg (by simp [hon]), if_pos hbad]
  case down =>
    show execMediaLinkDown p s = _
    simp [execMediaLinkDown, hready, hmode]
  case up =>
    show execMediaLinkUp p s = _
    simp [execMediaLinkUp, hready, hmode]
  case announce =>
    intro s u p a hruns hdomain hv6 hu
    have hexec : exec (.ptpAnnounce p a) s = _ := execPtpAnnounce_of_heard hruns hdomain hv6 hu
    rw [hexec]
    exact ⟨fun h => congrArg _ (if_neg h), fun h => congrArg _ (if_pos h)⟩
  case sync => exact fun s p o hruns hstate hmaster => ⟨execPtpSync_of_step hruns hstate hmaster, execPtpSync_of_slew hruns hstate hmaster⟩
  case timeout =>
    rintro s p hready hmode hen ⟨a, ha, hunheard⟩
    exact execPtpAnnounceTimeout_of_late hready hmode hen (announceLate_of_unheard ha hunheard)
  case holdmax =>
    intro s p hstate hmaster htime
    exact if_pos ⟨hstate, by rw [hmaster]; rfl, htime⟩

end Sys2Proof.Machine

/-! ## Power-up and bring-up

The steps of R452 and the phases of R424, each command against its guard (R26, R417, R419, R427, R453, R485, R488). -/
namespace Sys2Proof.Machine

/-! ### The power-up sequence -/

theorem fed_iff (s : State) : s.fed = true ↔ s.pwr.feedA.present = true ∨ s.pwr.feedB.present = true := by
  simp [State.fed]

section powerUpStep
variable {s : State}

theorem execPowerUpStep_off (h : s.pwr.step = .off) (hfed : s.fed = true) :
    execPowerUpStep s = .next { s.toStep .standby with now := 0 } := by
  simp only [execPowerUpStep, h, hfed, if_true]

theorem execPowerUpStep_standby (h : s.pwr.step = .standby) (hrec : s.sec.recovery = false) : execPowerUpStep s = .next s.startLmc := by
  simp only [execPowerUpStep, h, hrec, Bool.false_eq_true, if_false]

/-- The converters start where the logic side is wanted on and a feed is present (R452). -/
theorem execPowerUpStep_started (h : s.pwr.step = .started) : execPowerUpStep s = .next (if s.pwr.wantOn = true ∧ s.fed = true then
    { s with pwr := { s.pwr with step := .converters, quadOk := 0xF, quadCv := [(0, 4800), (1, 4800), (2, 4800), (3, 4800)] } } else s) := by
  simp only [execPowerUpStep, h, Bool.and_eq_true]
  split <;> rfl

theorem execPowerUpStep_converters (h : s.pwr.step = .converters) : execPowerUpStep s = .next (s.toStep .crust) := by
  simp only [execPowerUpStep, h]

theorem execPowerUpStep_crust (h : s.pwr.step = .crust) : execPowerUpStep s = .next (s.regionsOn.toStep .regions) := by
  simp only [execPowerUpStep, h]

/-- The module reset is released, after a wafer trip once the wafer is cool (R452, R469). -/
theorem execPowerUpStep_regions (h : s.pwr.step = .regions) : execPowerUpStep s = .next (if s.thm.waitCool = true ∧ s.coolEnough = false then s
    else { s.toStep .released with thm := { s.thm with waitCool := false } }) := by
  simp only [execPowerUpStep, h, Bool.and_eq_true, Bool.not_eq_true']
  split <;> rfl

end powerUpStep

/-! ### Bring-up -/

/-- Bring-up starts after the release of module reset, and fails where no CRUST or no SERDES image passes (R423, R488). -/
theorem execBringupStart_of_released {s t : State} (hstep : s.pwr.step = .released) (hready : s.ready = false)
    (hactive : s.boot.active = false) (hphase : s.boot.phase = 0) (ht : t = (({ s with boot := { s.boot with
      kind := s.boot.nextKind, nextKind := .cold, phase := 1, active := true, releasedAt := s.now } } : State).chooseBank 2).chooseBank 3) :
    execBringupStart s = .next (if t.runs 2 = true ∧ t.runs 3 = true then t else t.bringupFails) := by
  have hstarts : ¬ (s.pwr.step ≠ .released ∨ s.ready = true ∨ s.boot.active = true ∨ s.boot.phase ≠ 0) := by
    simp [hstep, hready, hactive, hphase]
  subst ht
  simp only [execBringupStart, if_neg hstarts, Bool.and_eq_true]
  exact (apply_ite Host.Outcome.next _ _ _).symm

section phaseEnd
variable {s : State} {x : PhaseFinding} (hactive : s.boot.active = true)
include hactive

theorem execBringupPhaseEnd_of_bad (hok : x.ok = false) : execBringupPhaseEnd x s = .next s.bringupFails := by
  simp [execBringupPhaseEnd, hactive, hok]

theorem execBringupPhaseEnd_of_last (hok : x.ok = true) (hphase : s.boot.phase = 9) : execBringupPhaseEnd x s = .next s.commitReady := by
  simp [execBringupPhaseEnd, hactive, hok, hphase]

/-- A phase before the ninth has its effect and goes to the next (R424). -/
theorem execBringupPhaseEnd_of_earlier (hok : x.ok = true) (hphase : s.boot.phase ≠ 9) : execBringupPhaseEnd x s =
    .next { s.endPhase x with boot := { (s.endPhase x).boot with phase := s.boot.phase + 1 } } := by
  simp only [execBringupPhaseEnd, hactive, hok, hphase, Bool.not_true, Bool.false_eq_true, if_false]

end phaseEnd

/-- The effect of each phase (R424). -/
theorem endPhase_cases (s : State) (x : PhaseFinding) :
    (s.boot.phase = 1 → s.endPhase x = s.loadMaps x.serviceMapGood) ∧
    (s.boot.phase = 2 → s.endPhase x = s.each ((List.range 64).filter (fun k => !s.isDark k)) (fun t k => t.modField k (fun y => y.startClocks k))) ∧
    (s.boot.phase = 3 → s.endPhase x = s) ∧
    (s.boot.phase = 4 → s.endPhase x = s.testLinks x) ∧
    (s.boot.phase = 5 → s.endPhase x = (fun u : State => { u with boot := { u.boot with failed := x.failedSites.map Site.idx } })
      (s.each (x.failedSites.map Site.idx) (fun t i => t.setSite i .retired))) ∧
    (s.boot.phase = 6 → s.endPhase x = s.exclude x.excluded) ∧
    (s.boot.phase = 7 → s.endPhase x = s.merge) ∧
    (s.boot.phase = 8 → s.endPhase x = s.margins) := by
  refine ⟨?_, ?_, ?_, ?_, ?_, ?_, ?_, ?_⟩ <;> intro h <;> simp only [State.endPhase, h]

/-- The link tests of a bring-up start from the factory map when it is cold or the service map was reverted, else from the service
map (R420, R427). -/
theorem testLinks_eq (s : State) (x : PhaseFinding) {lanes : List LaneEx} {edge : Tab EdgeLink}
    (hlanes : lanes = addLanes (if s.boot.kind = .cold ∨ s.boot.reverted = true then [] else s.boot.map.lanes) (Config.factoryLanes.map laneOfWord))
    (hedge : edge = (if s.boot.kind = .cold ∨ s.boot.reverted = true then factoryEdge else s.boot.map.edge)) :
    s.testLinks x = s.sparing lanes edge x.failedLanes ((s.modFab (fun b => { b with edge := edge })).linkNos x.failedLinks) := by
  subst hlanes hedge
  simp only [State.testLinks, Bool.or_eq_true, beq_iff_eq]

/-- Settles O45: each step of the sequence, each phase of bring-up, and the map. -/
theorem powerUpAndBringUpProceedInOrder : Obligations.PowerUpAndBringUpProceedInOrder := by
  refine ⟨fun s hstep hfed => execPowerUpStep_off hstep ((fed_iff s).2 hfed), fun s hstep hrec => ?standby, fun s hstep hwant hfed => ?started,
    fun s => execPowerUpStep_converters, fun s => execPowerUpStep_crust, fun s hstep hcool => ?cool, fun s hstep hwait hwarm => ?warm,
    fun s t hstep hready hactive hphase => execBringupStart_of_released hstep hready hactive hphase,
    fun s t x hactive => ⟨execBringupPhaseEnd_of_bad hactive, execBringupPhaseEnd_of_last hactive, ?earlier⟩,
    endPhase_cases, fun s t hdue => ?mapWrite, fun s x lanes edge => testLinks_eq s x, ?selection, fun s hstep hoff => ?waits⟩
  case standby => exact execPowerUpStep_standby hstep hrec
  case started =>
    exact (execPowerUpStep_started hstep).trans (congrArg _ (if_pos ⟨hwant, (fed_iff s).2 hfed⟩))
  case cool =>
    refine (execPowerUpStep_regions hstep).trans (congrArg _ (if_neg (fun ⟨hwait, hwarm⟩ => ?_)))
    rcases hcool with h | h
    · simp [h] at hwait
    · simp [h] at hwarm
  case warm => exact (execPowerUpStep_regions hstep).trans (congrArg _ (if_pos ⟨hwait, hwarm⟩))
  case earlier =>
    rintro hok hphase rfl
    exact execBringupPhaseEnd_of_earlier hactive hok (by omega)
  case mapWrite =>
    show execServiceMapWrite s = _
    simp only [execServiceMapWrite, hdue]
    rfl
  case selection =>
    rintro s k e pass on off rfl rfl rfl rfl
    rfl
  case waits =>
    refine (execPowerUpStep_started hstep).trans (congrArg _ (if_neg (fun ⟨hwant, hfed⟩ => ?_)))
    rcases hoff with h | ⟨ha, hb⟩
    · simp [h] at hwant
    · simp [State.fed, ha, hb] at hfed

end Sys2Proof.Machine

/-! ## The start of a run

What LAUNCH leaves of the clusters and sets in their cores (R12, R120, R152, R413). -/
namespace Sys2Proof.Machine

/-! ### Folds over the clusters of a run -/

/-- What each step of a fold keeps, the fold keeps. -/
theorem each_keeps {α β : Type} (g : State → β) {f : State → α → State} (hf : ∀ t a, g (f t a) = g t) (l : List α) (s : State) :
    g (s.each l f) = g s := by
  induction l generalizing s with
  | nil => rfl
  | cons x l ih => exact (ih (f s x)).trans (hf s x)

/-- A fold over clusters, each step of which changes its own cluster alone, leaves every cluster outside the list. -/
theorem clu_each_of_not_mem {f : State → Nat → State} (hf : ∀ t a j, j ≠ a → (f t a).clu j = t.clu j) {l : List Nat} {j : Nat} (hj : j ∉ l)
    (s : State) : (s.each l f).clu j = s.clu j := by
  induction l generalizing s with
  | nil => rfl
  | cons x l ih =>
    obtain ⟨hx, hl⟩ : j ≠ x ∧ j ∉ l := by simpa using hj
    exact (ih hl (f s x)).trans (hf s x j hx)

/-! ### The lineage entry -/

/-- What a cluster stores beside its cores: scratchpad, passes of its tiles, queues. -/
def Cluster.store (c : Cluster) : Mem × Tab Nat × Tab Queue := (c.sp, c.pass, c.queue)

/-- What an event, a count or a record can change leaves the clusters. -/
theorem clu_raise (s : State) (x : Option (Nat × Nat)) (w : Bool) (ty : W16) (d j : Nat) : (s.raise x w ty d).clu j = s.clu j := by
  have hcl : (s.raise x w ty d).cl = s.cl := show (s.raise x w ty d).still.cl = s.still.cl by rw [still_raise]
  rw [State.clu, hcl, State.clu]

theorem siteState_raise (s : State) (x : Option (Nat × Nat)) (w : Bool) (ty : W16) (d j : Nat) :
    (s.raise x w ty d).siteState j = s.siteState j := by
  have hsite : (s.raise x w ty d).site = s.site := show (s.raise x w ty d).still.site = s.still.site by rw [still_raise]
  rw [State.siteState, hsite, State.siteState]

/-- A run's lineage entry changes the window of its cluster alone (R408). -/
theorem clu_addLineage (s : State) (f i : Nat) (e : W64) (j : Nat) :
    ∃ l o, (s.addLineage f i e).clu j = if j = i then { s.clu i with lineage := l, linOvf := o } else s.clu j := by
  unfold State.addLineage
  dsimp only
  split
  · exact ⟨(s.clu i).lineage, (s.clu i).linOvf, by split <;> simp [*]⟩
  split
  · exact ⟨_, _, clu_modClu _ _ _ _⟩
  · exact ⟨_, _, (clu_raise _ _ _ _ _ _).trans (clu_modClu _ _ _ _)⟩

theorem clu_addLineage_ne (s : State) (f i : Nat) (e : W64) {j : Nat} (hj : j ≠ i) : (s.addLineage f i e).clu j = s.clu j := by
  obtain ⟨l, o, h⟩ := clu_addLineage s f i e j
  rw [h, if_neg hj]

theorem core_addLineage (s : State) (f i : Nat) (e : W64) (j : Nat) : ((s.addLineage f i e).clu j).core = (s.clu j).core := by
  obtain ⟨l, o, h⟩ := clu_addLineage s f i e j
  rw [h]
  split
  · next hj => rw [hj]
  · rfl

theorem store_addLineage (s : State) (f i : Nat) (e : W64) (j : Nat) : ((s.addLineage f i e).clu j).store = (s.clu j).store := by
  obtain ⟨l, o, h⟩ := clu_addLineage s f i e j
  rw [h]
  split
  · next hj => rw [hj]; rfl
  · rfl

theorem siteState_addLineage (s : State) (f i : Nat) (e : W64) (j : Nat) : (s.addLineage f i e).siteState j = s.siteState j := by
  unfold State.addLineage
  dsimp only
  split
  · rfl
  split
  · rfl
  · exact siteState_raise _ _ _ _ _ _

/-! ### The cores of a cluster -/

/-- Changing the value of every listed key changes what each key reads as, where the change leaves what an unlisted key reads as. -/
theorem Tab.get_map_values {α : Type} (d : α) (g : α → α) (hd : g d = d) (t : Tab α) (i : Nat) :
    Tab.get d (t.map (fun e => (e.1, g e.2))) i = g (Tab.get d t i) := by
  induction t with
  | nil => exact hd.symm
  | cons e t ih =>
    simp only [List.map_cons, Tab.get]
    split
    · rfl
    · exact ih

/-- What the start of a run makes of a cluster, by whether it takes part (R12, R120, R413). -/
def Cluster.started (c : Cluster) (barred : Bool) (args : List W32) : Cluster := if barred then c.stay else c.begin args

theorem getCore_stay (c : Cluster) (n : Nat) : c.stay.getCore n = { c.getCore n with done := false } :=
  Tab.get_map_values ({} : Core) (fun k : Core => { k with done := false }) rfl c.core n

theorem getCore_begin (c : Cluster) (args : List W32) (n : Nat) : (c.begin args).getCore n = (c.getCore n).begin args :=
  Tab.get_map_values ({} : Core) (fun k : Core => k.begin args) rfl c.core n

theorem store_started (c : Cluster) (b : Bool) (args : List W32) : (c.started b args).store = c.store := by
  cases b <;> rfl

/-- A core that is not loaded does not start (R120). -/
theorem begin_of_unloaded {k : Core} (h : k.seq = .unloaded) (args : List W32) : k.begin args = k := if_pos h

/-- The registers of a loaded core at its start: the arguments in g12 to g15, and its initial state below (R87, R120). -/
theorem reg_begin {k : Core} (h : k.seq ≠ .unloaded) (args : List W32) :
    (∀ j < 4, (k.begin args).reg (12 + j) = args.getD j 0) ∧ (k.begin args).reg 0 = 0 ∧
    (∀ j, 0 < j → j < 12 → (k.begin args).reg j = Tab.get 0 k.initG j) := by
  have hg : (k.begin args).g = (List.range 4).foldl (fun t i => Tab.put 0 t (12 + i) (args.getD i 0)) k.initG := by
    rw [Core.begin, if_neg h]
  refine ⟨fun j hj => ?_, rfl, fun j hpos hj => ?_⟩
  · rw [Core.reg, if_neg (by omega), hg]
    interval_cases j <;> simp [List.range_succ]
  · rw [Core.reg, if_neg (by omega), hg]
    have h12 : j ≠ 12 ∧ j ≠ 13 ∧ j ≠ 14 ∧ j ≠ 15 := by omega
    simp [List.range_succ, h12]

/-! ### Starting -/

/-- The start of a run in a cluster changes that cluster alone (R12, R120). -/
theorem clu_beginAt (s : State) (i : Nat) (args : List W32) (j : Nat) :
    (s.beginAt i args).clu j = if j = i then (s.clu i).started (s.barred i) args else s.clu j := by
  unfold State.beginAt Cluster.started
  split <;> exact clu_modClu _ _ _ _

theorem siteState_beginAt (s : State) (i : Nat) (args : List W32) (j : Nat) : (s.beginAt i args).siteState j = s.siteState j := by
  unfold State.beginAt
  split <;> rfl

theorem barred_of_siteState {s t : State} {i : Nat} (h : t.siteState i = s.siteState i) : t.barred i = s.barred i := by
  rw [State.barred, h, State.barred]

/-- Starting a run in different clusters starts it in each of them (R120). -/
theorem clu_each_beginAt {l : List Nat} (hl : l.Nodup) {i : Nat} (hi : i ∈ l) (args : List W32) (s : State) :
    (s.each l (fun t i => t.beginAt i args)).clu i = (s.clu i).started (s.barred i) args := by
  induction l generalizing s with
  | nil => simp at hi
  | cons x l ih =>
    obtain ⟨hx, hnd⟩ := List.nodup_cons.1 hl
    show ((s.beginAt x args).each l _).clu i = _
    by_cases hix : i = x
    · subst hix
      rw [clu_each_of_not_mem (fun t a j hj => by rw [clu_beginAt, if_neg hj]) hx, clu_beginAt, if_pos rfl]
    · rw [ih hnd (List.mem_of_ne_of_mem hix hi), clu_beginAt, if_neg hix, barred_of_siteState (siteState_beginAt _ _ _ _)]

theorem removePacket_cl (s : State) (p : Packet) : (s.removePacket p).cl = s.cl := rfl

theorem removePacket_site (s : State) (p : Packet) : (s.removePacket p).site = s.site := rfl

/-- The start of a configuration's period leaves the clusters and the states of the sites (R244, R248). -/
theorem startPeriod_cl (s : State) (f c : Nat) : (s.startPeriod f c).cl = s.cl := by
  show (s.dropTT (cfgKey f c)).cl = s.cl
  exact each_keeps State.cl (fun t p => (bump_cl (t.removePacket p) _ 1).trans (removePacket_cl t p)) _ s

theorem startPeriod_site (s : State) (f c : Nat) : (s.startPeriod f c).site = s.site := by
  show (s.dropTT (cfgKey f c)).site = s.site
  exact each_keeps State.site (fun t p => (bump_site (t.removePacket p) _ 1).trans (removePacket_site t p)) _ s

/-- A run is entered in its configuration, whose period starts (R244, R286). -/
def State.entered (s : State) (f c : Nat) (v : Run) : State := (s.modCfg f c (fun k => { k with run := some v })).startPeriod f c

theorem clu_entered (s : State) (f c : Nat) (v : Run) (i : Nat) : (s.entered f c v).clu i = s.clu i := by
  rw [State.clu, State.entered, startPeriod_cl]; rfl

theorem siteState_entered (s : State) (f c : Nat) (v : Run) (i : Nat) : (s.entered f c v).siteState i = s.siteState i := by
  rw [State.siteState, State.entered, startPeriod_site]; rfl

/-- The state in which a run's clusters start: its lineage entries are in their windows (R408). -/
def State.lined (s : State) (f c : Nat) (v : Run) : State :=
  (s.entered f c v).each (s.cfg f c).clusters (fun t i => t.addLineage f i (t.runEntry f v))

section lined
variable (s : State) (f c : Nat) (v : Run)

theorem clu_lined_of_not_mem {i : Nat} (hi : i ∉ (s.cfg f c).clusters) : (s.lined f c v).clu i = s.clu i :=
  (clu_each_of_not_mem (fun _ _ _ hj => clu_addLineage_ne _ _ _ _ hj) hi _).trans (clu_entered s f c v i)

theorem core_lined (i : Nat) : ((s.lined f c v).clu i).core = (s.clu i).core := by
  rw [← clu_entered s f c v i]
  exact each_keeps (fun t => (t.clu i).core) (fun _ _ => core_addLineage _ _ _ _ _) _ _

theorem store_lined (i : Nat) : ((s.lined f c v).clu i).store = (s.clu i).store := by
  rw [← clu_entered s f c v i]
  exact each_keeps (fun t => (t.clu i).store) (fun _ _ => store_addLineage _ _ _ _ _) _ _

theorem barred_lined (i : Nat) : (s.lined f c v).barred i = s.barred i :=
  barred_of_siteState ((each_keeps (fun t => t.siteState i) (fun _ _ => siteState_addLineage _ _ _ _ _) _ _).trans
    (siteState_entered s f c v i))

theorem getCore_lined (i n : Nat) : ((s.lined f c v).clu i).getCore n = (s.clu i).getCore n := by
  rw [Cluster.getCore, core_lined, Cluster.getCore]

end lined

section startRun
variable (s : State) (f c : Nat) (u : Run)

/-- A run as its configuration keeps it: with its view and its time (R286). -/
def State.entry (s : State) (u : Run) : Run := { u with view := s.viewNow, begun := s.now }

theorem startRun_eq : s.startRun f c u false =
    (s.lined f c (s.entry u)).each (s.cfg f c).clusters (fun t i => t.beginAt i u.args) := rfl

/-- A cluster of a run after its start. -/
theorem clu_startRun_of_mem (hnd : (s.cfg f c).clusters.Nodup) {i : Nat} (hi : i ∈ (s.cfg f c).clusters) :
    (s.startRun f c u false).clu i = ((s.lined f c (s.entry u)).clu i).started (s.barred i) u.args := by
  rw [startRun_eq, clu_each_beginAt hnd hi, barred_lined]

theorem clu_startRun_of_not_mem {i : Nat} (hi : i ∉ (s.cfg f c).clusters) : (s.startRun f c u false).clu i = s.clu i := by
  rw [startRun_eq, clu_each_of_not_mem (fun t a j hj => by rw [clu_beginAt, if_neg hj]) hi, clu_lined_of_not_mem s f c _ hi]

/-- The start of a run keeps what every cluster stores. -/
theorem store_startRun (i : Nat) : ((s.startRun f c u false).clu i).store = (s.clu i).store := by
  have hstep : ∀ (t : State) (a : Nat), ((t.beginAt a u.args).clu i).store = (t.clu i).store := by
    intro t a
    rw [clu_beginAt]
    split
    · next ha => rw [store_started, ha]
    · rfl
  rw [startRun_eq, each_keeps (fun t => (t.clu i).store) hstep]
  exact store_lined s f c _ i

end startRun

/-- Settles O22: the clusters that take part start their loaded cores, those that are barred stay, and the others are left. -/
theorem launchStartsEveryLoadedCore : Obligations.LaunchStartsEveryLoadedCore := by
  rintro s t f c u hnd rfl
  refine ⟨fun i hi hbar n => ?barred, fun i hi hfree n k k' hk hk' => ?starts, fun i => clu_startRun_of_not_mem s f c u, fun i => ?store⟩
  case barred =>
    rw [clu_startRun_of_mem s f c u hnd hi, hbar, ← getCore_lined s f c _ i n]
    exact getCore_stay _ n
  case starts =>
    have hcore : k' = k.begin u.args := by
      rw [hk', hk, clu_startRun_of_mem s f c u hnd hi, hfree, ← getCore_lined s f c _ i n]
      exact getCore_begin _ _ n
    rw [hcore]
    refine ⟨fun hun => begin_of_unloaded hun _, fun hloaded => ?_⟩
    obtain ⟨hargs, hzero, hinit⟩ := reg_begin hloaded u.args
    refine ⟨hargs, hzero, hinit, ?_⟩
    rw [Core.begin, if_neg hloaded]
    exact ⟨rfl, rfl, rfl, rfl, rfl, rfl, rfl, rfl, rfl, rfl⟩
  case store =>
    have hstore := store_startRun s f c u i
    simpa only [Cluster.store, Prod.mk.injEq] using hstore

end Sys2Proof.Machine

/-! ## The end of a run

LAUNCH_COMPLETE: the report of a run whose clusters are done, and the completion of its descriptor (R62, R152, R272, R325, R402). -/
namespace Sys2Proof.Machine

/-! ### The report of a run -/

/-- The report of a run over clusters that are done (R62, R152, R185, R325, R327). -/
def State.doneReport (s : State) (sites : List Nat) (u : Run) : Report :=
  { status := if u.makeup = true then 0x0901 else if s.runFlags sites ≠ 0 then 0x0001 else 0x0000, flags := s.runFlags sites,
    r0 := s.tokensIn sites, r1 := u.group }

/-- No error applies to a run that is done (R327). -/
theorem okStatus_doneReport (s : State) (sites : List Nat) (u : Run) : okStatus (s.doneReport sites u).status = true := by
  unfold State.doneReport
  dsimp only
  split
  · rfl
  split <;> rfl

/-- A silent error leaves a run that is done its results alone (R402). -/
theorem sdeReport_doneReport (s : State) (sites : List Nat) (u : Run) : u.sdeReport (s.doneReport sites u) =
    if u.sde = true then { status := 0x0701, r0 := s.tokensIn sites, r1 := u.group } else s.doneReport sites u := rfl

/-- Of the reports of a run that is done, that of a silent error is the one with an error (R327). -/
theorem okStatus_sdeReport_doneReport (s : State) (sites : List Nat) (u : Run) :
    okStatus (u.sdeReport (s.doneReport sites u)).status = !u.sde := by
  cases hsde : u.sde with
  | true => rw [sdeReport_doneReport, if_pos hsde]; rfl
  | false => rw [sdeReport_doneReport, if_neg (by simp [hsde]), okStatus_doneReport]; rfl

/-! ### What the end of a run keeps -/

/-- Removing lineage entries from paired clusters leaves every configuration (R409). -/
theorem cfg_each_pairClean (s : State) (l : List Nat) (e : W64) (f c : Nat) : (s.each l (fun t i => t.pairClean i e)).cfg f c = s.cfg f c := by
  refine each_keeps (fun t => t.cfg f c) (fun t i => ?_) l s
  unfold State.pairClean
  split
  · split <;> rfl
  · rfl

/-- A configuration whose run has ended has none; a training run that ends with an error marks its function's open steps LOST (R386). -/
def State.runEnded (s : State) (f c : Nat) (lost : Bool) : State :=
  if lost then (s.modCfg f c (fun k => { k with run := none })).markLost f else s.modCfg f c (fun k => { k with run := none })

/-- The end of a run leaves its configuration the clusters. -/
theorem clusters_runEnded (s : State) (f c : Nat) (lost : Bool) : ((s.runEnded f c lost).cfg f c).clusters = (s.cfg f c).clusters := by
  have hcfg : (s.runEnded f c lost).cfg f c = (s.modCfg f c (fun k => { k with run := none })).cfg f c := by
    cases lost <;> rfl
  rw [hcfg, cfg_modCfg]

/-! ### The end of a run -/

section finishRun
variable {s : State} {f c : Nat} {u : Run} (p : Report)

/-- The run of a LAUNCH ends: its descriptor completes once its writes of device memory have been performed (R272). -/
theorem finishRun_of_desc (hrun : (s.cfg f c).run = some u) {r : Nat} {i : W32} (hdesc : u.desc = some (r, i)) {v : State}
    (hv : v = s.runEnded f c (u.train && !okStatus (u.sdeReport p).status)) :
    s.finishRun f c p = v.closeLaunch r i (u.sdeReport p) (v.writesOut f (s.cfg f c).clusters) := by
  subst hv
  rw [← clusters_runEnded s f c (u.train && !okStatus (u.sdeReport p).status)]
  simp only [State.finishRun, hrun, hdesc, State.runEnded]

/-- A frame-slot run ends (R360). -/
theorem finishRun_of_stream (hrun : (s.cfg f c).run = some u) (hdesc : u.desc = none) {x : Nat} (hstream : u.stream = some x) :
    s.finishRun f c p = (s.runEnded f c (u.train && !okStatus (u.sdeReport p).status)).endFrameRun x (u.sdeReport p) := by
  simp only [State.finishRun, hrun, hdesc, hstream, State.runEnded]

end finishRun

/-- The one LAUNCH that has ended completes when its writes are gone (R272). -/
theorem settleLaunches_of_gone {s : State} {d : Desc} {p : Report} (hend : d.ending = some p)
    (hone : s.hst.descs.filter (fun d => d.ending.isSome) = [d]) (hgone : ∀ q ∈ s.fab.flight, q.id ∉ d.writes) :
    s.settleLaunches = s.completeDesc d.ring d.index p := by
  have hout : s.fab.flight.any (fun q => d.writes.contains q.id) = false := by simpa using hgone
  have hready : s.hst.descs.filter (fun d => d.ending.isSome && !s.fab.flight.any (fun q => d.writes.contains q.id)) = [d] := by
    simp only [Bool.and_comm (Option.isSome _)]
    rw [← List.filter_filter, hone, List.filter_singleton, hout]
    rfl
  rw [State.settleLaunches, hready, List.foldl_cons, List.foldl_nil, hend]

/-! ### LAUNCH_COMPLETE -/

section launchComplete
variable {s : State} {f : Func} {c : Fin 256}

/-- Without a run, LAUNCH_COMPLETE completes what has ended (R272). -/
theorem execLaunchComplete_of_ended (hrun : (s.cfg f.val c.val).run = none) : execLaunchComplete f c s = .next s.settleLaunches := by
  simp only [execLaunchComplete, hrun]

/-- The run of clusters that are done ends with its report (R152, R185, R325). -/
theorem execLaunchComplete_of_finished {u : Run} (hrun : (s.cfg f.val c.val).run = some u)
    (hdone : ∀ i ∈ (s.cfg f.val c.val).clusters, (s.clu i).finished = true ∧ i ∉ s.fab.starts) :
    execLaunchComplete f c s = .next ((s.each (s.cfg f.val c.val).clusters (fun t i => t.pairClean i (s.runEntry f.val u))).finishRun
      f.val c.val (s.doneReport (s.cfg f.val c.val).clusters u)) := by
  have hall : (s.cfg f.val c.val).clusters.all (fun i => (s.clu i).finished && !s.fab.starts.contains i) = true := by
    simpa using hdone
  simp only [execLaunchComplete, hrun, hall, if_true, State.doneReport, stMakeup, stOkFlags, stOk, bne_iff_ne]

end launchComplete

/-- Settles O25: the end of a run by its descriptor or its frame slot, and the completion of a LAUNCH that had ended. -/
theorem runsComplete : Obligations.RunsComplete := by
  refine ⟨fun s f c d p hrun hend hone hgone => ?settle, ?run⟩
  case settle => exact (execLaunchComplete_of_ended hrun).trans (congrArg _ (settleLaunches_of_gone hend hone hgone))
  case run =>
    rintro s f c k u p t rfl hrun hdone hp ht
    have hcfg : t.cfg f.val c.val = s.cfg f.val c.val := ht ▸ cfg_each_pairClean _ _ _ _ _
    have hrunt : (t.cfg f.val c.val).run = some u := hcfg ▸ hrun
    have hexec : exec (.launchComplete f c) s = .next (t.finishRun f.val c.val p) :=
      hp ▸ ht ▸ execLaunchComplete_of_finished hrun hdone
    have hreport : u.sdeReport p = if u.sde = true then { status := 0x0701, r0 := p.r0, r1 := p.r1 } else p :=
      hp ▸ sdeReport_doneReport s _ u
    have hok : okStatus (u.sdeReport p).status = !u.sde := hp ▸ okStatus_sdeReport_doneReport s _ u
    rw [hexec]
    refine ⟨fun r i q v hdesc hq hv => ?_, fun x hdesc hstream hsde => ?_⟩
    · have hended : v = t.runEnded f.val c.val (u.train && !okStatus (u.sdeReport p).status) := by
        rw [hv, hok, State.runEnded]
        simp [and_comm]
      rw [finishRun_of_desc p hrunt hdesc hended, hcfg, hreport, ← hq]
      exact ⟨fun hnone => congrArg _ (if_pos hnone), fun hout => congrArg _ (if_neg hout)⟩
    · rw [finishRun_of_stream p hrunt hdesc hstream, hok, hreport, hsde]
      simp [State.runEnded]

end Sys2Proof.Machine

/-! ## The matrix unit and the vector engine

PASS_START, UNIT_COMPLETE, STEAL_CHUNK and MMS_APPLY: one equation for each way on that their guards leave open (R72, R104, R111,
R112, R131, R167, R171, R173, R174). -/
namespace Sys2Proof.Machine

/-! ### Starting -/

section passStart
variable {s : State} {r : CoreRef} {o : MatOp} {l : List MatOp} {i n : Nat} {c : Cluster}
  (hi : Site.idx r.site = i) (hn : r.n.val = n) (hc : s.clu i = c) (hclk : s.clocked i = true) (hq : (c.getCore n).matQueue = o :: l)
include hi hn hc hclk hq

/-- A dense instruction whose unit and operands are free turns on its reservations, then on its operands (R104, R123, R131). -/
theorem execPassStart_of_free (hkind : o.kind ≠ .mms) (hfree : (c.getCore n).unitFree o = true) (hin : c.passIn n o.reads = false) :
    execPassStart r s = .next (
      if c.canReserve n o.tiles = false then s.modClu i (fun d => d.request n o.tiles)
      else if c.matBad n o = true then
        ((s.modCore r Core.dropMat).modClu i (fun d => (d.request n o.tiles).releaseAll n o.tiles)).coreFaultAt r o.pc .ecc
      else (if o.kind = .tzero then s else ((s.matCorrect i n o).predStart i o).countPass i o.tile).modClu i (fun d =>
        (d.request n o.tiles).modCore n (fun k => { k.dropMat with matRun := some (c.fetchRun o
          (((if o.kind = .tzero then s else (s.matCorrect i n o).predStart i o).clu i).passCount o.tile + 1)) }))) := by
  simp only [execPassStart, hi, hn, hc, hclk, hq, hkind, hfree, hin]
  cases c.canReserve n o.tiles with
  | false => rfl
  | true =>
    cases c.matBad n o with
    | true => rfl
    | false => by_cases htz : o.kind = .tzero <;> simp [htz]

/-- An MMS pass with room and sound operands starts as the walk of its slabs (R164, R167, R171). -/
theorem execPassStart_of_mms (hkind : o.kind = .mms) (hroom : (c.getCore n).mms.length < 4)
    (hsteal : c.steal.length + (c.walk o).todo.length ≤ 64) (hin : c.passIn n o.reads = false) (hbad : c.matBad n o = false)
    (hdense : (c.walk o).dense = false) :
    execPassStart r s = .next ((s.matCorrect i n o).modClu i (fun d =>
      { d.modCore n (fun k => { k.dropMat with mms := k.mms ++ [(k.mmsNext, c.walk o)], mmsNext := k.mmsNext + 1 }) with
        steal := d.steal ++ (c.walk o).todo.map (fun m => { core := n, pass := (c.getCore n).mmsNext, m := m }) })) := by
  have hgo : ¬ (4 ≤ (c.getCore n).mms.length ∨ 64 < c.steal.length + (c.walk o).todo.length ∨ c.passIn n o.reads = true) := by
    simp [hin, hroom, hsteal]
  simp only [execPassStart, State.mmsStart, hi, hn, hc, hclk, hq, hkind, hbad, hdense, if_neg hgo]
  rfl

end passStart

/-! ### Completing -/

section unitComplete
variable {s : State} {r : CoreRef} (hclk : s.clocked (Site.idx r.site) = true)
include hclk

/-- The started matrix instruction completes (R104, R111). -/
theorem execUnitComplete_matrix {m : MatRun} (hrun : (s.core r).matRun = some m) :
    execUnitComplete r .matrix s = .next (s.matComplete r m) := by
  simp only [execUnitComplete, hclk, hrun]
  rfl

/-- The oldest vector instruction completes where no other core has reserved what it touches (R111, R131). -/
theorem execUnitComplete_vector {v : VecIssue} {l : List VecIssue} (hq : (s.core r).vecQueue = v :: l)
    (hres : (s.clu (Site.idx r.site)).reservedFrom r.n.val (v.op.reads ++ v.op.writes) = false) :
    execUnitComplete r .vector s = .next (s.vecComplete r v) := by
  simp only [execUnitComplete, hclk, hq, hres]
  rfl

end unitComplete

/-- Every output of a pass other than a compute-phase pass is live (R183). -/
theorem liveOut_of_ne_mmp (c : Cluster) {m : MatRun} (h : m.op.kind ≠ .mmp) : c.liveOut m = fun _ => true :=
  funext fun _ => if_neg (fun hp => h hp.1)

/-- TZERO zeroes its tile (R104). -/
theorem matComplete_of_tzero (s : State) (r : CoreRef) {m : MatRun} (h : m.op.kind = .tzero) :
    s.matComplete r m = s.modClu (Site.idx r.site) (fun c =>
      { ((c.spWrite (1024 * m.op.tile) (List.replicate 1024 0)).modCore r.n.val
        (fun k => { k with matRun := none, flags := k.flags ||| 0 })).releaseAll r.n.val m.op.tiles with wdog := 0 }) :=
  if_pos h

/-- MMA adds the records of its slabs to its tile (R72, R104). -/
theorem matComplete_of_mma {s : State} {r : CoreRef} {m : MatRun} {c : Cluster} {w : List W8 × ArithFlags}
    (hc : s.clu (Site.idx r.site) = c) (h : m.op.kind = .mma)
    (hw : w = applyRecords m.data.isInt (c.tile m.op.tile) (fun j => m.data.record (j / 16) (j % 16)) (fun _ => true)) :
    s.matComplete r m = (s.modClu (Site.idx r.site) (fun c =>
      { (((c.setTile m.op.tile w.1).setAcc m.op.tile m.op.acc).modCore r.n.val
        (fun k => { k with matRun := none, flags := k.flags ||| w.2 })).releaseAll r.n.val m.op.tiles with wdog := 0 })).capture
      (Site.idx r.site) r.n.val m.op.pc (m.left ++ m.right ++ m.sl ++ m.sr ++ m.pblock ++ c.tile m.op.tile) (w.1 ++ [w.2.zeroExtend 8]) := by
  have hmmp : m.op.kind ≠ .mmp := by simp [h]
  have htz : m.op.kind ≠ .tzero := by simp [h]
  simp only [State.matComplete, liveOut_of_ne_mmp _ hmmp, if_neg htz, hmmp, false_and, if_false, List.append_nil, hc, ← hw]

/-- A vector instruction with sound operands writes its results and ORs in its flags (R107 to R109, R112). -/
theorem vecComplete_of_sound {s : State} {r : CoreRef} {v : VecIssue} {i n : Nat} {c : Cluster} (hi : Site.idx r.site = i)
    (hn : r.n.val = n) (hc : s.clu i = c) (hbad : v.op.reads.any (fun x => c.dataBad n x.1 x.2) = false) :
    s.vecComplete r v = (((s.modCore r (fun k => { k with vecQueue := k.vecQueue.drop 1 })).each v.op.reads
        (fun t x => t.correctRead i n x.1 x.2)).modClu i (fun d =>
          { ((c.vecResult n v.op).1.foldl (fun d e => d.dataWrite n e.1 e.2) d).modCore n
            (fun k => { k with flags := k.flags ||| (c.vecResult n v.op).2 }) with wdog := 0 })).capture i n v.pc
      (v.op.reads.flatMap (fun x => c.dataRead n x.1 x.2))
      ((c.vecResult n v.op).1.flatMap Prod.snd ++ [(c.vecResult n v.op).2.zeroExtend 8]) := by
  subst hi hn hc
  rw [State.vecComplete, hbad]
  rfl

/-! ### Chunks of MMS passes -/

/-- The chunk at the head of the steal queue leaves it, and its records stand with its pass (R171, R173). -/
def Cluster.chunkDone (c : Cluster) (x : Chunk) (l : List Chunk) : Cluster :=
  { c.modCore x.core (fun k => { k with mms := k.mms.map (fun e => if e.1 = x.pass then
      (e.1, { e.2 with todo := e.2.todo.filter (· != x.m), recs := e.2.recs ++ e.2.run.data.chunk x.m }) else e) }) with
    steal := l, wdog := 0 }

/-- A core without dense work computes the head chunk; one of another core's pass counts as stolen (R171, R172). -/
theorem execStealChunk_of_head {s : State} {r : CoreRef} {x : Chunk} {l : List Chunk} {c : Cluster} (hc : s.clu (Site.idx r.site) = c)
    (hclk : s.clocked (Site.idx r.site) = true) (hq : c.steal = x :: l) (hrun : (c.getCore r.n.val).matRun = none)
    (hdense : c.denseReady r.n.val = false) :
    execStealChunk r s = .next (if x.core = r.n.val then s.modClu (Site.idx r.site) (fun d => d.chunkDone x l)
      else (s.modClu (Site.idx r.site) (fun d => d.chunkDone x l)).bumpOwner (Site.idx r.site) 0x308 1) := by
  simp only [execStealChunk, hc, hq, hclk, hrun, hdense]
  rfl

/-- The oldest MMS pass with all its records is applied: it counts, and its tile is read and written (R67, R174). -/
theorem execMmsApply_of_complete {s : State} {r : CoreRef} {e : Nat} {p : MmsPass} {l : List (Nat × MmsPass)} {i n t : Nat} {c : Cluster}
    {w : List W8 × ArithFlags} (hi : Site.idx r.site = i) (hn : r.n.val = n) (hc : s.clu i = c) (ht : p.run.op.tile = t)
    (hclk : s.clocked i = true) (hq : (c.getCore n).mms = (e, p) :: l) (htodo : p.todo = [])
    (huse : (c.getCore n).usesTile t = false) (hres : c.canReserve n [t] = true) (hbad : c.dataBad n (1024 * t) 1024 = false)
    (hw : w = applyRecords p.run.data.isInt (c.tile t) (fun j => Tab.get {} p.recs j) (fun _ => true)) :
    execMmsApply r s = .next ((((s.correctRead i n (1024 * t) 1024).countPass i t).modClu i (fun d =>
        { (((((d.setTile t w.1).noPhase t).setAcc t p.run.op.acc).request n [t]).modCore n
          (fun k => { k with mms := l, flags := k.flags ||| w.2 })).releaseAll n [t] with wdog := 0 })).capture i n p.run.op.pc
      (p.run.left ++ p.run.right ++ p.run.sl ++ p.run.sr ++ c.tile t) (w.1 ++ [w.2.zeroExtend 8])) := by
  simp only [execMmsApply, hi, hn, hc, ht, hclk, hq, htodo, huse, hres, hbad, hw]
  rfl

/-- Settles O9: each command against the guards that let it through. -/
theorem unitsStartAndCompleteInstructions : Obligations.UnitsStartAndCompleteInstructions := by
  intro s r i n c k hclk
  refine ⟨fun o l hq hkind hfree hin => ?start, ?mms, ?tzero, ?mma, ?vector, ?own, ?stolen, ?apply⟩
  case start =>
    have hexec := execPassStart_of_free rfl rfl rfl hclk hq hkind hfree hin
    refine ⟨fun hres => hexec.trans (congrArg _ (if_pos hres)), fun hres hbad => hexec.trans (congrArg _ ?_),
      fun hres hbad => hexec.trans (congrArg _ ?_)⟩
    · exact (if_neg (ne_false_of_eq_true hres)).trans (if_neg (Bool.eq_false_iff.1 hbad))
    · exact (if_neg (ne_false_of_eq_true hres)).trans (if_pos hbad)
  case mms => exact fun o l hq hkind hroom hsteal hin hbad hdense =>
    execPassStart_of_mms rfl rfl rfl hclk hq hkind hroom hsteal hin hbad hdense
  case tzero => exact fun m hrun hkind =>
    (execUnitComplete_matrix hclk hrun).trans (congrArg _ (matComplete_of_tzero s r hkind))
  case mma => exact fun m w hrun hkind hw =>
    (execUnitComplete_matrix hclk hrun).trans (congrArg _ (matComplete_of_mma rfl hkind hw))
  case vector => exact fun v l hq hres hbad =>
    (execUnitComplete_vector hclk hq hres).trans (congrArg _ (vecComplete_of_sound rfl rfl rfl hbad))
  case own =>
    intro x l hq hrun hdense hx
    rw [← hx]
    exact (execStealChunk_of_head rfl hclk hq hrun hdense).trans (congrArg _ (if_pos hx))
  case stolen => exact fun x l hq hrun hdense hx =>
    (execStealChunk_of_head rfl hclk hq hrun hdense).trans (congrArg _ (if_neg hx))
  case apply => exact fun e p l w hq htodo huse hres hbad hw =>
    execMmsApply_of_complete rfl rfl rfl rfl hclk hq htodo huse hres hbad hw

end Sys2Proof.Machine

/-! ## The data memories of a core

What a byte at a data address reads as after a write at one (R88). -/
namespace Sys2Proof.Machine

section dataWrite
variable {c : Cluster} {n a : Nat} {bs : List W8}

/-- A write at a scratchpad address changes scratchpad alone (R88). -/
theorem dataByte_dataWrite_sp (ha : a < spBytes) (b : Nat) : (c.dataWrite n a bs).dataByte n b =
    if b < spBytes then Mem.get (Mem.write c.sp a bs) b else Mem.get (c.getCore n).lmem (b - lmemBase) := by
  obtain ⟨hsp, hcore⟩ := spWrite_sp c a bs
  rw [Cluster.dataWrite, if_pos ha, Cluster.dataByte, Cluster.getCore, hsp, hcore]
  rfl

/-- A write past scratchpad changes the core's local data memory alone (R88). -/
theorem dataByte_dataWrite_lmem (ha : ¬ a < spBytes) (b : Nat) : (c.dataWrite n a bs).dataByte n b =
    if b < spBytes then Mem.get c.sp b else Mem.get (Mem.write (c.getCore n).lmem (a - lmemBase) bs) (b - lmemBase) := by
  rw [Cluster.dataWrite, if_neg ha, Cluster.dataByte, getCore_modCore, if_pos rfl]
  rfl

/-- A byte of a write that lies within one memory reads as the byte written (R4). -/
theorem dataByte_dataWrite_in (hin : inData a bs.length = true) {b : Nat} (h : a ≤ b ∧ b < a + bs.length) :
    (c.dataWrite n a bs).dataByte n b = bs[b - a] := by
  obtain ⟨i, rfl⟩ := Nat.exists_eq_add_of_le h.1
  have hi : i < bs.length := by omega
  have hget : bs[a + i - a] = bs[i] := by congr 1; omega
  rw [inData_iff] at hin
  by_cases ha : a < spBytes
  · have hb : a + i < spBytes := by unfold spBytes at *; omega
    rw [dataByte_dataWrite_sp ha, if_pos hb, Mem.get_write_in _ _ _ _ hi, hget]
  · have hb : ¬ a + i < spBytes := by omega
    have hoff : a + i - lmemBase = a - lmemBase + i := by unfold spBytes lmemBase at *; omega
    rw [dataByte_dataWrite_lmem ha, if_neg hb, hoff, Mem.get_write_in _ _ _ _ hi, hget]

/-- Every data byte outside a write reads as before (R88). -/
theorem dataByte_dataWrite_out (hin : inData a bs.length = true) {b : Nat} (hb : inData b 1 = true)
    (hout : b < a ∨ a + bs.length ≤ b) : (c.dataWrite n a bs).dataByte n b = c.dataByte n b := by
  rw [inData_iff] at hin hb
  by_cases ha : a < spBytes
  · rw [dataByte_dataWrite_sp ha, Mem.get_write_out _ _ _ _ hout]
    rfl
  · have hlmem : b < spBytes ∨ b - lmemBase < a - lmemBase ∨ a - lmemBase + bs.length ≤ b - lmemBase := by
      unfold spBytes lmemBase at *; omega
    rw [dataByte_dataWrite_lmem ha, Cluster.dataByte]
    split
    · rfl
    · next h => exact Mem.get_write_out _ _ _ _ (hlmem.resolve_left h)

end dataWrite

/-- Settles O4: the bytes inside the write, and those outside it. -/
theorem dataWritesChangeTheirBytesAlone : Obligations.DataWritesChangeTheirBytesAlone :=
  fun _ _ _ _ _ hin hb => ⟨fun h => dataByte_dataWrite_in hin h, fun hout => dataByte_dataWrite_out hin hb hout⟩

end Sys2Proof.Machine

/-! ## Instructions of a core

The effect of each instruction that a core executes at its program counter with nothing in its way (R92 to R100, R107 to R118). -/
namespace Sys2Proof.Machine

/-! ### Issuing -/

section issue
variable {s : State} {r : CoreRef} {w : W32}

/-- A core that executes a word and goes on after it is not at word 4,095 (R98). -/
theorem lastWord_of_runsWord (h : s.runsWord r w) : s.lastWord r = false := beq_eq_false_iff_ne.2 h.2.2

/-- No fault is raised where no cause applies (R114). -/
theorem firstFault_of_forall {fs : List (Bool × CoreFault)} (h : ∀ e ∈ fs, e.1 = false) : firstFault fs = none := by
  induction fs with
  | nil => rfl
  | cons e fs ih =>
    rw [List.forall_mem_cons] at h
    rw [firstFault, h.1, if_neg Bool.false_ne_true, ih h.2]

/-- A word with no hazard, no fault and no stall takes its effect (R92, R93, R110, R114). -/
theorem issue_of_runsWord (h : s.runsWord r w) {hz st : Bool} {fs : List (Bool × CoreFault)} (hhz : hz = false)
    (hfs : ∀ e ∈ fs, e.1 = false) (hst : st = false) (eff : State → State) :
    s.issue r w hz fs st eff = (eff (s.fetched r)).progress (Site.idx r.site) :=
  issue_runs s r w hz fs st eff h.1 h.2.1 hhz (firstFault_of_forall hfs) hst

/-- A word that stalls, with no fault, has no effect (R92). -/
theorem issue_of_stall (h : s.runsWord r w) {hz st : Bool} {fs : List (Bool × CoreFault)} (hfs : ∀ e ∈ fs, e.1 = false)
    (hst : st = true) (eff : State → State) : s.issue r w hz fs st eff = s := by
  subst hst
  exact issue_waits s r w hz fs eff h.2.1 (firstFault_of_forall hfs)

/-- An instruction that changes the core alone takes its effect and moves to the next word. -/
theorem scalar_of_runsWord (h : s.runsWord r w) (f : Core → Core) : s.scalar r w f = s.afterWord r (fun k => (f k).advance) :=
  issue_of_runsWord h rfl (by simp [lastWord_of_runsWord h]) rfl _

end issue

/-! ### ALU functions, immediates, counters, formats and flags -/

/-- An ALU word puts the result of its function in gd (R96). -/
theorem execAlu_of_runsWord {s : State} {r : CoreRef} {gd ga gb : GReg} (fn : AluFn)
    (h : s.runsWord r (wordT 0x01 gd ga gb (aluCode fn))) : exec (.alu r fn gd ga gb) s =
    .next (s.afterWord r (fun k => (k.setReg gd.val (aluResult fn (k.reg ga.val) (k.reg gb.val))).advance)) :=
  congrArg _ (scalar_of_runsWord h _)

/-- The signed and the unsigned comparison, by the numbers that the words spell (R96). -/
theorem aluResult_slt (a b : W32) : aluResult .slt a b = if a.toInt < b.toInt then 1 else 0 := by
  simp only [aluResult, BitVec.slt_iff_toInt_lt]

theorem aluResult_sltu (a b : W32) : aluResult .sltu a b = if a.toNat < b.toNat then 1 else 0 := by
  simp only [aluResult, BitVec.ult_iff_toNat_lt]

/-- Settles O1: each function through the one rule of the ALU; the comparisons by the numbers they compare. -/
theorem aluFunctionsWriteTheirResults : Obligations.AluFunctionsWriteTheirResults := by
  intro s r gd ga gb
  refine ⟨execAlu_of_runsWord .add, execAlu_of_runsWord .sub, execAlu_of_runsWord .and, execAlu_of_runsWord .or, execAlu_of_runsWord .xor,
    execAlu_of_runsWord .shl, execAlu_of_runsWord .shr, execAlu_of_runsWord .sra, execAlu_of_runsWord .mul, fun h => ?slt, fun h => ?sltu⟩
  case slt => simpa only [aluResult_slt] using execAlu_of_runsWord .slt h
  case sltu => simpa only [aluResult_sltu] using execAlu_of_runsWord .sltu h

/-- A bit field of a word as a number, and as a vector. -/
theorem ofNat_bits_eq_extractLsb' {w : Nat} (x : BitVec w) (hi lo : Nat) :
    BitVec.ofNat (hi + 1 - lo) (bits x.toNat hi lo) = x.extractLsb' lo (hi + 1 - lo) := by
  refine BitVec.eq_of_toNat_eq ?_
  rw [BitVec.toNat_ofNat, BitVec.extractLsb'_toNat, bits, Nat.mod_mod, Nat.shiftRight_eq_div_pow]

/-- An instruction that changes the core alone answers the state after its word. -/
theorem next_scalar_of_runsWord {s : State} {r : CoreRef} {w : W32} (h : s.runsWord r w) (f : Core → Core) :
    (.next (s.scalar r w f) : Res) = .next (s.afterWord r (fun k => (f k).advance)) := congrArg _ (scalar_of_runsWord h f)

/-- Settles O2: each instruction through the rule of a word that changes its core alone. -/
theorem immediateAndCounterInstructionsWriteTheirResults : Obligations.ImmediateAndCounterInstructionsWriteTheirResults := by
  intro s r gd ga kr imm i16 fa fb
  refine ⟨(next_scalar_of_runsWord · _), (next_scalar_of_runsWord · _), (next_scalar_of_runsWord · _), (next_scalar_of_runsWord · _),
    (next_scalar_of_runsWord · _), fun h => ?slti, (next_scalar_of_runsWord · _), (next_scalar_of_runsWord · _),
    (next_scalar_of_runsWord · _), (next_scalar_of_runsWord · _), fun h => ?setf, (next_scalar_of_runsWord · _)⟩
  case slti =>
    refine (next_scalar_of_runsWord h _).trans ?_
    simp only [BitVec.slt_iff_toInt_lt]
  case setf =>
    refine (next_scalar_of_runsWord h _).trans ?_
    simp only [if_true, ofNat_bits_eq_extractLsb' _ 4 0, ofNat_bits_eq_extractLsb' _ 12 8]

/-! ### Loads and stores -/

/-- Settles O3: the address is good, so neither a fault nor a hazard applies. -/
theorem loadsAndStoresOfACoreMoveOneWord : Obligations.LoadsAndStoresOfACoreMoveOneWord := by
  intro s r gd ga imm a i c haligned hin hfree
  have hgood : (a % 4 == 0 && inData a 4) = true := by rw [hin, haligned]; rfl
  refine ⟨fun hrun hhaz hbad => congrArg _ (issue_of_runsWord hrun ?_ ?_ hfree _),
    fun hrun hhaz => congrArg _ (issue_of_runsWord hrun ?_ ?_ hfree _)⟩
  · exact (congrArg _ hhaz).trans (Bool.and_false _)
  · exact List.forall_mem_cons.2 ⟨(congrArg _ hbad).trans (Bool.and_false _), List.forall_mem_cons.2
      ⟨lastWord_of_runsWord hrun, List.forall_mem_singleton.2 (congrArg not hgood)⟩⟩
  · exact (congrArg _ hhaz).trans (Bool.and_false _)
  · exact List.forall_mem_cons.2 ⟨lastWord_of_runsWord hrun, List.forall_mem_singleton.2 (congrArg not hgood)⟩

/-! ### Control flow -/

/-- The condition of a branch by the numbers it compares (R96). -/
theorem condHolds_eq_branchTaken (cond : Cond) (a b : W32) : condHolds cond a b = branchTaken cond a b := by
  cases cond with
  | eq => exact (Bool.beq_eq_decide_eq a b)
  | ne => simp [condHolds, branchTaken, bne, Bool.beq_eq_decide_eq]
  | lt => rfl
  | ge => simp [condHolds, branchTaken, BitVec.slt, ← decide_not]
  | ltu => rfl
  | geu => simp [condHolds, branchTaken, BitVec.ult, ← decide_not]
  | always => rfl

section branch
variable {s : State} {r : CoreRef} {cond : Cond} {ga gb : GReg} {off : BitVec 15} {t : Int}
  (hissue : s.mayIssue r (wordB (condCode cond) ga gb off) = true)
  (hsound : (s.core r).imemBad.contains (s.core r).pc.toNat = false)
include hissue hsound

/-- A branch that is taken to a word of 64 to 4,095 goes there (R96, R98). -/
theorem execBr_of_taken (htaken : branchTaken cond ((s.core r).reg ga.val) ((s.core r).reg gb.val) = true)
    (ht : s.target r off = t) (hlow : 64 ≤ t) (hhigh : t ≤ 4095) :
    execBr r cond ga gb off s = .next (s.afterWord r (fun k => { k with pc := BitVec.ofInt 12 t })) := by
  subst ht
  refine congrArg _ ((issue_runs s r _ _ _ _ _ hissue hsound rfl (firstFault_of_forall ?_) rfl).trans ?_)
  · simp only [condHolds_eq_branchTaken, htaken, if_true, List.mem_singleton, forall_eq, Bool.or_eq_false_iff, decide_eq_false_iff_not]
    omega
  · simp only [condHolds_eq_branchTaken, htaken, if_true]
    rfl

/-- A branch that is not taken goes to the next word (R96). -/
theorem execBr_of_not_taken (htaken : branchTaken cond ((s.core r).reg ga.val) ((s.core r).reg gb.val) = false)
    (hlast : (s.core r).pc ≠ 4095) : execBr r cond ga gb off s = .next (s.afterWord r Core.advance) := by
  refine congrArg _ ((issue_runs s r _ _ _ _ _ hissue hsound rfl (firstFault_of_forall ?_) rfl).trans ?_)
  · simp [condHolds_eq_branchTaken, htaken, lastWord_of_runsWord ⟨hissue, hsound, hlast⟩]
  · simp only [condHolds_eq_branchTaken, htaken, Bool.false_eq_true, if_false]
    rfl

end branch

/-- A decision selects the ready entry of lowest index (R92). -/
theorem decide_of_first {c : Cluster} {n e : Nat} (he : e < 32) (hready : c.blockReady n e = true)
    (hfirst : ∀ d < e, c.blockReady n d = false) : c.decide n = some e := by
  rw [Cluster.decide, List.find?_range_eq_some]
  exact ⟨hready, List.mem_range.2 he, fun d hd => by rw [hfirst d hd]; rfl⟩

/-- A core without a block starts the entry that its decision selects (R92, R93). -/
theorem execBlockDecision_of_decide {s : State} {r : CoreRef} {e : Nat} (hclk : s.clocked (Site.idx r.site) = true)
    (hseq : (s.core r).seq = .running) (hblock : (s.core r).inBlock = false) (hdone : (s.core r).done = false)
    (hsound : ∀ w ∈ (s.core r).imemBad, 64 ≤ w) (he : (s.clu (Site.idx r.site)).decide r.n.val = some e) :
    execBlockDecision r s = .next ((s.tableRead r).modCore r (fun k =>
      { k with pc := BitVec.ofNat 12 (k.blockStart e), block := BitVec.ofNat 5 e, inBlock := true })) := by
  have hbad : (s.core r).imemBad.find? (· < 64) = none := List.find?_eq_none.2 (fun w hw => by simpa using hsound w hw)
  simp only [execBlockDecision, hclk, hseq, hblock, hdone, hbad, he]
  rfl

/-- Settles O5: each instruction through the rule of issue, and the decision through the entry it selects. -/
theorem controlFlowMovesTheProgramCounter : Obligations.ControlFlowMovesTheProgramCounter := by
  refine ⟨?branch, fun s r h hb => ?_, fun s r h hb => ?_, ?settle, ?decision⟩
  case branch => exact fun s r cond ga gb off hissue hsound =>
    ⟨fun htaken hlow hhigh => execBr_of_taken hissue hsound htaken rfl hlow hhigh,
      fun htaken hlast => execBr_of_not_taken hissue hsound htaken hlast⟩
  case settle =>
    intro s r hrun hmat hstarted hmms hvec
    have hsettled : (s.core r).settled = true := by simp [Core.settled, hmat, hstarted, hmms, hvec]
    exact congrArg _ (issue_of_runsWord hrun rfl (by simp [lastWord_of_runsWord hrun]) (congrArg _ hsettled) _)
  case decision => exact fun s r e hclk hseq hblock hdone hsound he hready hfirst =>
    execBlockDecision_of_decide hclk hseq hblock hdone hsound (decide_of_first he hready hfirst)
  all_goals exact congrArg _ (issue_runs s r _ _ _ _ _ h hb rfl rfl rfl)

/-! ### Queues -/

/-- The head of a bound input port is the head of its queue (R147). -/
theorem head_of_inPort {c : Cluster} {n p j : Nat} (h : c.inPort n p = some j) :
    c.head n p = (c.getQueue j).toks.head?.map Token.data := by
  rw [Cluster.head, h]

/-- Taking the head token owes a credit for a token of an inbound queue (R145). -/
theorem dequeue_eq (c : Cluster) (q : Nat) : c.dequeue q = c.modQueue q (fun x =>
    { x with toks := x.toks.drop 1, owed := x.owed + if x.prod = 0xA0 then 1 else 0 }) := by
  simp only [Cluster.dequeue, beq_iff_eq]

section queues
variable {s : State} {r : CoreRef} {g : GReg} {q : QPort} {j : Nat} {v : Token} {l : List Token}

/-- POP takes the head token (R93, R96). -/
theorem execPop_of_token (hrun : s.runsWord r (wordQ 0x10 g.val q.val 0 0))
    (hport : (s.clu (Site.idx r.site)).inPort r.n.val q.val = some j) (htok : ((s.clu (Site.idx r.site)).getQueue j).toks = v :: l) :
    execPop r g q s = .next ((((s.fetched r).modClu (Site.idx r.site) (fun c => c.dequeue j)).modCore r
      (fun k => (k.setReg g.val v.data).advance)).progress (Site.idx r.site)) := by
  have hhead := (head_of_inPort hport).trans (congrArg (fun l => l.head?.map Token.data) htok)
  refine congrArg _ ((issue_of_runsWord hrun rfl ?_ ?_ _).trans ?_)
  · simp [lastWord_of_runsWord hrun, hport]
  · rw [hhead]; rfl
  · simp only [hport, hhead, List.head?_cons, Option.map_some]

/-- PEEK reads the head token (R96). -/
theorem execPeek_of_token (hrun : s.runsWord r (wordQ 0x12 g.val q.val 0 0))
    (hport : (s.clu (Site.idx r.site)).inPort r.n.val q.val = some j) (htok : ((s.clu (Site.idx r.site)).getQueue j).toks = v :: l) :
    execPeek r g q s = .next (s.afterWord r (fun k => (k.setReg g.val v.data).advance)) := by
  have hhead := (head_of_inPort hport).trans (congrArg (fun l => l.head?.map Token.data) htok)
  refine congrArg _ ((issue_of_runsWord hrun rfl ?_ ?_ _).trans ?_)
  · simp [lastWord_of_runsWord hrun, hport]
  · rw [hhead]; rfl
  · simp only [hhead, List.head?_cons, Option.map_some]
    rfl

/-- PUSH puts a token at the tail of a queue with room (R96, R142). -/
theorem execPush_of_room (hrun : s.runsWord r (wordQ 0x11 g.val q.val 0 0))
    (hport : (s.clu (Site.idx r.site)).outPort r.n.val q.val = some j) (hroom : ((s.clu (Site.idx r.site)).getQueue j).room ≠ 0) :
    execPush r g q s = .next ((((s.fetched r).modClu (Site.idx r.site)
      (fun c => c.enqueue j ((c.getCore r.n.val).reg g.val))).modCore r Core.advance).progress (Site.idx r.site)) := by
  refine congrArg _ ((issue_of_runsWord hrun rfl ?_ ?_ _).trans ?_)
  · simp [lastWord_of_runsWord hrun, hport]
  · simpa [hport] using hroom
  · simp only [hport]

end queues

/-- Settles O6: each instruction with a token (or room), and without, where it stalls. -/
theorem queueInstructionsMoveTokens : Obligations.QueueInstructionsMoveTokens := by
  intro s r g q j i c
  refine ⟨fun hrun hport => ⟨fun v l htok => ?pop, fun hempty => ?popStalls⟩,
    fun hrun hport => ⟨fun v l htok => execPeek_of_token hrun hport htok, fun hempty => ?peekStalls⟩,
    fun hrun hport => ⟨execPush_of_room hrun hport, fun hfull => ?pushStalls⟩⟩
  case pop =>
    refine (execPop_of_token hrun hport htok).trans ?_
    simp only [dequeue_eq]
    rfl
  case pushStalls =>
    refine congrArg _ (issue_of_stall hrun ?_ ?_ _)
    · simp [lastWord_of_runsWord hrun, hport, c, i]
    · simpa [hport, c, i] using hfull
  all_goals
    have hstall : (c.head r.n.val q.val).isNone = true := by rw [head_of_inPort hport, hempty]; rfl
    refine congrArg _ (issue_of_stall hrun ?_ hstall _)
    simp [lastWord_of_runsWord hrun, hport, c, i]

/-! ### Matrix instructions -/

/-- A matrix instruction that meets R99, R101, R102 and R105 enters the unit's queue with what it captured (R104). -/
theorem matIssue_of_runsWord {s : State} {r : CoreRef} {kind : MatKind} {op : Nat} {ga gb : GReg} {tile : BitVec 12} {acc : Bool}
    (hrun : s.runsWord r (wordM op ga gb tile acc)) (hroom : (s.core r).matQueue.length < 2) (htile : tile.toNat < 0x600)
    (hformat : matFormatBad (s.core r).fa (s.core r).fb acc ga.val gb.val = false)
    (hhaz : (s.core r).matHazard ((s.core r).matOp kind ga gb tile acc) = false)
    (hmode : (kind != .mma && s.training (Site.idx r.site)) = false)
    (haddr : ((s.core r).matOp kind ga gb tile acc).addressOk = true) : s.matIssue r kind op ga gb tile acc =
    s.afterWord r (fun k => { k with matQueue := k.matQueue ++ [(s.core r).matOp kind ga gb tile acc] }.advance) := by
  unfold State.matIssue
  refine issue_of_runsWord hrun hhaz ?_ (decide_eq_false (Nat.not_le.2 hroom)) _
  simp [lastWord_of_runsWord hrun, hmode, hformat, haddr, htile]

/-- Settles O7: MMA, MMS and MMP through their common issue, and TZERO with its tile alone. -/
theorem matrixInstructionsEnterTheirQueue : Obligations.MatrixInstructionsEnterTheirQueue := by
  intro s r ga gb tile acc k hroom htile
  refine ⟨fun hformat => ⟨fun hrun hhaz haddr => ?_, fun hrun hhaz hmode haddr => ?_, fun hrun hhaz hmode haddr => ?_⟩, ?tzero⟩
  · exact congrArg _ (matIssue_of_runsWord hrun hroom htile hformat hhaz rfl haddr)
  · exact congrArg _ (matIssue_of_runsWord hrun hroom htile hformat hhaz hmode haddr)
  · exact congrArg _ (matIssue_of_runsWord hrun hroom htile hformat hhaz hmode haddr)
  case tzero =>
    rintro o rfl hrun hhaz
    refine congrArg _ (issue_of_runsWord hrun hhaz ?_ (decide_eq_false (Nat.not_le.2 hroom)) _)
    simp [lastWord_of_runsWord hrun, htile]

/-! ### Vector instructions -/

/-- A vector instruction whose reads at issue are sound and free, and that no fault stops, enters the engine's queue (R107 to R110). -/
theorem vecIssue_of_runsWord {s : State} {r : CoreRef} {w : W32} {o : VecOp} {now : List Range} {faults : List (Bool × CoreFault)}
    (hrun : s.runsWord r w) (hroom : (s.core r).vecQueue.length < 2) (hhaz : (s.core r).hazard (o.reads ++ now) o.writes = false)
    (hbad : now.any (fun x => (s.clu (Site.idx r.site)).dataBad r.n.val x.1 x.2) = false)
    (hfree : (s.clu (Site.idx r.site)).reservedFrom r.n.val now = false) (hfaults : ∀ e ∈ faults, e.1 = false) :
    s.vecIssue r w o now faults = (((s.fetched r).each now (fun u x => u.correctRead (Site.idx r.site) r.n.val x.1 x.2)).modCore r
      (fun k => Core.advance { k with vecQueue := k.vecQueue ++ [{ op := o, pc := (s.core r).pc }] })).progress (Site.idx r.site) := by
  unfold State.vecIssue
  refine issue_of_runsWord hrun hhaz ?_ ?_ _
  · exact List.forall_mem_cons.2 ⟨hbad, List.forall_mem_cons.2 ⟨lastWord_of_runsWord hrun, hfaults⟩⟩
  · rw [hfree, Bool.or_false]
    exact decide_eq_false (Nat.not_le.2 hroom)

/-- A vector instruction that reads nothing at issue (R107 to R110). -/
theorem vecIssue_of_no_read {s : State} {r : CoreRef} {w : W32} {o : VecOp} {faults : List (Bool × CoreFault)}
    (hrun : s.runsWord r w) (hroom : (s.core r).vecQueue.length < 2) (hhaz : (s.core r).hazard o.reads o.writes = false)
    (hfaults : ∀ e ∈ faults, e.1 = false) : s.vecIssue r w o [] faults =
    s.afterWord r (fun k => Core.advance { k with vecQueue := k.vecQueue ++ [{ op := o, pc := (s.core r).pc }] }) :=
  vecIssue_of_runsWord hrun hroom (by rwa [List.append_nil]) rfl (Cluster.reservedFrom_nil _ _) hfaults

/-- Two causes of which neither applies: one that is checked, and the failure of a condition that is met. -/
theorem faults_of_met {p q : Bool} {x y : CoreFault} (hp : p = false) (hq : q = true) : ∀ e ∈ [(p, x), (!q, y)], e.1 = false :=
  List.forall_mem_cons.2 ⟨hp, List.forall_mem_singleton.2 (congrArg not hq)⟩

/-- A VCVT by what it reads at issue: its supplied scale, or nothing (R56, R108). -/
theorem execVcvt_eq {s : State} {r : CoreRef} {gd ga gb : GReg} {s1 s2 : BitVec 5} {sat sup : Bool} {d a b n scale : Nat} {now : List Range}
    (hd : ((s.core r).reg gd.val).toNat = d) (ha : ((s.core r).reg ga.val).toNat = a) (hb : ((s.core r).reg gb.val).toNat = b)
    (hn : cvtCount s1 s2 = n) (hnow : (if vecScaled s2 && sup && inData b 1 then [(b, 1)] else []) = now)
    (hscale : (if now.isEmpty then 0 else ((s.clu (Site.idx r.site)).dataByte r.n.val b).toNat) = scale) :
    execVcvt r gd ga gb s1 s2 sat sup s =
      .next (s.vecIssue r (wordV 0x29 gd ga gb s1.toNat s2.toNat sat sup) (.vcvt s1 s2 d a b sat sup scale) now
        [(cvtFormatBad s1 s2 gb.val sup scale, .format), (!(vecOperand a ((vecFmt s1).bytesFor n) &&
          vecOperand d ((vecFmt s2).bytesFor n) && (!(vecScaled s1 || vecScaled s2) || inData b 1)), .address)]) := by
  subst hd ha hb hn hnow hscale
  rfl

/-- Settles O8: VOP, VCVT without and with a supplied scale, and SPILL, through their common issue. -/
theorem vectorInstructionsEnterTheirQueue : Obligations.VectorInstructionsEnterTheirQueue := by
  intro s r gd ga gb k d a b c queued hroom
  refine ⟨?vop, ?vcvt, ?supplied, ?spill⟩
  case vop =>
    intro fn spec hrun hformat ha hd hb hhaz
    have hmet := Bool.and_eq_true_iff.2 ⟨Bool.and_eq_true_iff.2 ⟨ha, hd⟩, hb⟩
    exact congrArg _ (vecIssue_of_no_read hrun hroom hhaz (faults_of_met hformat hmet))
  case vcvt =>
    intro s1 s2 sat sup hrun hsup hscale hformat ha hd hhaz
    have hmet := Bool.and_eq_true_iff.2 ⟨Bool.and_eq_true_iff.2 ⟨ha, hd⟩, hscale⟩
    refine (execVcvt_eq rfl rfl rfl rfl (now := []) ?_ rfl).trans
      (congrArg _ (vecIssue_of_no_read hrun hroom hhaz (faults_of_met hformat hmet)))
    rw [hsup]; rfl
  case supplied =>
    intro s1 s2 sat scale hrun hval hs2 hin hbad hfree hformat ha hd hhaz
    have hscale : (!(vecScaled s1 || vecScaled s2) || inData b 1) = true := by rw [hin, Bool.or_true]
    have hmet := Bool.and_eq_true_iff.2 ⟨Bool.and_eq_true_iff.2 ⟨ha, hd⟩, hscale⟩
    refine (execVcvt_eq rfl rfl rfl rfl (now := [(b, 1)]) ?_ hval.symm).trans
      (congrArg _ (vecIssue_of_runsWord hrun hroom hhaz ?_ hfree (faults_of_met hformat hmet)))
    · rw [hs2]
      exact if_pos hin
    · simpa using hbad
  case spill =>
    intro tile init hrun htile halign hin hhaz
    have hmet : (d % 64 == 0 && inSp d 2048) = true := by rw [halign, hin]; rfl
    exact congrArg _ (vecIssue_of_no_read hrun hroom hhaz (faults_of_met (decide_eq_false (Nat.not_le.2 htile)) hmet))

/-! ### The illegal word -/

/-- Fetching a word leaves everything of the core but the marks of its instruction memory (R89). -/
theorem core_fetched (s : State) (r : CoreRef) : ∃ l, (s.fetched r).core r = { s.core r with imemSoft := l } := by
  unfold State.fetched
  dsimp only
  split
  · exact ⟨_, (congrArg (fun t => (Tab.get {} t (Site.idx r.site)).getCore r.n.val) (bump_cl _ _ _)).trans (core_modCore _ _ _)⟩
  · exact ⟨_, rfl⟩

/-- Settles O12: the one cause that executing the word 0 has is raised with no effect. -/
theorem illegalWordHaltsTheCore : Obligations.IllegalWordHaltsTheCore := by
  intro s r hissue hsound
  obtain ⟨l, hcore⟩ := core_fetched s r
  have hword : Tab.get 0#32 (s.core r).imem (s.core r).pc.toNat = 0 := by
    simp only [State.mayIssue, Bool.and_eq_true, beq_iff_eq] at hissue
    exact hissue.2
  refine congrArg _ ((issue_faults s r 0 false _ false id .illegal hissue hsound rfl rfl).trans ?_)
  simp only [State.coreFault, State.coreFaultAt, hcore, hword]
  rfl

end Sys2Proof.Machine

/-! ## Transfers

XFER, and what starts, ends and fails the transfers of a cluster (R134 to R138, R206). -/
namespace Sys2Proof.Machine

/-- Some core holds a reservation on what a request reads (R131). -/
def XReq.held (q : XReq) (c : Cluster) : Bool :=
  match q.source with
  | some x => c.reservedFrom 16 [x]
  | none => false

theorem XReq.held_eq_false {c : Cluster} {q : XReq} (h : ∀ x, q.source = some x → c.reservedFrom 16 [x] = false) : q.held c = false := by
  rw [XReq.held]
  split
  · next x hs => exact h x hs
  · rfl

/-- What the DMA engine does with a request that a core of a cluster hands it: it starts in a free slot where no core is stalled,
else the core waits (R135). -/
def State.takeXfer (s : State) (c : Cluster) (i n : Nat) (q : XReq) : State :=
  match c.freeSlot, c.stalled with
  | some k, [] => s.startXfer i n k q
  | _, _ => s.modClu i (fun c => { c.modCore n (fun k => { k with xferWait := true }) with stalled := c.stalled ++ [(n, q)] })

theorem takeXfer_of_free (s : State) {c : Cluster} {k : Nat} (i n : Nat) (q : XReq) (hfree : c.freeSlot = some k) (hnone : c.stalled = []) :
    s.takeXfer c i n q = s.startXfer i n k q := by
  rw [State.takeXfer, hfree, hnone]

theorem takeXfer_of_full (s : State) {c : Cluster} (i n : Nat) (q : XReq) (hfull : c.freeSlot = none) : s.takeXfer c i n q =
    s.modClu i (fun c => { c.modCore n (fun k => { k with xferWait := true }) with stalled := c.stalled ++ [(n, q)] }) := by
  rw [State.takeXfer, hfull]

/-- A core whose request can be read hands it to the DMA engine (R96, R99, R134). -/
theorem execXfer_of_runsWord {s : State} {r : CoreRef} {gd : GReg} {i a : Nat} {q : XReq} (hi : i = Site.idx r.site)
    (ha : a = ((s.core r).reg gd.val).toNat) (hq : q = parseReq ((s.clu i).dataRead r.n.val a 32))
    (hrun : s.runsWord r (wordZ 0x1C gd.val 0)) (hgood : vecOperand a 32 = true) (hhaz : (s.core r).hazard [(a, 32)] [] = false)
    (hbad : (s.clu i).dataBad r.n.val a 32 = false) (hfree : (s.clu i).reservedFrom r.n.val [(a, 32)] = false)
    (hsource : ∀ x, q.source = some x → (s.clu i).reservedFrom 16 [x] = false) : execXfer r gd s =
    .next (((((s.fetched r).correctRead i r.n.val a 32).modCore r Core.advance).takeXfer (s.clu i) i r.n.val q).progress i) := by
  subst hi ha hq
  refine congrArg _ (issue_of_runsWord hrun ?_ ?_ ?_ _)
  · rw [hhaz, Bool.and_false]
  · simp [lastWord_of_runsWord hrun, hbad, hgood]
  · rw [hfree, Bool.false_or]
    exact XReq.held_eq_false hsource

/-- The oldest stalled request starts in a free slot (R135). -/
theorem execXferAccept_of_free {s : State} {x : Site} {i n k : Nat} {q : XReq} {l : List (Nat × XReq)} (hi : i = Site.idx x)
    (hstalled : (s.clu i).stalled = (n, q) :: l) (hfree : (s.clu i).freeSlot = some k) (hclk : s.clocked i = true)
    (hsource : ∀ y, q.source = some y → (s.clu i).reservedFrom 16 [y] = false) : execXferAccept x s =
    .next ((s.fire i (fun c => { c.modCore n (fun k => { k with xferWait := false }) with stalled := l })).startXfer i n k q) := by
  subst hi
  have hmay : (s.clocked (Site.idx x) && !q.held (s.clu (Site.idx x))) = true := by
    rw [hclk, XReq.held_eq_false hsource]; rfl
  simp only [execXferAccept, hstalled, hfree]
  exact if_pos hmay

section complete
variable {s : State} {x : Site} {slot : SlotIx} {i : Nat} {t : Xfer} (hi : i = Site.idx x)
  (hslot : (s.clu i).getSlot slot.val = some t)
include hi hslot

/-- An answered transfer completes: its slot is free, and its token enters DONEQ (R136, R137). -/
theorem execTransferComplete_of_answered (htt : t.tt = []) (hall : t.issue = t.compl) (hreset : (s.clu i).resetting = false) :
    execTransferComplete x slot s =
      if t.req.doneq = 0xFF then .next ((s.fire i (fun c => c.setSlot slot.val none)).bump (offDmaDone i) 1)
      else if ((s.clu i).getQueue t.req.doneq).room = 0 then .next s
      else .next ((s.fire i (fun c => (c.setSlot slot.val none).enqueue t.req.doneq t.req.tag)).bump (offDmaDone i) 1) := by
  subst hi
  have hanswered : (!t.answered || (s.clu (Site.idx x)).resetting) = false := by simp [Xfer.answered, htt, hall, hreset]
  simp only [execTransferComplete, hslot, hanswered, Bool.false_eq_true, if_false]

/-- An exposed transfer without an answer for FAB_LOSS_QUIET fails with cause 5 (R206). -/
theorem execExposedTransferTimeout_of_quiet (hexp : t.exposed = true) (hopen : t.compl ≠ t.issue)
    (hquiet : t.lastAnswer + s.lossQuiet ≤ s.now) : execExposedTransferTimeout x slot s =
    .next ((s.modClu i (fun c => c.setSlot slot.val none)).xferFail i t.core t.req.op 5) := by
  subst hi
  simp [execExposedTransferTimeout, State.slotFail, hslot, hexp, hopen, hquiet]

end complete

/-- Settles O14: the request handed over, accepted, completed and timed out. -/
theorem transfersAreAcceptedAndComplete : Obligations.TransfersAreAcceptedAndComplete := by
  refine ⟨?xfer, ?accept, ?complete, ?timeout⟩
  case xfer =>
    intro s r gd i a q hi ha hq hrun hgood hhaz hbad hres hsource
    have hexec := execXfer_of_runsWord hi ha hq hrun hgood hhaz hbad hres hsource
    refine ⟨fun k hfree hnone => ?_, fun hfull => ?_⟩
    · rwa [takeXfer_of_free _ i _ q hfree hnone] at hexec
    · rwa [takeXfer_of_full _ i _ q hfull] at hexec
  case accept => exact fun s x i n k q l hi hstalled hfree hclk hsource => execXferAccept_of_free hi hstalled hfree hclk hsource
  case complete =>
    intro s x slot i t hi hslot htt hall hreset
    have hexec := execTransferComplete_of_answered hi hslot htt hall hreset
    refine ⟨fun hnone => hexec.trans (if_pos hnone), fun hsome hroom => hexec.trans ?_⟩
    rw [if_neg hsome, if_neg hroom]
  case timeout => exact fun s x slot i t hi hslot hexp hopen hquiet => execExposedTransferTimeout_of_quiet hi hslot hexp hopen hquiet

end Sys2Proof.Machine

/-! ## Launches

LAUNCH on a work ring, and POOL_DISPATCH with the group that it picks (R279, R316 to R319). -/
namespace Sys2Proof.Machine

section launch
variable {s : State} {r : DescRef} {d : Desc} {k : Cfg} (h : s.starts r d 5) (hk : k = s.cfg d.func d.cfgid)
  (hwork : s.onPool d = false) (hplace : d.place = 0) (hloaded : k.loaded = true) (hframe : k.frame = false) (hload : k.load = none)
  (hquiet : (s.prt d.func).quiesced = false)
include h hk hwork hplace hloaded hframe hload hquiet

/-- A LAUNCH of a loaded work configuration with nothing in its way starts a run (R316 to R319). -/
theorem execLaunch_of_idle {u : Run} (hu : u = { desc := some (r.ring.val, r.index), args := d.args 16, train := d.train })
    (hhalt : k.halted = none) (hrun : k.run = none) (hfirst : s.launchBehind d = false) :
    execLaunch r s = .next ((s.begun r).startRun d.func d.cfgid u false) := by
  subst hk hu
  obtain ⟨hring, hindex⟩ := desc_key h.desc_eq
  simp [execLaunch, h.desc_eq, hwork, hload, hquiet, hhalt, hrun, hfirst, beginDesc_of_starts h, State.launchBad, hplace, hloaded, hframe,
    started_eq_begun h.desc_eq, hring, hindex]

/-- A LAUNCH of a halted configuration completes with what halted it (R263, R318). -/
theorem execLaunch_of_halted {p : Report} (hhalt : k.halted = some p) : execLaunch r s =
    .next (s.finishDesc r.ring.val r.index { p with flags := 0, r0 := s.tokensIn k.clusters, r1 := 0 }) := by
  subst hk
  obtain ⟨hring, hindex⟩ := desc_key h.desc_eq
  simp [execLaunch, h.desc_eq, hwork, hload, hquiet, hhalt, beginDesc_of_starts h, State.launchBad, hplace, hloaded, hframe,
    State.launchHalted, hring, hindex]

end launch

/-- Of two groups one is the nearer, so only an empty list has no nearest group. -/
theorem nearer_ne_none (x : Nat × Nat × Nat) (o : Option (Nat × Nat × Nat)) : nearer x o ≠ none := by
  cases o with
  | none => exact Option.some_ne_none x
  | some y => rw [nearer]; split <;> exact Option.some_ne_none _

theorem eq_nil_of_foldr_nearer {l : List (Nat × Nat × Nat)} (h : l.foldr nearer none = none) : l = [] := by
  cases l with
  | nil => rfl
  | cons x l => exact absurd h (nearer_ne_none x _)

/-- The nearest of a list of groups is one of them, with no more hops than any (R279). -/
theorem foldr_nearer_eq_some {l : List (Nat × Nat × Nat)} {x : Nat × Nat × Nat} (h : l.foldr nearer none = some x) :
    x ∈ l ∧ ∀ y ∈ l, x.2.2 ≤ y.2.2 := by
  induction l generalizing x with
  | nil => cases h
  | cons z l ih =>
    rw [List.foldr_cons] at h
    cases hrest : l.foldr nearer none with
    | none =>
      rw [hrest] at h
      cases h
      simp [eq_nil_of_foldr_nearer hrest]
    | some y =>
      obtain ⟨hmem, hmin⟩ := ih hrest
      simp only [hrest, nearer] at h
      split at h
      · next hlt =>
        cases h
        exact ⟨List.mem_cons_of_mem _ hmem, List.forall_mem_cons.2 ⟨hlt.le, hmin⟩⟩
      · next hge =>
        cases h
        exact ⟨List.mem_cons_self, List.forall_mem_cons.2 ⟨le_rfl, fun w hw => (Nat.not_lt.1 hge).trans (hmin w hw)⟩⟩

/-- The group that is picked is a free group of the table, with no more hops than any free group (R279). -/
theorem poolPick_eq_some {s : State} {d : Desc} {n c h : Nat} (hpick : s.poolPick d = some (n, c, h)) :
    (n, c) ∈ s.poolGroups d ∧ s.groupFree d.func c = true ∧ h = s.placeHops d.func c d.place ∧
      ∀ x ∈ s.poolGroups d, s.groupFree d.func x.2 = true → h ≤ s.placeHops d.func x.2 d.place := by
  obtain ⟨hmem, hmin⟩ := foldr_nearer_eq_some hpick
  obtain ⟨⟨m, e⟩, hgroup, heq⟩ := List.mem_filterMap.1 hmem
  obtain ⟨hfree, hpair⟩ := Option.ite_none_right_eq_some.1 heq
  cases hpair
  exact ⟨hgroup, hfree, rfl, fun x hx hxfree => hmin (x.1, x.2, _) (List.mem_filterMap.2 ⟨x, hx, if_pos hxfree⟩)⟩

/-- A pool-ring LAUNCH starts a run of the group that is picked (R279, R316). -/
theorem execPoolDispatch_of_pick {s : State} {r : DescRef} {d : Desc} {n c h : Nat} {u : Run} (hd : s.starts r d 5) (hpool : s.onPool d = true)
    (hquiet : (s.prt d.func).quiesced = false) (hcfg : d.cfgid = 0) (howns : s.owns d.func d.place 1 = true)
    (hpick : s.poolPick d = some (n, c, h))
    (hu : u = { desc := some (r.ring.val, r.index), args := d.args 16, train := d.train, group := n }) :
    execPoolDispatch r s = .next (((s.readTable d).begun r).startRun d.func c u false) := by
  subst hu
  obtain ⟨hring, hindex⟩ := desc_key hd.desc_eq
  simp [execPoolDispatch, hd.desc_eq, hpool, hquiet, hcfg, howns, hpick, beginDesc_of_starts hd, started_eq_begun hd.desc_eq, hring, hindex]

/-- Settles O21: the LAUNCH by its configuration, the dispatch by the group that is picked. -/
theorem launchesStartTheirConfiguration : Obligations.LaunchesStartTheirConfiguration := by
  refine ⟨fun s r d k u h hk hwork hplace hloaded hframe hload hquiet hu => ⟨fun hhalt hrun hfirst => ?_, fun p hhalt => ?_⟩,
    fun s r d n c h u hd hpool hquiet hcfg howns hpick hu => ?dispatch⟩
  · exact execLaunch_of_idle h hk hwork hplace hloaded hframe hload hquiet hu hhalt hrun hfirst
  · exact execLaunch_of_halted h hk hwork hplace hloaded hframe hload hquiet hhalt
  case dispatch =>
    obtain ⟨hgroup, hfree, hhops, hmin⟩ := poolPick_eq_some hpick
    exact ⟨hgroup, hfree, hhops, hmin, execPoolDispatch_of_pick hd hpool hquiet hcfg howns hpick hu⟩

end Sys2Proof.Machine

/-! ## Loads

DRAIN_END, DRAIN_TIMEOUT, CFG_BODY and CONFIG_LOAD_DONE against the phase of the load (R159, R160, R163, R317, R321). -/
namespace Sys2Proof.Machine

/-- Changing a configuration depends on what the change makes of that configuration alone. -/
theorem modCfg_congr {s : State} {f c : Nat} {g h : Cfg → Cfg} (heq : g (s.cfg f c) = h (s.cfg f c)) : s.modCfg f c g = s.modCfg f c h :=
  congrArg (fun k => { s with part := Tab.put {} s.part f { s.prt f with cfg := Tab.put {} (s.prt f).cfg c k } }) heq

/-- Changing the load of a configuration that has one. -/
theorem modLoad_of_load {s : State} {f c : Nat} {l : Load} (h : (s.cfg f c).load = some l) (g : Load → Load) :
    s.modLoad f c g = s.modCfg f c (fun k => { k with load := some (g l) }) :=
  modCfg_congr (by rw [h]; rfl)

/-- A change of a partition's epoch leaves its configurations (R156). -/
theorem cfg_modPart_epoch (s : State) (f c : Nat) (e : BitVec 2) : (s.modPart f (fun p => { p with epoch := e })).cfg f c = s.cfg f c := by
  rw [State.cfg, prt_modPart, if_pos rfl]
  rfl

/-- The epoch phase of a load: a CONFIG_LOAD takes the partition's next epoch, an UNLOAD keeps it (R156). -/
theorem beginEpoch_of_load {s : State} {f c : Nat} {l : Load} (h : (s.cfg f c).load = some l) : s.beginEpoch f c l.unload =
    if l.unload = true then s.modCfg f c (fun k => { k with load := some { l with phase := .epochWait } })
    else (s.modPart f (fun p => { p with epoch := (s.prt f).epoch + 1 })).modCfg f c (fun k =>
      { k with load := some { l with phase := .epochWait, epoch := (s.prt f).epoch + 1 } }) := by
  unfold State.beginEpoch
  split
  · exact modLoad_of_load h _
  · exact modLoad_of_load ((congrArg Cfg.load (cfg_modPart_epoch s f c _)).trans h) _

/-- A packet of a body that has arrived at its core's cluster is written in the load phase of its load, else discarded (R159, R321). -/
theorem execCfgBody_of_arrived {s : State} {c : CoreRef} {dataMem : Bool} {addr len : Nat} {p : Packet}
    (h : s.bodyFor c dataMem addr len = some p) : execCfgBody c dataMem addr len s =
    .next (if ((s.clu (Site.idx c.site)).resetting || !s.loading p.func (Site.idx c.site) p.epoch) = true then s.discardAt (Site.idx c.site) p
      else (s.removePacket p).modCore c (fun k => k.body dataMem addr p.payload)) := by
  simp only [execCfgBody, h]
  exact (apply_ite Host.Outcome.next _ _ _).symm

section loadDone
variable {s t : State} {f : Func} {c : Fin 256} {l : Load} (ht : t = s.enterLoad f.val c.val)
  (hl : (t.cfg f.val c.val).load = some l) (hphase : l.phase = .load)
include ht hl hphase

/-- A load without an uncorrectable line ends once no packet of its bodies is in flight; an UNLOAD waits for neither (R159, R163). -/
theorem execConfigLoadDone_of_sound (hdone : l.unload = true ∨ t.bodiesLeft f.val l = false ∧ t.badRead none l.addr l.len = []) :
    execConfigLoadDone f c s = .next (t.endLoad f.val c.val l) := by
  subst ht
  rcases hdone with hun | ⟨hbodies, hread⟩
  · simp [execConfigLoadDone, hl, hphase, hun]
  · simp [execConfigLoadDone, hl, hphase, hbodies, hread]

/-- An uncorrectable line of the image leaves the clusters unloaded (R262, R317). -/
theorem execConfigLoadDone_of_badRead {x : Nat} {b : List Nat} (hun : l.unload = false) (hbodies : t.bodiesLeft f.val l = false)
    (hread : t.badRead none l.addr l.len = x :: b) : execConfigLoadDone f c s =
    .next (((t.memUEs 7 (x :: b)).unloadCfg f.val c.val (l.sections.map Section.site)).finishDesc l.desc.1 l.desc.2 { status := 0x0301 }) := by
  subst ht
  simp [execConfigLoadDone, hl, hphase, hun, hbodies, hread, rep, stMemUE]

end loadDone

/-- The report of a load: DRAIN_TIMEOUT where its drain ended by timeout with anything in progress or discarded (R160, R325). -/
def Load.report (l : Load) : Report :=
  { status := if l.timedOut = true ∧ (l.dirty = true ∨ l.discarded ≠ 0) then 0x0201 else 0x0000, r0 := l.discarded, r1 := l.sections.length }

/-- A CONFIG_LOAD installs its configuration, an UNLOAD returns its clusters, and the descriptor completes (R159, R317). -/
theorem endLoad_eq (s : State) (f c : Nat) (l : Load) : s.endLoad f c l =
    (if l.unload = true then s.unloadCfg f c (s.cfg f c).clusters
      else if l.frame = true then s.install f c l else (s.install f c l).bindLost f c).finishDesc l.desc.1 l.desc.2 l.report := by
  unfold State.endLoad
  simp only [Load.report, Bool.and_eq_true, Bool.or_eq_true, bne_iff_ne, stDrain, stOk]
  split <;> rfl

/-- Settles O24: each phase of a load, by what ends it. -/
theorem loadsProceedThroughTheirPhases : Obligations.LoadsProceedThroughTheirPhases := by
  refine ⟨?drainEnd, ?drainTimeout, ?body, ?done⟩
  case drainEnd =>
    rintro s f c l e hl hphase rfl hdrained
    rw [← beginEpoch_of_load hl]
    show execDrainEnd f c s = _
    simp only [execDrainEnd, hl]
    exact if_pos ⟨hphase, hdrained⟩
  case drainTimeout =>
    intro s f c l hl hphase hlate
    show execDrainTimeout f c s = _
    simp only [execDrainTimeout, hl]
    exact if_pos ⟨hphase, hlate⟩
  case body =>
    rintro s c dataMem addr len i p rfl hp
    have hexec := execCfgBody_of_arrived hp
    refine ⟨fun hreset hload => hexec.trans (congrArg _ (if_neg ?_)), fun hno => hexec.trans (congrArg _ (if_pos ?_))⟩
    · simp [hreset, hload]
    · simpa using hno
  case done =>
    rintro s t f c l p ht hl hphase rfl
    refine ⟨fun hun hbodies hread => ?_, fun x b hun hbodies hread => execConfigLoadDone_of_badRead ht hl hphase hun hbodies hread,
      fun hun => ?_⟩
    · refine (execConfigLoadDone_of_sound ht hl hphase (.inr ⟨hbodies, hread⟩)).trans (congrArg _ ?_)
      rw [endLoad_eq, hun]
      rfl
    · refine (execConfigLoadDone_of_sound ht hl hphase (.inl hun)).trans (congrArg _ ?_)
      rw [endLoad_eq, hun]
      rfl

end Sys2Proof.Machine

/-! ## Media packets and frame slots

What reaches a stream context, what is decided at a slot, and how runs start and report (R347, R351 to R363). -/
namespace Sys2Proof.Machine

/-! ### Ingest -/

section mediaPacket
variable {s : State} {p : EPort} {m : MediaFrame} (hready : s.ready = true) (hlink : (s.mport p.val).link = .up)
  (hmode : (s.mport p.val).mode = .media)
include hready hlink hmode

/-- A packet that is too long, has a tag that the port does not accept, or is for no context, is counted (R347). -/
theorem execMediaPacket_of_none
    (h : (if m.bytes ≤ 9216 ∧ (s.mport p.val).tagOk m.vlan = true then s.ctxFor p.val m else none) = none) :
    execMediaPacket p m s = .next (s.bump (offRxDisc p.val) 1) := by
  simp [execMediaPacket, hready, hlink, hmode, h]

/-- A packet that the port accepts reaches the context of its destination (R347). -/
theorem execMediaPacket_of_ctx {c : Nat} (hbytes : m.bytes ≤ 9216) (htag : (s.mport p.val).tagOk m.vlan = true)
    (hctx : s.ctxFor p.val m = some c) : execMediaPacket p m s = .next (s.ingest c m) := by
  simp [execMediaPacket, hready, hlink, hmode, hbytes, htag, hctx]

end mediaPacket

section ingest
variable {s : State} {c : Nat} {m : MediaFrame}

/-- A packet of no frame, or with a wrong payload type or segment, counts as bad (R352). -/
theorem ingest_of_bad (h : (s.ctx c).frameOf (s.ptpTime (s.ctx c).tport) m.ts = none ∨ m.pt.toNat ≠ (s.ctx c).field 6 1 ∨
    3 < m.segs.length ∨ m.segs.any (s.ctx c).segBad = true) : s.ingest c m = s.bump (ctxStatus c + 0x20) 1 := by
  rw [State.ingest]
  cases hframe : (s.ctx c).frameOf (s.ptpTime (s.ctx c).tport) m.ts with
  | none => rfl
  | some n =>
    refine if_pos ?_
    rw [hframe] at h
    simpa [or_assoc] using h

variable {n : Nat} (hframe : (s.ctx c).frameOf (s.ptpTime (s.ctx c).tport) m.ts = some n) (hpt : m.pt.toNat = (s.ctx c).field 6 1)
  (hsegs : m.segs.length ≤ 3) (hgood : m.segs.any (s.ctx c).segBad = false)
include hframe hpt hsegs hgood

/-- A good packet of a frame: a second copy is dropped, one of a frame that is past or held is late, any other is stored (R351 to R353). -/
theorem ingest_of_frame : s.ingest c m =
    if ((s.ctx c).red && ((s.ctx c).getRecv n).seqs.contains m.seq) = true then s
    else if (s.ctx c).past n = true then s.latePkt c n m false
    else if (s.ctx c).held n = true then s.latePkt c n m true
    else if ((s.ctx c).getRecv n).seqs.contains m.seq = true then s
    else s.storePkt c n m := by
  have hok : (m.pt.toNat != (s.ctx c).field 6 1 || 3 < m.segs.length || m.segs.any (s.ctx c).segBad) = false := by
    simpa [hpt, hgood] using hsegs
  simp only [State.ingest, hframe]
  exact if_neg (Bool.eq_false_iff.1 hok)

/-- A second copy is dropped: of a redundant stream always, else while the frame is neither past nor held (R353). -/
theorem ingest_of_copy (hseen : ((s.ctx c).getRecv n).seqs.contains m.seq = true)
    (h : (s.ctx c).red = true ∨ (s.ctx c).past n = false ∧ (s.ctx c).held n = false) : s.ingest c m = s := by
  rw [ingest_of_frame hframe hpt hsegs hgood, hseen, Bool.and_true]
  rcases h with hred | ⟨hpast, hheld⟩
  · rw [if_pos hred]
  · rw [hpast, hheld]
    simp

/-- A packet that is no second copy of a redundant stream is late once its frame is past or held, and only the latter is broken by it
(R352). -/
theorem ingest_of_late {spoil : Bool} (hnew : ¬ ((s.ctx c).red = true ∧ ((s.ctx c).getRecv n).seqs.contains m.seq = true))
    (h : if spoil = true then (s.ctx c).past n = false ∧ (s.ctx c).held n = true else (s.ctx c).past n = true) :
    s.ingest c m = s.latePkt c n m spoil := by
  rw [ingest_of_frame hframe hpt hsegs hgood, if_neg (by rwa [Bool.and_eq_true])]
  cases spoil with
  | false => exact if_pos h
  | true =>
    obtain ⟨hpast, hheld⟩ := h
    rw [hpast, if_neg Bool.false_ne_true, if_pos hheld]

/-- A new packet of a frame that is neither past nor held is stored (R351 to R353). -/
theorem ingest_of_new (hpast : (s.ctx c).past n = false) (hheld : (s.ctx c).held n = false)
    (hnew : ((s.ctx c).getRecv n).seqs.contains m.seq = false) : s.ingest c m = s.storePkt c n m := by
  rw [ingest_of_frame hframe hpt hsegs hgood, hpast, hheld, hnew, Bool.and_false]
  simp only [Bool.false_eq_true, if_false]

end ingest

/-! ### Slots and runs -/

section slotDecide
variable {s u : State} {c : StreamIx} {b : Binding} (hbound : (s.ctx c.val).bound = some b) (hready : s.ready = true)
  (hreset : s.resetting b.func = false) (hunbind : b.unbind = none) (hdue : (s.ctx c.val).slotAt b.next ≤ s.ptpTime (s.ctx c.val).tport)
  (hu : u = (s.modCtx c.val (fun x => { x with decided := some b.next })).modBound c.val (fun y =>
    { y with next := b.next + 1, sinceRise := y.sinceRise.map (· + 1) }))
include hready hreset hunbind hdue

/-- The slot of a bound frame is decided once its time has come (R354). -/
theorem slotDecide_due :
    (!s.ready || s.resetting b.func || b.unbind.isSome || decide (s.ptpTime (s.ctx c.val).tport < (s.ctx c.val).slotAt b.next)) = false := by
  rw [hready, hreset, hunbind, decide_eq_false (Int.not_lt.2 hdue)]
  rfl

include hbound hu

/-- At S_n a frame that nothing drops waits for a run (R359). -/
theorem execSlotDecide_of_kept (hkept : s.dropReason (s.ctx c.val) b b.next = none) :
    execSlotDecide c s = .next (u.modBound c.val (fun y => { y with waiting := y.waiting ++ [b.next] })) := by
  subst hu
  simp only [execSlotDecide, hbound, slotDecide_due hready hreset hunbind hdue, hkept, Bool.false_eq_true, if_false]

/-- At S_n a frame is dropped for its reason, which is counted and reported; an overrun raises L (R359, R363). -/
theorem execSlotDecide_of_dropped {r : Drop} (hr : s.dropReason (s.ctx c.val) b b.next = some r) : execSlotDecide c s =
    .next (((if r = .overrun then u.modBound c.val (fun y => y.rise ((s.ctx c.val).field 5 1)) else u).bump (ctxStatus c.val + 0x10)
      1).frameReport c.val b.next 0x0801 0 r.code 0) := by
  subst hu
  simp only [execSlotDecide, hbound, slotDecide_due hready hreset hunbind hdue, hr, Bool.false_eq_true, if_false, stDropped]

end slotDecide

/-- The first waiting frame starts a run: its slot record is written where the page is the function's, and the start is broadcast (R358). -/
theorem execSlotRunStart_of_waiting {s v : State} {c : StreamIx} {x : Ctx} {b : Binding} {m : Nat} {l : List Nat} {u : Run}
    (hx : x = s.ctx c.val) (hbound : x.bound = some b) (hwait : b.waiting = m :: l) (hmay : s.mayStart b = true)
    (hu : u = { stream := some c.val, args := b.args })
    (hv : v = if s.owns b.func (x.field 120 8) 64 = true then
      (s.demand none (x.field 120 8) 64 true none).devStore 9 (x.field 120 8) (x.slotRecord m) else s) :
    execSlotRunStart c s = .next ((v.modBound c.val (fun b =>
      { b.startLevel (s.ptpTime x.tport - x.slotAt m) (x.field 56 4) (x.field 5 1) with waiting := l, running := some m })).startRun
        b.func b.cfgid u true) := by
  subst hx hu hv
  simp only [execSlotRunStart, hbound, hwait, hmay, Bool.not_true, Bool.false_eq_true, if_false]

/-- The broadcast of a frame-slot run sets the cores of a cluster that it reaches (R120, R222). -/
theorem execSlotStartArrive_of_run {s : State} {x : Site} {f : Nat} {r : Run} (hmem : Site.idx x ∈ s.fab.starts)
    (hrun : s.runOf (Site.idx x) = some (f, r)) (hstream : r.stream.isSome = true) : execSlotStartArrive x s =
    .next ((s.modFab (fun b => { b with starts := b.starts.filter (· != Site.idx x) })).beginAt (Site.idx x) r.args) := by
  simp [execSlotStartArrive, hmem, hrun, hstream]

/-! ### Ancillary data -/

section anc
variable {s : State} {c : StreamIx} {x : Ctx} {b : Binding} {a : AncWait} {l : List AncWait} {buf : Nat} (hx : x = s.ctx c.val)
  (hbound : x.bound = some b) (hanc : b.anc = a :: l)
  (hdue : x.field 60 4 = 0 ∨ x.slotAt a.frame + 2000 * x.field 60 4 ≤ s.ptpTime x.tport) (hbuf : buf = x.resultBuf (a.frame % 4))
include hdue

/-- The results of a run leave at S_n + HOLD at the earliest (R360). -/
theorem not_held_back : ¬ (x.field 60 4 ≠ 0 ∧ s.ptpTime x.tport < x.slotAt a.frame + 2000 * x.field 60 4) := by
  rintro ⟨hhold, hearly⟩
  exact absurd hearly (Int.not_lt.2 (hdue.resolve_left hhold))

include hx hbound hanc hbuf

/-- An uncorrectable line of the result buffer is met and reported (R262). -/
theorem execAncTransmit_of_bad {bad : List Nat} (hbad : bad ≠ []) (hread : s.badRead none buf (x.field 112 4) = bad) :
    execAncTransmit c s = .next ((s.memUEs 9 bad).ancReport c.val a { a.report with status := 0x0301, flags := 0 }) := by
  subst hx hbuf
  simp only [execAncTransmit, hbound, hanc, if_neg (not_held_back hdue), hread, if_pos hbad, stMemUE]

variable (hread : s.badRead none buf (x.field 112 4) = [])
include hread

/-- The packets of a sound result buffer leave, and the run's report is written (R360, R361). -/
theorem execAncTransmit_of_packets {w : List (List W8)} (howns : s.owns b.func buf (x.field 112 4) = true)
    (hw : s.ancOf x a.frame = some w) (hsize : x.field 112 4 ≠ 0) : execAncTransmit c s =
    .next (((s.demand none buf (x.field 112 4) false none).sendAnc c.val a.frame (ancGroup [] w)).ancReport c.val a a.report) := by
  subst hx hbuf
  simp only [execAncTransmit, hbound, hanc, if_neg (not_held_back hdue), if_neg (not_not.2 hread), if_pos howns, hw, if_neg hsize]

/-- A result buffer whose packets overrun it is reported (R362). -/
theorem execAncTransmit_of_broken (hw : s.ancOf x a.frame = none) :
    execAncTransmit c s = .next (s.ancReport c.val a { a.report with status := 0x0102, flags := 0 }) := by
  subst hx hbuf
  simp only [execAncTransmit, hbound, hanc, if_neg (not_held_back hdue), if_neg (not_not.2 hread), hw, ite_self, stIllegal]

end anc

/-- Settles O39: packets by where they go, slots by the reason of a drop, and runs by what starts and ends them. -/
theorem frameSlotsRunAndReport : Obligations.FrameSlotsRunAndReport := by
  refine ⟨?refused, ?late, ?stored, ?decide, ?runStart, ?arrive, ?anc⟩
  case refused =>
    intro s p m hready hlink hmode h
    refine execMediaPacket_of_none hready hlink hmode (if_neg ?_)
    rcases h with hlong | htag
    · simp [Nat.not_le.2 hlong]
    · simp [htag]
  case late =>
    intro s p m c hready hlink hmode hbytes htag hctx
    have hexec : exec (.mediaPacket p m) s = .next (s.ingest c m) := execMediaPacket_of_ctx hready hlink hmode hbytes htag hctx
    rw [hexec]
    refine ⟨fun hbad => congrArg _ (ingest_of_bad hbad), fun n hframe hpt hsegs hgood => ⟨fun hseen hdrop => ?_, fun hnew =>
      ⟨fun hpast => ?_, fun hpast hheld => ?_⟩⟩⟩
    · exact congrArg _ (ingest_of_copy hframe hpt hsegs hgood hseen hdrop)
    · exact congrArg _ (ingest_of_late (spoil := false) hframe hpt hsegs hgood hnew hpast)
    · exact congrArg _ (ingest_of_late (spoil := true) hframe hpt hsegs hgood hnew ⟨hpast, hheld⟩)
  case stored =>
    intro s p m hready hlink hmode hbytes htag
    refine ⟨fun hctx => execMediaPacket_of_none hready hlink hmode (by rw [hctx, ite_self]), ?_⟩
    exact fun c n hctx hframe hpt hsegs hgood hpast hheld hnew => (execMediaPacket_of_ctx hready hlink hmode hbytes htag hctx).trans
      (congrArg _ (ingest_of_new hframe hpt hsegs hgood hpast hheld hnew))
  case decide =>
    rintro s u c b n hbound rfl hready hreset hunbind hdue hu
    have hdrop (r : Drop) (hr) : exec (.slotDecide c) s = _ := execSlotDecide_of_dropped hbound hready hreset hunbind hdue hu (r := r) hr
    refine ⟨execSlotDecide_of_kept hbound hready hreset hunbind hdue hu, fun r hr hne => ?_, fun hr => ?_⟩
    · rw [hdrop r hr, if_neg hne]
    · rw [hdrop .overrun hr, if_pos rfl]
      rfl
  case runStart =>
    intro s c x b m l u hx hbound hwait hmay hu v hv
    exact execSlotRunStart_of_waiting hx hbound hwait hmay hu hv
  case arrive =>
    rintro s x u f r hmem rfl hrun hstream
    exact execSlotStartArrive_of_run hmem hrun hstream
  case anc =>
    intro s c x b a l buf hx hbound hanc hdue hbuf
    refine ⟨fun bad hbad hread => execAncTransmit_of_bad hx hbound hanc hdue hbuf hbad hread, fun w hread howns hw hsize => ?_,
      fun hread hw => execAncTransmit_of_broken hx hbound hanc hdue hbuf hread hw⟩
    exact execAncTransmit_of_packets hx hbound hanc hdue hbuf hread howns hw hsize

end Sys2Proof.Machine

/-! ## Result integrity

Crumb comparisons, pairs, quarantine and lineage windows (R397 to R415). -/
namespace Sys2Proof.Machine

/-! ### Captures and verdicts -/

section captures
variable {s : State} {x : Site} {k : Capture}

/-- The oldest capture is compared and counted: a clean verdict, or a result that is kept for a second check (R401). -/
theorem execCrumbCompare_of_capture (hk : (s.clu (Site.idx x)).caps.find? (fun k => k.first.isNone) = some k)
    (hchecker : (s.clu (Site.idx x)).checker.isSome = true) {t : State}
    (ht : t = (s.bump offSampled 1).countCompared (fieldOf (Site.idx x))) (b : List W8) : execCrumbCompare x b s =
    .next (if b = k.orig then t.cleanVerdict (Site.idx x) k else t.modClu (Site.idx x) (fun c =>
      { c with caps := c.caps.map (fun y => if y = k then { y with first := some b } else y) })) := by
  subst ht
  have hchecks : ¬ (s.clu (Site.idx x)).checker.isNone = true := by rw [Option.isNone_eq_false_iff.2 hchecker]; exact Bool.false_ne_true
  simp only [execCrumbCompare, hk, if_neg hchecks]
  exact (apply_ite Host.Outcome.next _ _ _).symm

variable {a : List W8} (hk : (s.clu (Site.idx x)).caps.find? (fun k => k.first.isSome) = some k)
include hk

/-- The second checker decides between the original and the first checker (R401). -/
theorem execCrumbSecondCheck_of_capture (ha : k.first = some a) (b : List W8) : execCrumbSecondCheck x b s =
    .next (s.giveVerdict (Site.idx x) k (if b = a then .original else if b = k.orig then .checker else .undecided)) := by
  simp only [execCrumbSecondCheck, hk, ha, Option.some.injEq]

/-- Without a second checker in time the capture stays undecided (R401). -/
theorem execCrumbUndecided_of_late (hlate : k.since + 100 ≤ s.now) :
    execCrumbUndecided x s = .next (s.giveVerdict (Site.idx x) k .undecided) := by
  simp only [execCrumbUndecided, hk, if_pos hlate]

end captures

/-- A comparison counts for its own field (R399). -/
theorem compared_countCompared (s : State) (fld f : Nat) : Tab.get 0 (s.countCompared fld).integ.compared f =
    if f = fld then Tab.get 0 s.integ.compared f + 1 else Tab.get 0 s.integ.compared f := by
  show Tab.get 0 (Tab.put 0 s.integ.compared fld (Tab.get 0 s.integ.compared fld + 1)) f = _
  rw [Tab.get_put]
  split
  · next h => rw [h]
  · rfl

/-- At the end of a second of a field its counts begin afresh, and too few comparisons raise the event (R399). -/
theorem execIntegRateLow_of_due {s : State} {fld : FieldIx} {a b : Nat} (hready : s.ready = true)
    (hdue : Tab.get 0 s.integ.since fld.val + 1000000 ≤ s.now) (ha : Tab.get 0 s.integ.checked fld.val = a)
    (hb : Tab.get 0 s.integ.compared fld.val = b) : execIntegRateLow fld a b s =
    .next (if 256 * b < a then (s.rateAgain fld.val).raiseWide 0x0021 fld.val else s.rateAgain fld.val) := by
  subst ha hb
  have hnow : (!s.ready || decide (s.now < Tab.get 0 s.integ.since fld.val + 1000000) ||
      Tab.get 0 s.integ.checked fld.val != Tab.get 0 s.integ.checked fld.val ||
      Tab.get 0 s.integ.compared fld.val != Tab.get 0 s.integ.compared fld.val) = false := by
    simpa [hready] using hdue
  rw [execIntegRateLow, hnow, if_neg Bool.false_ne_true, State.rateLow]
  simp only [decide_eq_true_eq]
  exact (apply_ite Host.Outcome.next _ _ _).symm

/-! ### Pairs -/

section pairs
variable {s : State} {x : Site} {i : Nat} {k : PairInfo} {p : Packet} {n : Nat} {rest : List (Packet × Nat)} (hi : i = Site.idx x)
  (hpair : (s.clu i).pair = some k) (hheld : k.held = (p, n) :: rest)
include hi hpair hheld

/-- The oldest packet of the primary leaves where the twin's is the same, else the pair halts (R404, R405). -/
theorem execPairCompare_of_counterpart {q : Packet} (hq : k.twin.find? (fun q => p.counterpart q) = some q) : execPairCompare x s =
    .next (if p.same q = true then (s.modClu i (fun c =>
      { c with pair := some { k with held := rest, twin := dropFirst (fun r => r == q) k.twin } })).inject p else s.pairHalt i k) := by
  subst hi
  simp only [execPairCompare, hpair, hheld, hq]
  exact (apply_ite Host.Outcome.next _ _ _).symm

/-- A packet of the primary that waits for PAIR_WAIT without a counterpart halts the pair (R405). -/
theorem execPairWaitTimeout_of_late {f : Nat} (howner : (s.clu i).owner = some f) (hlate : n + s.pairWait f ≤ s.now)
    (hnone : ∀ q ∈ k.twin, p.counterpart q = false) : execPairWaitTimeout x s = .next (s.pairHalt i k) := by
  subst hi
  have hany : k.twin.any (fun q => p.counterpart q) = false := List.any_eq_false.2 (fun q hq => Bool.eq_false_iff.1 (hnone q hq))
  simp [execPairWaitTimeout, hpair, howner, hheld, hlate, hany]

end pairs

/-! ### Quarantine and windows -/

section quarantine
variable {s : State} {f : Func} {i : Nat} (hpf : s.reachesPF f.val = true)
include hpf

/-- Without a site that INTEG_QUAR_SITE names, both commands are refused (R415). -/
theorem execQuarantine_of_no_site (hsite : s.quarSite = none) : execQuarantine f s = .next (s.quarDone 1 0x0102) := by
  simp [execQuarantine, hpf, hsite, stIllegal]

theorem execReturnToSpare_of_no_site (hsite : s.quarSite = none) : execReturnToSpare f s = .next (s.quarDone 2 0x0102) := by
  simp [execReturnToSpare, hpf, hsite, stIllegal]

variable (hsite : s.quarSite = some i)
include hsite

/-- An enabled cluster is taken out of use, any other is refused (R413, R416). -/
theorem execQuarantine_of_site : execQuarantine f s = .next (if s.enabled i = true then
      ((((s.setSite i .quarantined).haltClusterRun i { status := 0x0701 }).dropCaptures (· == i)).assignCheckers.mapDirty).quarDone 1 0x0000
    else s.quarDone 1 0x0102) := by
  simp only [execQuarantine, hpf, hsite, Bool.not_true, Bool.false_eq_true, if_false]
  exact (apply_ite Host.Outcome.next _ _ _).symm

/-- A quarantined cluster that no configuration uses is cleared and becomes a spare, any other is refused (R119, R141, R413). -/
theorem execReturnToSpare_of_site : execReturnToSpare f s = .next (if s.siteState i = .quarantined ∧ (s.clu i).cfg = none then
      (((((s.clearCluster i).modClu i (fun c => { c with owner := none })).setSite i .spare).assignCheckers).mapDirty).quarDone 2 0x0000
    else s.quarDone 2 0x0102) := by
  simp only [execReturnToSpare, hpf, hsite, Bool.not_true, Bool.false_eq_true, if_false]
  exact (apply_ite Host.Outcome.next _ _ _).symm

end quarantine

/-- A function selects the window of a cluster that it may see, and UNFREEZE unfreezes it (R409, R415). -/
theorem execIntegLinSelWrite_of_seen {s u : State} {f : Func} {v : W32} {x y : Nat} (hreach : s.reaches f.val = true)
    (hx : x = bits v.toNat 15 8) (hy : y = bits v.toNat 7 0) (hx160 : x < 160) (hy160 : y < 160)
    (hsees : isPF f.val = true ∨ (s.clu (siteIdx x y)).owner = some f.val)
    (hu : u = { s with integ := { s.integ with linSel := Tab.put 0 s.integ.linSel f.val (v &&& 0xFFFF#32) } }) :
    execIntegLinSelWrite f v s =
      .next (if bitOf v.toNat 31 = true then u.modClu (siteIdx x y) (fun c => { c with linFrozen := false }) else u) := by
  subst hx hy hu
  have hok : (!s.reaches f.val || !(decide (bits v.toNat 15 8 < 160) && decide (bits v.toNat 7 0 < 160) && (isPF f.val ||
      (s.clu (siteIdx (bits v.toNat 15 8) (bits v.toNat 7 0))).owner == some f.val))) = false := by
    rcases hsees with h | h <;> simp [hreach, hx160, hy160, h]
  simp only [execIntegLinSelWrite, hok, Bool.false_eq_true, if_false]
  exact (apply_ite Host.Outcome.next _ _ _).symm

/-- Settles O43: each check by what it compares, each verdict by what it marks, and the commands by their guards. -/
theorem integrityChecksGiveVerdicts : Obligations.IntegrityChecksGiveVerdicts := by
  refine ⟨?compare, ?second, ?verdict, ?rate, compared_countCompared, ?noSite, ?pair, ?wait, ?halt, ?site, ?window⟩
  case compare =>
    rintro s x k b hk hchecker fld rfl
    have hexec := execCrumbCompare_of_capture hk hchecker rfl b
    exact ⟨fun hsame => hexec.trans (congrArg _ (if_pos hsame)), fun hdiff => hexec.trans (congrArg _ (if_neg hdiff))⟩
  case second =>
    intro s x k a b hk ha hne
    have hexec : exec (.crumbSecondCheck x b) s = _ := execCrumbSecondCheck_of_capture hk ha b
    rw [hexec]
    refine ⟨fun hfirst => ?_, fun horig => ?_, fun hfirst horig => ?_, execCrumbUndecided_of_late hk⟩
    · rw [if_pos hfirst]
    · rw [if_neg (fun hfirst => hne (hfirst.symm.trans horig)), if_pos horig]
    · rw [if_neg hfirst, if_neg horig]
  case verdict =>
    rintro s t i k rfl
    refine ⟨rfl, fun v hv => ?_⟩
    rcases hv with rfl | rfl <;> rfl
  case rate =>
    rintro s u fld a b hready hdue ha hb rfl
    have hexec := execIntegRateLow_of_due hready hdue ha hb
    exact ⟨fun hlow => hexec.trans (congrArg _ (if_pos hlow)), fun hmet => hexec.trans (congrArg _ (if_neg (Nat.not_lt.2 hmet)))⟩
  case noSite => exact fun s f hpf hsite => ⟨execQuarantine_of_no_site hpf hsite, execReturnToSpare_of_no_site hpf hsite⟩
  case pair =>
    intro s x i k p q n rest hi hpair hheld hq
    have hexec := execPairCompare_of_counterpart hi hpair hheld hq
    exact ⟨fun hsame => hexec.trans (congrArg _ (if_pos hsame)),
      fun hdiff => hexec.trans (congrArg _ (if_neg (Bool.eq_false_iff.1 hdiff)))⟩
  case wait => exact fun s x i f k p n rest hi hpair howner hheld hlate hnone =>
    execPairWaitTimeout_of_late hi hpair hheld howner hlate hnone
  case halt =>
    rintro s i k stop rfl
    rfl
  case site =>
    intro s f i hpf hsite
    have hquar := execQuarantine_of_site hpf hsite
    have hspare := execReturnToSpare_of_site hpf hsite
    refine ⟨fun hon => hquar.trans (congrArg _ (if_pos hon)), fun hoff => hquar.trans (congrArg _ (if_neg (Bool.eq_false_iff.1 hoff))),
      fun hstate hcfg => hspare.trans (congrArg _ (if_pos ⟨hstate, hcfg⟩)), fun hno => hspare.trans (congrArg _ (if_neg ?_))⟩
    rintro ⟨hstate, hcfg⟩
    exact hno.elim (· hstate) (· hcfg)
  case window =>
    intro s u f v x y hreach hx hy hx160 hy160 hsees hu
    have hexec := execIntegLinSelWrite_of_seen hreach hx hy hx160 hy160 hsees hu
    exact ⟨fun hon => hexec.trans (congrArg _ (if_pos hon)), fun hoff => hexec.trans (congrArg _ (if_neg (Bool.eq_false_iff.1 hoff)))⟩

end Sys2Proof.Machine

/-! ## The state after reset

What the registers that are written hold at reset, and what is read off them (R140, R394, R415, R479). -/
namespace Sys2Proof.Machine

/-- A register that nothing has written since reset holds its reset value (R140). -/
theorem reset_reg (off : Nat) : State.reset.reg off = regReset off := by
  rw [State.reg, show State.reset.regs = [] from rfl, Tab.get_nil]
  exact BitVec.zero_xor

/-- PAIR_WAIT of every function is 20 at reset (R415). -/
theorem regReset_pairWait {f : Nat} (hf : f < 64) : regReset (integBase + 0x104 + 16 * f) = 20 := by
  simp (disch := (simp only [integBase, memBase, fabBase, towBase, pwrBase]; omega)) only [regReset, if_neg, if_pos]

/-- Every function waits 20 µs for the packet of its twin at reset (R415). -/
theorem reset_pairWait {f : Nat} (hf : f < 64) : State.reset.pairWait f = 20 := by
  rw [State.pairWait, reset_reg, regReset_pairWait hf]
  rfl

/-- PWR_REWAX_CTL at reset: the guard in bits 31:24, the retirement bin in 23:16, the interval in hours in 15:0 (R479). -/
theorem reset_rewaxCtl : State.reset.reg offRewaxCtl = 0x051800A8 := reset_reg _

/-- The guard, the retirement bin and the interval lie within their limits at reset, so that they act as they stand (R479). -/
theorem reset_guard : State.reset.guard = 5 := by rw [State.guard, reset_rewaxCtl]; decide

theorem reset_retireBin : State.reset.retireBin = 24 := by rw [State.retireBin, reset_rewaxCtl]; decide

theorem reset_rewaxInterval : State.reset.rewaxInterval = 168 := by rw [State.rewaxInterval, reset_rewaxCtl]; decide

/-- Settles O58: what stands in no table holds its default, and the registers hold their reset values. -/
theorem resetHoldsWhatTheSpecGives : Obligations.ResetHoldsWhatTheSpecGives := by
  refine ⟨rfl, rfl, rfl, rfl, ?port, ?cluster, ?ring, ?page, ?counter, ?field, rfl, rfl, rfl, rfl, rfl, rfl, reset_reg _, reset_rewaxCtl,
    fun _ => reset_pairWait, reset_guard, reset_retireBin, reset_rewaxInterval⟩
  case port => exact fun h => rfl
  case cluster => exact fun i => ⟨rfl, rfl⟩
  case ring => exact fun r => rfl
  case page => exact fun p => rfl
  case counter => exact fun o => rfl
  case field => exact fun k => ⟨rfl, rfl⟩

end Sys2Proof.Machine

/-! ## Steering units

What a steering unit does when its inputs have tokens and its outputs have room: one equation per command of a unit (R150). -/
namespace Sys2Proof.Machine

/-- What a control token selects, by its data word (R150). -/
theorem ite_isTrue {α : Sort*} (t : Token) (a b : α) : (if t.isTrue = true then a else b) = if t.data = 0 then b else a := by
  simp [Token.isTrue]

section steering
variable {s : State} {x : Site} {u : SteerIx} {i : Nat} {t d : Token} (hi : i = Site.idx x) (hsteers : s.steers i = true)
include hi hsteers

/-- A branch passes the data token to the output that the control token selects (R150). -/
theorem execBranchFire_of_ready (hkind : ((s.clu i).getSteer u.val).kind = .branch) (ht : (s.clu i).steerHead u.val 0 = some t)
    (hd : (s.clu i).steerHead u.val 1 = some d) (hroom : (s.clu i).steerRoom u.val (if t.data = 0 then 4 else 5) = true) :
    execBranchFire x u s = .next (s.fire i (fun c =>
      ((c.steerTake u.val 0).steerTake u.val 1).steerPut u.val (if t.data = 0 then 4 else 5) d.data)) := by
  subst hi
  simp only [execBranchFire, ht, hd, ite_isTrue, hsteers, hkind, hroom]
  rfl

/-- A merge takes the data token of the input that the control token selects (R150). -/
theorem execMergeFire_of_ready (hkind : ((s.clu i).getSteer u.val).kind = .merge) (ht : (s.clu i).steerHead u.val 0 = some t)
    (hd : (s.clu i).steerHead u.val (if t.data = 0 then 1 else 2) = some d) (hroom : (s.clu i).steerRoom u.val 4 = true) :
    execMergeFire x u s = .next (s.fire i (fun c =>
      ((c.steerTake u.val 0).steerTake u.val (if t.data = 0 then 1 else 2)).steerPut u.val 4 d.data)) := by
  subst hi
  simp only [execMergeFire, ht, ite_isTrue, hd, hsteers, hkind, hroom]
  rfl

/-- An idle rate-repeat unit consumes both tokens and, unless the count is 0, emits the first copy and holds the token for the others
(R150). -/
theorem execRateRepeatFire_of_ready (hkind : ((s.clu i).getSteer u.val).kind = .rateRepeat)
    (hidle : ((s.clu i).getSteer u.val).count = 0) (ht : (s.clu i).steerHead u.val 0 = some t)
    (hd : (s.clu i).steerHead u.val 1 = some d) (hroom : (s.clu i).steerRoom u.val 4 = true) :
    execRateRepeatFire x u s = .next (s.fire i (fun c =>
      if t.count = 0 then (c.steerTake u.val 0).steerTake u.val 1
      else (((c.steerTake u.val 0).steerTake u.val 1).steerPut u.val 4 d.data).modSteer u.val (fun v =>
        { v with count := t.count - 1, held := if t.count = 1 then none else some d }))) := by
  subst hi
  simp only [execRateRepeatFire, ht, hd, hsteers, hkind, hidle, hroom]
  rfl

/-- A rate-repeat unit with copies outstanding emits one (R150). -/
theorem execRateRepeatEmit_of_ready (hkind : ((s.clu i).getSteer u.val).kind = .rateRepeat)
    (hheld : ((s.clu i).getSteer u.val).held = some d) (hcount : 0 < ((s.clu i).getSteer u.val).count)
    (hroom : (s.clu i).steerRoom u.val 4 = true) :
    execRateRepeatEmit x u s = .next (s.fire i (fun c => (c.steerPut u.val 4 d.data).modSteer u.val (fun v =>
      { v with count := v.count - 1, held := if v.count = 1 then none else some d }))) := by
  subst hi
  simp only [execRateRepeatEmit, hheld, hsteers, hkind, hcount, hroom]
  rfl

/-- A rate-skip unit with count 0 consumes the control token alone (R150). -/
theorem execRateSkipFire_of_zero (hkind : ((s.clu i).getSteer u.val).kind = .rateSkip)
    (hidle : ((s.clu i).getSteer u.val).count = 0) (ht : (s.clu i).steerHead u.val 0 = some t) (hzero : t.count = 0) :
    execRateSkipFire x u s = .next (s.fire i (fun c => c.steerTake u.val 0)) := by
  subst hi
  simp only [execRateSkipFire, hsteers, hkind, hidle, ht, hzero]
  rfl

/-- An idle rate-skip unit passes the first of n tokens (R150). -/
theorem execRateSkipFire_of_ready (hkind : ((s.clu i).getSteer u.val).kind = .rateSkip)
    (hidle : ((s.clu i).getSteer u.val).count = 0) (ht : (s.clu i).steerHead u.val 0 = some t) (hcount : t.count ≠ 0)
    (hd : (s.clu i).steerHead u.val 1 = some d) (hroom : (s.clu i).steerRoom u.val 4 = true) :
    execRateSkipFire x u s = .next (s.fire i (fun c =>
      (((c.steerTake u.val 0).steerTake u.val 1).steerPut u.val 4 d.data).modSteer u.val (fun v => { v with count := t.count - 1 }))) := by
  subst hi
  simp only [execRateSkipFire, hsteers, hkind, hidle, ht, if_neg hcount, hd, hroom]
  rfl

/-- A rate-skip unit with tokens to skip discards one (R150). -/
theorem execRateSkipDiscard_of_ready (hkind : ((s.clu i).getSteer u.val).kind = .rateSkip)
    (hcount : 0 < ((s.clu i).getSteer u.val).count) (hd : (s.clu i).steerHead u.val 1 = some d) :
    execRateSkipDiscard x u s = .next (s.fire i (fun c =>
      (c.steerTake u.val 1).modSteer u.val (fun v => { v with count := v.count - 1 }))) := by
  subst hi
  simp only [execRateSkipDiscard, hsteers, hkind, hcount, hd]
  rfl

/-- An idle carry unit passes the entry token and starts to loop (R150). -/
theorem execCarryEnter_of_ready (hkind : ((s.clu i).getSteer u.val).kind = .carry)
    (hidle : ((s.clu i).getSteer u.val).looping = false) (hd : (s.clu i).steerHead u.val 1 = some d)
    (hroom : (s.clu i).steerRoom u.val 4 = true) :
    execCarryEnter x u s = .next (s.fire i (fun c =>
      ((c.steerTake u.val 1).steerPut u.val 4 d.data).modSteer u.val (fun v => { v with looping := true }))) := by
  subst hi
  simp only [execCarryEnter, hd, hsteers, hkind, hidle, hroom]
  rfl

/-- A looping carry unit passes the loop's token on round or out, as the control token says (R150). -/
theorem execCarryLoop_of_ready (hkind : ((s.clu i).getSteer u.val).kind = .carry)
    (hloop : ((s.clu i).getSteer u.val).looping = true) (ht : (s.clu i).steerHead u.val 0 = some t)
    (hd : (s.clu i).steerHead u.val 2 = some d) (hroom : (s.clu i).steerRoom u.val (if t.data = 0 then 5 else 4) = true) :
    execCarryLoop x u s = .next (s.fire i (fun c =>
      (((c.steerTake u.val 0).steerTake u.val 2).steerPut u.val (if t.data = 0 then 5 else 4) d.data).modSteer u.val
        (fun v => { v with looping := t.isTrue }))) := by
  subst hi
  simp only [execCarryLoop, ht, hd, ite_isTrue, hsteers, hkind, hloop, hroom]
  rfl

end steering

/-- Settles O10: each unit by its one equation, the rates with and without a count of 0. -/
theorem steeringUnitsFire : Obligations.SteeringUnitsFire := by
  refine ⟨?branch, ?merge, ?repeatFire, ?repeatEmit, ?skipFire, ?skipDiscard, ?enter, ?loop⟩
  case branch => exact fun s x u i t d hi hs hkind ht hd hroom => execBranchFire_of_ready hi hs hkind ht hd hroom
  case merge => exact fun s x u i t d hi hs hkind ht hd hroom => execMergeFire_of_ready hi hs hkind ht hd hroom
  case repeatFire =>
    intro s x u i t d hi hs hkind hidle ht hd hroom
    have hexec := execRateRepeatFire_of_ready hi hs hkind hidle ht hd hroom
    refine ⟨fun hzero => ?_, fun hcount => ?_⟩
    · simp only [show t.count = 0 from hzero, if_true] at hexec
      exact hexec
    · simp only [show t.count ≠ 0 from hcount, if_false] at hexec
      exact hexec
  case repeatEmit => exact fun s x u i d hi hs hkind hheld hcount hroom => execRateRepeatEmit_of_ready hi hs hkind hheld hcount hroom
  case skipFire => exact fun s x u i t hi hs hkind hidle ht =>
    ⟨fun hzero => execRateSkipFire_of_zero hi hs hkind hidle ht hzero,
      fun d hcount hd hroom => execRateSkipFire_of_ready hi hs hkind hidle ht hcount hd hroom⟩
  case skipDiscard => exact fun s x u i d hi hs hkind hcount hd => execRateSkipDiscard_of_ready hi hs hkind hcount hd
  case enter => exact fun s x u i d hi hs hkind hidle hd hroom => execCarryEnter_of_ready hi hs hkind hidle hd hroom
  case loop => exact fun s x u i t d hi hs hkind hloop ht hd hroom => execCarryLoop_of_ready hi hs hkind hloop ht hd hroom

end Sys2Proof.Machine

/-! ## Tokens and credits between clusters

Token packets as they leave and arrive, credits as they come back, and the watchdog of a launch (R144, R145, R153, R157, R404). -/
namespace Sys2Proof.Machine

/-- Credited tokens of an outbound queue leave in one packet (R144, R145). -/
theorem execTokenSend_of_credited {s : State} {x : Site} {q : Fin 128} {n : Fin 8} {i j f : Nat} {v : Queue} (hi : i = Site.idx x)
    (hv : v = (s.clu i).getQueue q.val) (hremote : s.remoteOf i v = some j) (hown : (s.clu i).owner = some f)
    (hroute : s.routing i = true) (hcap : v.cap ≠ 0) (hout : v.cons = 0xA0) (htoks : n.val + 1 ≤ v.toks.length)
    (hcred : n.val + 1 ≤ v.credits) (htt : s.ttQueue i q.val = none) (hreset : (s.clu i).resetting = false) :
    execTokenSend x q n s = .next ((s.fire i (fun c => c.modQueue q.val (fun w => w.sendOut (n.val + 1)))).sendFrom i
      { dx := siteX j, dy := siteY j, sx := x.x.val, sy := x.y.val, typ := .token, vc := v.vc.toNat, func := f,
        epoch := (s.clu i).epoch, seq := v.seq, arg := v.rq.toNat, payload := tokenBytes (v.toks.take (n.val + 1)),
        pos := .source i none }) := by
  subst hi hv
  simp [execTokenSend, hremote, hown, hroute, hcap, hout, htoks, hcred, htt, hreset]

section tokenArrive
variable {s : State} {i : Nat} {p : Packet}

/-- The tokens of a packet are stored by sequence number in the queue that it names (R145). -/
def Packet.store (p : Packet) (c : Cluster) : Cluster :=
  c.modQueue (p.arg % 128) (fun q => q.arrive p.seq ((payloadWords p.payload).map (fun w => { data := w, epoch := p.epoch })))

/-- Tokens of the cluster's epoch are stored (R145). -/
theorem tokensReach_of_epoch (h : p.epoch = (s.clu i).epoch) : s.tokensReach i p = (s.removePacket p).fire i p.store :=
  if_neg (by simpa using h)

/-- Tokens of another epoch are discarded and counted (R157). -/
theorem tokensReach_of_stale (h : p.epoch ≠ (s.clu i).epoch) :
    s.tokensReach i p = (s.removePacket p).staleTokens i (payloadWords p.payload).length p.epoch :=
  if_pos (by simpa using h)

/-- A cluster without a configuration, in reset or quarantined discards the packet (R157). -/
theorem tokenArrive_of_shut (h : (s.clu i).cfg.isNone = true ∨ (s.clu i).resetting = true ∨ s.barred i = true) :
    s.tokenArrive i p = s.discardAt i p :=
  if_pos (by simpa only [Bool.or_eq_true, or_assoc] using h)

section takes
variable (hcfg : (s.clu i).cfg.isSome = true) (hreset : (s.clu i).resetting = false) (hbar : s.barred i = false)
include hcfg hreset hbar

theorem not_shut : ¬ ((s.clu i).cfg.isNone || (s.clu i).resetting || s.barred i) = true := by
  simp [Option.ne_none_iff_isSome, hcfg, hreset, hbar]

/-- A packet reaches a loaded cluster alone unless a twin has its epoch too (R145, R404). -/
theorem tokenArrive_alone (h : ∀ j, s.twinOf i = some j → p.epoch = (s.clu i).epoch → p.epoch ≠ (s.clu j).epoch) :
    s.tokenArrive i p = s.tokensReach i p := by
  rw [State.tokenArrive, if_neg (not_shut hcfg hreset hbar)]
  cases htwin : s.twinOf i with
  | none => rfl
  | some j => exact if_pos (by simpa [or_iff_not_imp_left] using h j htwin)

/-- A packet of the epoch of a loaded cluster and of its twin is stored at both (R145, R404). -/
theorem tokenArrive_with_twin {j : Nat} (htwin : s.twinOf i = some j) (hi : p.epoch = (s.clu i).epoch) (hj : p.epoch = (s.clu j).epoch) :
    s.tokenArrive i p = ((s.removePacket p).fire i p.store).fire j p.store := by
  have hsame : ¬ (p.epoch != (s.clu i).epoch || p.epoch != (s.clu j).epoch) = true := by simp [← hi, ← hj]
  rw [State.tokenArrive, if_neg (not_shut hcfg hreset hbar), htwin, tokensReach_of_epoch hi]
  exact if_neg hsame

end takes

end tokenArrive

/-- TOKEN is the arrival of its packet (R145). -/
theorem execToken_of_arrived {s : State} {id i : Nat} {p : Packet} (h : s.arrived id .token = some (p, i)) :
    execToken id s = .next (s.tokenArrive i p) := by
  simp only [execToken, h]

/-- An inbound queue with a credit owed returns it to the queue that feeds it, with the cluster's epoch (R145). -/
theorem execCreditReturn_of_owed {s : State} {x : Site} {q : Fin 128} {i j k : Nat} (hi : i = Site.idx x) (hroute : s.routing i = true)
    (hin : ((s.clu i).getQueue q.val).prod = 0xA0) (howed : 0 < ((s.clu i).getQueue q.val).owed)
    (hsender : s.senderOf i q.val = some (j, k)) :
    execCreditReturn x q s = .next ((s.modClu i (fun c => c.modQueue q.val (fun v => { v with owed := v.owed - 1 }))).modFab
      (fun f => { f with credits := f.credits ++ [{ site := j, q := k, epoch := (s.clu i).epoch, src := i }] })) := by
  subst hi
  simp only [execCreditReturn, hroute, hin, howed, hsender]
  rfl

/-- A cluster takes a credit for a queue: it is of its epoch, and the queue is loaded and its partition not in reset (R145). -/
def Cluster.takesCredit (c : Cluster) (k : Credit) (q : Nat) : Bool :=
  k.epoch == c.epoch && c.cfg.isSome && !c.resetting && (c.getQueue q).cap != 0

/-- The credit at the head of those on their way arrives: it is added to its queue, or dropped (R145, R218). -/
theorem execCreditReceive_of_head {s : State} {x : Site} {q : Fin 128} {i : Nat} {k : Credit} {l : List Credit} (hi : i = Site.idx x)
    (hcredits : s.fab.credits = k :: l) (hsite : k.site = i) (hq : k.q = q.val) (hheld : s.creditHeld k.src i = false) :
    execCreditReceive x q s = .next (
      if (s.clu i).takesCredit k q.val = true then (s.modFab (fun f => { f with credits := l })).modClu i
        (fun c => c.modQueue q.val (fun v => { v with credits := v.credits + 1 }))
      else s.modFab (fun f => { f with credits := l })) := by
  subst hi
  have hmine : (k.site == Site.idx x && k.q == q.val && !s.creditHeld k.src (Site.idx x)) = true := by simp [hsite, hq, hheld]
  simp only [execCreditReceive, State.modFab, hcredits, List.find?_cons, dropFirst, hmine, if_true]
  exact (apply_ite Host.Outcome.next _ _ _).symm

/-- Cycles without progress add up to the watchdog's limit, at which the launch halts (R153, R154). -/
theorem execSteerStall_of_unfinished {s : State} {x : Site} {cycles i f k : Nat} (hi : i = Site.idx x) (hown : (s.clu i).owner = some f)
    (hcfg : (s.clu i).cfg = some k) (hroute : s.routing i = true) (hclk : s.clocked i = true) (hrun : (s.clu i).unfinished = true)
    (hload : (s.cfg f k).load = none) (hhalt : (s.cfg f k).halted = none) :
    execSteerStall x cycles s =
      if 2 ^ (s.clu i).wdogExp ≤ (s.clu i).wdog + cycles then
        .next ((s.modClu i (fun c => { c with wdog := 2 ^ c.wdogExp })).haltRun f k
          { status := stStall, source := 3, cx := x.x.val, cy := x.y.val })
      else .next (s.modClu i (fun c => { c with wdog := (s.clu i).wdog + cycles })) := by
  subst hi
  simp only [execSteerStall, hown, hcfg, hroute, hclk, hrun, hload, hhalt]
  rfl

/-- Settles O11: tokens sent, a packet by the cluster and epoch that it meets, credits returned and received, and the watchdog by its
limit. -/
theorem tokensAndCreditsTravel : Obligations.TokensAndCreditsTravel := by
  refine ⟨?send, ?token, ?creditReturn, ?creditReceive, ?stall⟩
  case send => exact fun s x q n i j f v hi hv hremote hown hroute hcap hout htoks hcred htt hreset =>
    execTokenSend_of_credited hi hv hremote hown hroute hcap hout htoks hcred htt hreset
  case token =>
    rintro s id i p g harr rfl
    have hexec : exec (.token id) s = .next (s.tokenArrive i p) := execToken_of_arrived harr
    rw [hexec]
    refine ⟨fun hshut => congrArg _ (tokenArrive_of_shut hshut), fun hcfg hreset hbar => ⟨fun hstale => ?_, fun hep =>
      ⟨fun hnone => ?_, fun j htwin => ⟨fun hj => ?_, fun hj => ?_⟩⟩⟩⟩
    · rw [tokenArrive_alone hcfg hreset hbar fun _ _ hep => absurd hep hstale, tokensReach_of_stale hstale]
    · rw [tokenArrive_alone hcfg hreset hbar (by simp [hnone]), tokensReach_of_epoch hep]
      rfl
    · exact congrArg _ (tokenArrive_with_twin hcfg hreset hbar htwin hep hj)
    · have halone : ∀ j', s.twinOf i = some j' → p.epoch = (s.clu i).epoch → p.epoch ≠ (s.clu j').epoch := by simpa [htwin, hep] using hj
      rw [tokenArrive_alone hcfg hreset hbar halone, tokensReach_of_epoch hep]
      rfl
  case creditReturn => exact fun s x q i j k hi hroute hin howed hsender => execCreditReturn_of_owed hi hroute hin howed hsender
  case creditReceive =>
    intro s x q i k l hi hcredits hsite hq hheld
    have hexec := execCreditReceive_of_head hi hcredits hsite hq hheld
    refine ⟨fun hep hcfg hreset hcap => hexec.trans (congrArg _ (if_pos ?_)), fun hdrop => hexec.trans (congrArg _ (if_neg ?_))⟩
    · simp [Cluster.takesCredit, hep, hcfg, hreset, hcap]
    · rcases hdrop with hep | hcfg | hreset
      · simp [Cluster.takesCredit, hep]
      · simp [Cluster.takesCredit, Option.isNone_iff_eq_none.1 hcfg]
      · simp [Cluster.takesCredit, hreset]
  case stall =>
    intro s x cycles i f k hi hown hcfg hroute hclk hrun hload hhalt
    have hexec := execSteerStall_of_unfinished (cycles := cycles) hi hown hcfg hroute hclk hrun hload hhalt
    exact ⟨fun hlt => hexec.trans (if_neg (Nat.not_le.2 hlt)), fun hle => hexec.trans (if_pos hle)⟩

end Sys2Proof.Machine

/-! ## Barriers

BAR and BARRIER_RELEASE (R220, R221). -/
namespace Sys2Proof.Machine

/-- A member of a barrier of its configuration arrives at it and waits (R220). -/
theorem execBar_of_member {s : State} {r : CoreRef} {index : BitVec 10} {f k : Nat} {b : Barrier} {mine : Barrier → Bool}
    (hrun : s.runsWord r (wordZ 0x1A 0 index.toNat)) (hown : (s.clu (Site.idx r.site)).owner = some f)
    (hcfg : (s.clu (Site.idx r.site)).cfg = some k) (hb : b ∈ s.fab.barriers)
    (hmine : mine = (fun x => x.index == index.toNat && x.members.contains (Site.idx r.site, r.n.val) && x.key == cfgKey f k))
    (hmember : mine b = true) : execBar r index s = .next ((((s.fetched r).modFab (fun x => { x with barriers := x.barriers.map (fun y =>
      if mine y = true then { y with arrived := y.arrived ++ [(Site.idx r.site, r.n.val)] } else y) })).modCore r
      (fun c => { c.advance with barWait := some index })).progress (Site.idx r.site)) := by
  have hsome : (!s.fab.barriers.any mine) = false := by simpa using ⟨b, hb, hmember⟩
  subst hmine
  simp only [execBar, hown, hcfg]
  exact congrArg _ (issue_of_runsWord hrun rfl (by simp [lastWord_of_runsWord hrun]) hsome _)

/-- A barrier at which every member has arrived, and whose tree no recomputation changes, releases its members (R220, R221). -/
theorem execBarrierRelease_of_arrived {s : State} {f : Func} {cfg : Fin 256} {index : BitVec 10} {b : Barrier} {mine : Barrier → Bool}
    (hmine : mine = (fun x => x.key == cfgKey f.val cfg.val && x.index == index.toNat)) (hfind : s.fab.barriers.find? mine = some b)
    (hall : ∀ m ∈ b.members, m ∈ b.arrived)
    (htree : b.wafer = true → s.fab.recomputing = false ∨ ∀ m ∈ b.members, s.treeChanged m.1 = false) :
    execBarrierRelease f cfg index s = .next ((s.modFab (fun x => { x with barriers := x.barriers.map (fun y =>
      if mine y = true then { y with arrived := [] } else y) })).each b.members State.releaseCore) := by
  have harrived : b.members.all (fun m => b.arrived.contains m) = true := by simpa using hall
  have hopen : (b.wafer && s.fab.recomputing && b.members.any (fun m => s.treeChanged m.1)) = false := by
    rw [Bool.and_assoc, Bool.and_eq_false_imp]
    intro hwafer
    rcases htree hwafer with hidle | hsame
    · rw [hidle, Bool.false_and]
    · rw [List.any_eq_false.2 (fun m hm => by simp [hsame m hm]), Bool.and_false]
  subst hmine
  simp only [execBarrierRelease, hfind]
  exact if_pos (by rw [harrived, hopen]; rfl)

/-- Settles O13: an arrival and a release. -/
theorem barriersHoldAndRelease : Obligations.BarriersHoldAndRelease :=
  ⟨fun _ _ _ _ _ _ _ => execBar_of_member, fun _ _ _ _ _ _ => execBarrierRelease_of_arrived⟩

end Sys2Proof.Machine

/-! ## Packets at their destination

Requests at a controller and at a cluster, and what their answers do (R133, R138, R194, R203 to R206, R252, R262, R270, R285, R286,
R338). -/
namespace Sys2Proof.Machine

/-! ### Answers to a cluster -/

section answers
variable {s : State} {id i : Nat} {p : Packet} {x : Xfer}

/-- A cluster out of reset whose transfer holds its slot takes an answer. -/
theorem answer_taken (hreset : (s.clu i).resetting = false) (hslot : (s.clu i).slotOf p = some x) :
    ((s.clu i).resetting || ((s.clu i).slotOf p).isNone) = false := by
  simp [hreset, hslot]

/-- A cluster in reset, or whose transfer no longer holds its slot, takes none. -/
theorem answer_lost (h : (s.clu i).resetting = true ∨ (s.clu i).slotOf p = none) :
    ((s.clu i).resetting || ((s.clu i).slotOf p).isNone) = true := by
  simpa using h

/-- RD_DATA writes its bytes to scratchpad and answers its transfer (R133, R204). -/
theorem execRdData_of_slot {a : Nat} (harr : s.arrived id .rdData = some (p, i)) (ha : a = p.arg % 2 ^ 21)
    (hslot : (s.clu i).slotOf p = some x) (hreset : (s.clu i).resetting = false)
    (hfree : (s.clu i).heldAt a p.payload.length = false) : execRdData id s = .next ((s.removePacket p).both i (fun c =>
      { ((c.spWrite a p.payload).tagGlen a p.payload.length p.glen).answer p s.now with wdog := 0 })) := by
  subst ha
  simp only [execRdData, harr, answer_taken hreset hslot, hfree, Bool.false_eq_true, if_false]

/-- WR_ACK answers its transfer (R204). -/
theorem execWrAck_of_slot (harr : s.arrived id .wrAck = some (p, i)) (hreset : (s.clu i).resetting = false)
    (hslot : (s.clu i).slotOf p = some x) : execWrAck id s = .next ((s.removePacket p).both i (fun c => c.answer p s.now)) := by
  simp only [execWrAck, harr, answer_taken hreset hslot, Bool.false_eq_true, if_false]

/-- UNREACH fails its transfer with cause 5 (R138, R205). -/
theorem execUnreach_of_slot (harr : s.arrived id .unreach = some (p, i)) (hreset : (s.clu i).resetting = false)
    (hslot : (s.clu i).slotOf p = some x) : execUnreach id s = .next ((s.removePacket p).slotFail i p.tag 5) := by
  simp only [execUnreach, harr, answer_taken hreset hslot, Bool.false_eq_true, if_false]

section lost
variable (h : (s.clu i).resetting = true ∨ (s.clu i).slotOf p = none)
include h

/-- RD_DATA that no transfer takes is discarded and counted (R206, R338). -/
theorem execRdData_of_lost (harr : s.arrived id .rdData = some (p, i)) : execRdData id s = .next (s.discardAt i p) := by
  simp only [execRdData, harr, answer_lost h, if_true]

/-- WR_ACK that no transfer takes is discarded and counted (R206, R338). -/
theorem execWrAck_of_lost (harr : s.arrived id .wrAck = some (p, i)) : execWrAck id s = .next (s.discardAt i p) := by
  simp only [execWrAck, harr, answer_lost h, if_true]

/-- UNREACH that no transfer takes is discarded and counted (R206, R338). -/
theorem execUnreach_of_lost (harr : s.arrived id .unreach = some (p, i)) : execUnreach id s = .next (s.discardAt i p) := by
  simp only [execUnreach, harr, answer_lost h, if_true]

end lost

end answers

/-! ### Requests -/

section read
variable {s : State} {id j a n : Nat} {p : Packet} (harr : s.arrived id .rdReq = some (p, j)) (ha : a = p.arg % 2 ^ 42)
  (hn : n = leNat ((p.payload.drop 4).take 2))
include harr

/-- A read from a resetting partition is discarded (R338). -/
theorem execRdReq_of_resetting (hreset : s.resetting p.func = true) : execRdReq id s = .next (s.discardCrust p) := by
  simp only [execRdReq, harr, hreset, if_true]

include ha hn

/-- A read outside the pages of its function fails with cause 2 (R138). -/
theorem execRdReq_of_foreign (hreset : s.resetting p.func = false) (howns : s.owns p.func a n = false) :
    execRdReq id s = .next ((s.removePacket p).failSource p 2) := by
  subst ha hn
  simp only [execRdReq, harr, hreset, howns, Bool.false_eq_true, if_false, Bool.not_false, if_true]

section owned
variable (hreset : s.resetting p.func = false) (howns : s.owns p.func a n = true)
include hreset howns

/-- A read of an uncorrectable line logs it and fails with cause 4 (R138, R262). -/
theorem execRdReq_of_badLines (hbad : s.badRead (some (s.packetView p a)) a n ≠ []) :
    execRdReq id s = .next ((((s.removePacket p).demand (some (s.packetView p a)) a n false (some (fieldOf p.src))).memUEs 0
      (s.badRead (some (s.packetView p a)) a n)).failSource p 4) := by
  subst ha hn
  simp only [execRdReq, harr, hreset, howns, Bool.false_eq_true, if_false, Bool.not_true]
  exact if_pos (bne_iff_ne.2 hbad)

/-- A read of sound lines is answered with the bytes in the packet's view (R252, R270, R286). -/
theorem execRdReq_of_sound (hgood : s.badRead (some (s.packetView p a)) a n = []) :
    execRdReq id s = .next (((s.removePacket p).demand (some (s.packetView p a)) a n false (some (fieldOf p.src))).inject
      (p.reply (s.crustOut (s.stackOf a / 2) p.src) .rdData (leNat (p.payload.take 4)) (s.devRead (some (s.packetView p a)) a n))) := by
  subst ha hn
  simp only [execRdReq, harr, hreset, howns, hgood, Bool.false_eq_true, if_false, Bool.not_true, bne_self_eq_false]

end owned
end read

section write
variable {s : State} {id i a : Nat} {p : Packet} (harr : s.arrived id .wr = some (p, i))
include harr

section controller
variable (hcrust : p.toCrust = true) (ha : a = p.arg % 2 ^ 42)
include hcrust

/-- A write from a resetting partition is discarded (R338). -/
theorem execWr_of_resetting (hreset : s.resetting p.func = true) : execWr id s = .next (s.discardCrust p) := by
  simp only [execWr, harr, hcrust, hreset, Bool.not_true, Bool.false_eq_true, if_false, if_true]

include ha

/-- A write outside the pages of its function, or to a sealed page, fails with cause 2 (R138, R285). -/
theorem execWr_of_foreign (hreset : s.resetting p.func = false)
    (hbad : s.owns p.func a p.payload.length = false ∨ s.touchesSealed a p.payload.length = true) :
    execWr id s = .next ((s.removePacket p).failSource p 2) := by
  subst ha
  simp only [execWr, harr, hcrust, hreset, Bool.not_true, Bool.false_eq_true, if_false]
  exact if_pos (by simpa using hbad)

/-- A write within the pages of its function is stored and acknowledged (R194, R252, R270). -/
theorem execWr_of_owned (hreset : s.resetting p.func = false) (howns : s.owns p.func a p.payload.length = true)
    (hopen : s.touchesSealed a p.payload.length = false) :
    execWr id s = .next (((((s.removePacket p).demand none a p.payload.length true (some (fieldOf p.src))).devStore 0 a p.payload).wrote
      p).inject (p.reply (s.crustOut (s.stackOf a / 2) p.src) .wrAck p.payload.length [])) := by
  subst ha
  simp only [execWr, harr, hcrust, hreset, howns, hopen, Bool.not_true, Bool.or_self, Bool.false_eq_true, if_false]

end controller

/-- A write to a cluster is what its scratchpad does with it. -/
theorem execWr_of_cluster (hcluster : p.toCrust = false) (ha : a = p.arg % 2 ^ 21) : execWr id s = .next (s.putReach i p a) := by
  subst ha
  simp only [execWr, harr, hcluster, Bool.not_false, if_true]

end write

/-- A write to a cluster in reset, or of another function, is discarded (R338). -/
theorem putReach_of_foreign {s : State} {i : Nat} {p : Packet} (a : Nat)
    (h : (s.clu i).resetting = true ∨ (s.clu i).owner ≠ some p.func) : s.putReach i p a = s.discardAt i p :=
  if_pos (by simpa using h)

/-- A write to a cluster of its function is stored in scratchpad and acknowledged (R133, R194, R203). -/
theorem putReach_of_owned {s : State} {i a : Nat} {p : Packet} (hreset : (s.clu i).resetting = false)
    (hown : (s.clu i).owner = some p.func) (hfree : (s.clu i).heldAt a p.payload.length = false) : s.putReach i p a =
    (((s.removePacket p).both i (fun c => (c.spWrite a p.payload).tagGlen a p.payload.length p.glen)).wrote p).sendFrom i
      (p.reply i .wrAck p.payload.length []) := by
  simp only [State.putReach, hreset, hown, hfree, bne_self_eq_false, Bool.or_self, Bool.false_eq_true, if_false]

/-- Settles O15: each request by where it arrives and what holds there, each answer by whether its transfer takes it. -/
theorem packetsTakeEffectAtTheirDestination : Obligations.PacketsTakeEffectAtTheirDestination := by
  refine ⟨?read, ?readAnswer, ?write, ?writeCluster, ?answer, ?lost⟩
  case read => exact fun s id j a n p harr ha hn => ⟨execRdReq_of_resetting harr, execRdReq_of_foreign harr ha hn,
    execRdReq_of_badLines harr ha hn, execRdReq_of_sound harr ha hn⟩
  case readAnswer => exact fun s id i a p x => execRdData_of_slot
  case write => exact fun s id i a p harr hcrust ha => ⟨execWr_of_resetting harr hcrust, execWr_of_foreign harr hcrust ha,
    execWr_of_owned harr hcrust ha⟩
  case writeCluster =>
    intro s id i a p harr hcluster ha
    have hexec : exec (.wr id) s = .next (s.putReach i p a) := execWr_of_cluster harr hcluster ha
    rw [hexec]
    exact ⟨fun h => congrArg _ (putReach_of_foreign a h), fun hreset hown hfree => congrArg _ (putReach_of_owned hreset hown hfree)⟩
  case answer => exact fun s id i p x hreset hslot => ⟨fun harr => execWrAck_of_slot harr hreset hslot,
    fun harr => execUnreach_of_slot harr hreset hslot⟩
  case lost => exact fun s id i p h => ⟨execRdData_of_lost h, execWrAck_of_lost h, execUnreach_of_lost h⟩

end Sys2Proof.Machine

/-! ## Links and routers

Flits and pulses at a link, grants at an output and packets that change lane (R192, R197, R198, R201, R208, R209). -/
namespace Sys2Proof.Machine

/-! ### Links -/

section links
variable {s : State} {l : LinkEnd} (hroute : s.routing (Site.idx l.site) = true) (hup : (s.link (linkEndKey l)).state = .up)
include hroute hup

/-- A good flit is taken, and a bad one starts a replay (R192). -/
theorem execFlitReceive_of_sent (hsent : 0 < (s.link (linkEndKey l)).unacked) (good : Bool) : execFlitReceive l good s =
    if good = true then
      .next ((s.modLink (linkEndKey l) (fun k => { k with nextFlit := k.nextFlit + 1, replaying := false })).takeFlit (Site.idx l.site) l.port)
    else .next ((s.modLink (linkEndKey l) (fun k =>
      { k with replaying := true, replays := s.now :: recent k.replays 10000 s.now })).bump (offReplay (fieldOf (Site.idx l.site))) 1) := by
  simp only [execFlitReceive, hroute, hup, hsent, beq_self_eq_true, decide_true, Bool.and_self, if_true]

/-- Cycles without a pulse add up to 256, at which the port is dead (R192). -/
theorem execPortDead_of_up (cycles : Nat) : execPortDead l cycles s =
    if 256 ≤ (s.link (linkEndKey l)).quiet + cycles then
      .next ((s.modLink (linkEndKey l) (fun k => { k with quiet := 256 })).linkDead l)
    else .next (s.modLink (linkEndKey l) (fun k => { k with quiet := k.quiet + cycles })) := by
  simp only [execPortDead, hroute, hup, beq_self_eq_true, Bool.and_self, if_true]

end links

/-! ### Grants -/

section grant
variable {s u : State} {x : Site} {o : OutPort} {i : Nat} {p : Packet} (hi : i = Site.idx x) (hroute : s.routing i = true)
  (hu : u = s.letIn i) (hpick : u.pick (outNo i o) (u.fab.flight.filter (u.readyFor i o)) = some p)
include hi hroute hu hpick

/-- The packet that the arbiter picks goes onto the link (R208, R209). -/
theorem execOutputGrant_of_wire {j : Nat} {d : Dir} {e : Option Dir} (hhop : hopTo p i o = some (.wire j d e)) : execOutputGrant x o s =
    .next (((u.grantCounts (outNo i o) (u.fab.flight.filter (u.readyFor i o)) p).countLate i p p.waited).sendWire p j d e) := by
  subst hi hu
  simp only [execOutputGrant, hroute, hpick, hhop, Bool.not_true, Bool.false_eq_true, if_false]

/-- The packet that the arbiter picks is delivered (R208, R209). -/
theorem execOutputGrant_of_delivered {j : Nat} (hhop : hopTo p i o = some (.delivered j)) : execOutputGrant x o s =
    .next (((u.grantCounts (outNo i o) (u.fab.flight.filter (u.readyFor i o)) p).countLate i p p.waited).movePacket p
      { p with pos := .delivered j, waited := 0 }) := by
  subst hi hu
  simp only [execOutputGrant, hroute, hpick, hhop, Bool.not_true, Bool.false_eq_true, if_false]

end grant

/-! ### Lanes -/

section runout
variable {s : State} {id cycles i w : Nat} {inp : Option Dir} {p d u : Packet} (hp : s.packet id = some p) (hpos : p.pos = .router i inp)
  (hfold : p.typ ≠ .fold) (htt : p.typ ≠ .ttData) (hhead : s.atHead p = true) (hroute : s.routing i = true) (hw : w = p.waited + cycles)
  (hd : d = { p with waited := 0, lane := .laneD }) (hu : u = { p with waited := 0, lane := .laneU })

/-- The cycles after which a packet leaves its normal lane (R198). -/
def State.runoutLimit (s : State) (p : Packet) : Nat := if p.vc = 1 then max s.runoutWait 64 else s.runoutWait

/-- Lane U takes the packet: no map is being recomputed and it has room (R201, R208). -/
def State.openU (s : State) (u : Packet) (pos : Pos) : Bool := !s.fab.recomputing && s.roomFor u pos

include hp hpos hfold htt hhead hroute hw hu

/-- A packet of lane D stays while its destination is clean or lane U is shut (R197, R201). -/
theorem execRunoutMove_of_laneD (hlane : p.lane = .laneD) : execRunoutMove id cycles s =
    .next (if (s.fab.installed.clean i p.dest || !s.openU u p.pos) = true then s.setPacket p { p with waited := w } else s.movePacket p u) := by
  subst hw hu
  simp only [execRunoutMove, hp, hpos, hfold, htt, hhead, hroute, hlane]
  exact (apply_ite Host.Outcome.next _ _ _).symm

include hd

/-- A packet of the normal lane that has no output, or has waited to its limit, moves to lane D where its destination is clean and
else to lane U, when that lane takes it; else it waits on (R197, R198). -/
theorem execRunoutMove_of_normal (hlane : p.lane = .normal) : execRunoutMove id cycles s = .next (
    if (s.output p i).isNone = true ∨ s.runoutLimit p ≤ w then
      if s.fab.installed.clean i p.dest = true ∧ (s.output p i).isSome = true then
        if s.roomFor d p.pos = true then ((s.movePacket p d).bump (offRunout (fieldOf i)) 1).countLate i p w
        else s.setPacket p { p with waited := w }
      else if s.openU u p.pos = true then ((s.movePacket p u).bump (offRunout (fieldOf i)) 1).countLate i p w
      else s.setPacket p { p with waited := w }
    else s.setPacket p { p with waited := w }) := by
  subst hw hd hu
  simp [execRunoutMove, hp, hpos, hfold, htt, hhead, hroute, hlane, State.runoutLimit, State.openU, apply_ite Host.Outcome.next]

end runout

/-- Settles O16: a link's flits and pulses, an output's grant, and a packet's lane by its wait and its tables. -/
theorem linksAndRoutersMoveFlitsAndPackets : Obligations.LinksAndRoutersMoveFlitsAndPackets := by
  refine ⟨?flit, fun s l => rfl, ?dead, ?grant, ?runout⟩
  case flit =>
    intro s l hroute hup hsent
    exact ⟨execFlitReceive_of_sent hroute hup hsent true, execFlitReceive_of_sent hroute hup hsent false⟩
  case dead =>
    intro s l cycles hroute hup
    have hexec := execPortDead_of_up hroute hup cycles
    exact ⟨fun hlt => hexec.trans (if_neg (Nat.not_le.2 hlt)), fun hle => hexec.trans (if_pos hle)⟩
  case grant =>
    rintro s u t x o i p hi hroute hu hpick rfl
    exact ⟨fun j d e => execOutputGrant_of_wire hi hroute hu hpick, fun j => execOutputGrant_of_delivered hi hroute hu hpick⟩
  case runout =>
    intro s id cycles i w inp p d u hp hpos hfold htt hhead hroute hw hd hu
    refine ⟨fun hlane => ?normal, fun hlane => ?laneD⟩
    case normal =>
      have hexec : exec (.runoutMove id cycles) s = _ := execRunoutMove_of_normal hp hpos hfold htt hhead hroute hw hd hu hlane
      rw [hexec]
      refine ⟨fun hout hlt => ?below, fun hout hle hclean => ?limit, fun hstuck => ?stuck⟩
      case below =>
        exact congrArg _ (if_neg (not_or.2 ⟨ne_true_of_eq_false (Option.isNone_eq_false_iff.2 hout), Nat.not_le.2 hlt⟩))
      case limit =>
        have hleaves : (s.output p i).isNone = true ∨ s.runoutLimit p ≤ w := .inr hle
        rw [if_pos hleaves, if_pos ⟨hclean, hout⟩]
        exact ⟨fun hroom => congrArg _ (if_pos hroom), fun hfull => congrArg _ (if_neg (ne_true_of_eq_false hfull))⟩
      case stuck =>
        have hleaves : (s.output p i).isNone = true ∨ s.runoutLimit p ≤ w := hstuck.elim (fun h => .inr h.1) .inl
        have hclosed : ¬ (s.fab.installed.clean i p.dest = true ∧ (s.output p i).isSome = true) := by
          rintro ⟨hclean, hout⟩
          rcases hstuck with ⟨-, hdirty⟩ | hnone
          · simp [hclean] at hdirty
          · simp [Option.isNone_iff_eq_none.1 hnone] at hout
        rw [if_pos hleaves, if_neg hclosed]
        refine ⟨fun hidle hroom => congrArg _ (if_pos ?_), fun hshut => congrArg _ (if_neg ?_)⟩
        · simp [State.openU, hidle, hroom]
        · rcases hshut with h | h <;> simp [State.openU, h]
    case laneD =>
      have hexec : exec (.runoutMove id cycles) s = _ := execRunoutMove_of_laneD hp hpos hfold htt hhead hroute hw hu hlane
      rw [hexec]
      refine ⟨fun hclean => ?stay, fun hdirty hidle hroom => ?leave⟩
      case stay => rw [hclean]; rfl
      case leave => simp [State.openU, hdirty, hidle, hroom]

end Sys2Proof.Machine

/-! ## Contributions

Records at a crust block and at their home, the Tow messages that carry and acknowledge them, and block tables (R204, R369, R377 to R384,
R391, R394). -/
namespace Sys2Proof.Machine

/-! ### A record at a crust block -/

section racc
variable {s u : State} {id i g : Nat} {p : Packet} (harr : s.arrived id .racc = some (p, i)) (hg : g = p.arg / 2 ^ 40 % 256)
  (hreset : s.resetting p.func = false) (hu : u = s.removePacket p)
include harr hg hreset hu

/-- A record of a group with no open step is discarded and counted (R384, R391). -/
theorem execRacc_of_closed (hstep : (s.tgroup g).step = none) : execRacc id s = .next (u.bump (offVgStale g) 1) := by
  subst hg hu
  simp only [execRacc, harr, hreset, hstep, Bool.false_eq_true, if_false]
  rfl

section opened
variable {t : TStep} {b : Block} (hstep : (s.tgroup g).step = some t) (hload : (s.tgroup g).loaded = true)
  (hpar : t.step.toNat % 2 = (p.arg / 2 ^ 39) % 2) (hblock : (s.tgroup g).block (rd p.payload 0 4 / 16384) = some b)
include hstep hload hpar hblock

/-- A record of the open step goes on to its block's home. -/
theorem execRacc_of_open {v : State} (hnext : v = if b.homeEng ≠ s.tow.engineId then u.forward p g t b.homeEng else
    ((u.homeAdd g t.step p.payload).map (fun v => v.answerRacc p)).getD (u.bump (offVgStale g) 1)) : execRacc id s = .next v := by
  subst hg hu hnext
  have hpar' : t.step.toNat % 2 = (bitOf p.arg 39).toNat := by rw [hpar, bitOf, Nat.toNat_testBit]
  simp only [execRacc, harr, hreset, hstep, hload, hblock, hpar', Bool.false_eq_true, if_false, Bool.not_true, ne_eq, not_true_eq_false,
    decide_false, Bool.or_self]
  split
  · rfl
  · cases hadd : (s.removePacket p).homeAdd (p.arg / 2 ^ 40 % 256) t.step p.payload <;> rfl

/-- A record whose block is homed elsewhere is forwarded (R382). -/
theorem execRacc_of_elsewhere (hhome : b.homeEng ≠ s.tow.engineId) : execRacc id s = .next (u.forward p g t b.homeEng) :=
  execRacc_of_open harr hg hreset hu hstep hload hpar hblock (if_pos hhome).symm

/-- A record that its home adds is answered (R384). -/
theorem execRacc_of_added {v : State} (hhome : b.homeEng = s.tow.engineId) (hadd : u.homeAdd g t.step p.payload = some v) :
    execRacc id s = .next (v.answerRacc p) :=
  execRacc_of_open harr hg hreset hu hstep hload hpar hblock (by rw [if_neg (not_not.2 hhome), hadd]; rfl)

/-- A record that its home may not add is discarded and counted (R384). -/
theorem execRacc_of_barred (hhome : b.homeEng = s.tow.engineId) (hadd : u.homeAdd g t.step p.payload = none) :
    execRacc id s = .next (u.bump (offVgStale g) 1) :=
  execRacc_of_open harr hg hreset hu hstep hload hpar hblock (by rw [if_neg (not_not.2 hhome), hadd]; rfl)

end opened
end racc

/-! ### Addition at the home -/

section home
variable {s : State} {g k : Nat} {step : W32} {r : List W8} {b : Block} (hblock : s.recordBlock g r = some (b, k))
include hblock

/-- The home adds no record of a step that has ended (R384). -/
theorem homeAdd_of_ended (hended : serialBefore 32 (s.tgroup g).ended.toNat step.toNat = false) : s.homeAdd g step r = none := by
  simp only [State.homeAdd, hblock, hended, Bool.not_false, Bool.true_or, if_true]

section buffer
variable {buf : AccBuf} (hbuf : buf = Tab.get {} (s.tgroup g).acc (2 * k + step.toNat % 2))
include hbuf

/-- The home adds a record of a step past the last that ended into the buffer of the step's parity (R384). -/
theorem homeAdd_of_new {a : Nat} {new : AccBuf} (ha : a = b.acc + 131072 * (step.toNat % 2) + 8 * (rd r 0 4 % 16384))
    (hnew : new = { step := some step, sum := buf.sum + BitVec.ofNat 64 (rd r 8 8) })
    (hafter : serialBefore 32 (s.tgroup g).ended.toNat step.toNat = true) (hsame : buf.step = none ∨ buf.step = some step) :
    s.homeAdd g step r = some ((((s.demand none a (8 * rd r 4 1) true none).memUEs 10 (s.badRead none a (8 * rd r 4 1))).accumulate a
      (recordElems r)).modTgroup g (fun y => { y with acc := Tab.put {} y.acc (2 * k + step.toNat % 2) new })) := by
  subst ha hnew
  have hmay : (buf.step.isSome && buf.step != some step) = false := by rcases hsame with h | h <;> simp [h]
  simp only [State.homeAdd, hblock, ← hbuf, hafter, hmay, Bool.not_true, Bool.or_self, Bool.false_eq_true, if_false]

/-- The home adds no record into a buffer of another step (R384). -/
theorem homeAdd_of_other {other : W32} (hother : buf.step = some other) (hne : other ≠ step) : s.homeAdd g step r = none := by
  have hbar : (buf.step.isSome && buf.step != some step) = true := by simp [hother, hne]
  simp only [State.homeAdd, hblock, ← hbuf, hbar, Bool.or_true, if_true]

end buffer
end home

/-! ### Acknowledgements -/

section raccAck
variable {s : State} {id i : Nat} {p : Packet} (harr : s.arrived id .raccAck = some (p, i))
include harr

/-- RACC_ACK answers its transfer (R204). -/
theorem execRaccAck_of_slot {x : Xfer} (hreset : (s.clu i).resetting = false) (hslot : (s.clu i).slotOf p = some x) :
    execRaccAck id s = .next ((s.removePacket p).both i (fun c => c.answer p s.now)) := by
  simp only [execRaccAck, harr, answer_taken hreset hslot, Bool.false_eq_true, if_false]

/-- RACC_ACK that no transfer takes is discarded and counted (R206). -/
theorem execRaccAck_of_lost (h : (s.clu i).resetting = true ∨ (s.clu i).slotOf p = none) : execRaccAck id s = .next (s.discardAt i p) := by
  simp only [execRaccAck, harr, answer_lost h, if_true]

end raccAck

/-- A Tow message of a live step leaves the receive buffers and takes its effect (R377, R391). -/
theorem towTake_of_has {s v : State} {p : EPort} {ty : W8} {m : TowMsg} {eff : TowMsg → State → Option State} (h : s.towHas p ty m)
    (heff : eff m (s.towRelease p.val m) = some v) : s.towTake p.val ty eff = .next v := by
  obtain ⟨hready, hfirst, hlive⟩ := h
  simp only [State.towTake, hready, hfirst, hlive, heff, if_true, Bool.false_eq_true, if_false]

section messages
variable {s u v : State} {p : EPort} {m : TowMsg} (hu : u = s.towRelease p.val m)
include hu

/-- A RACC message whose records are all added is acknowledged (R369, R384). -/
theorem execTowRacc_of_added (h : s.towHas p 1 m) (hadd : u.addRecords m.vgroup.val m.step (splitRecords 16 m.payload) = (v, true)) :
    execTowRacc p s = .next (v.answerTow m 2) := by
  subst hu
  exact towTake_of_has h (by rw [hadd]; rfl)

/-- A RACC message with a record that is not added is not acknowledged (R384). -/
theorem execTowRacc_of_discarded (h : s.towHas p 1 m) (hadd : u.addRecords m.vgroup.val m.step (splitRecords 16 m.payload) = (v, false)) :
    execTowRacc p s = .next v := by
  subst hu
  exact towTake_of_has h (by rw [hadd]; rfl)

/-- An acknowledgement answers the packet of the record that it names (R369, R383). -/
theorem execTowRaccAck_of_waiting {f : Fwd} (h : s.towHas p 2 m)
    (hfind : u.tow.fwd.find? (fun f => f.mtag.toNat == m.arg.toNat / 2 ^ 32) = some f) : execTowRaccAck p s =
    .next ({ u with tow := { u.tow with fwd := u.tow.fwd.filter (fun x => x.mtag != f.mtag) } }.answerRacc f.packet) := by
  subst hu
  exact towTake_of_has h (by rw [hfind])

/-- An acknowledgement of a record that was answered already is discarded (R383). -/
theorem execTowRaccAck_of_answered (h : s.towHas p 2 m)
    (hfind : u.tow.fwd.find? (fun f => f.mtag.toNat == m.arg.toNat / 2 ^ 32) = none) : execTowRaccAck p s = .next u := by
  subst hu
  exact towTake_of_has h (by rw [hfind])

end messages

/-- A record that has waited for its acknowledgement to the timeout is answered and its step marked LOST (R383). -/
theorem execTowAckTimeout_of_late {s : State} {mtag : W32} {f : Fwd} {o : Nat} (hfind : s.tow.fwd.find? (fun f => f.mtag == mtag) = some f)
    (hport : f.port = some o) (hlate : f.sent + s.ackTimeout ≤ s.now) : execTowAckTimeout mtag s = .next (s.voidRecord f) := by
  simp [execTowAckTimeout, hfind, hport, hlate]

/-! ### Block tables -/

section table
variable {s : State} {f : Func} {g : VGroup} (hpf : s.reachesPF f.val = true)
include hpf

/-- LOAD needs the group OPEN and its table within its owner's pages (R378, R379). -/
theorem execTowVgLoad_of_refused (h : (s.group g.val).state ≠ .openG ∨ s.owns (s.group g.val).owner (s.tgroup g.val).table.toNat
    (48 * blockCount (s.tgroup g.val).nelem.toNat) = false) : execTowVgLoad f g s = .next (s.vgDone g.val 1 0x0102) := by
  simp only [execTowVgLoad, hpf, Bool.not_true, Bool.false_eq_true, if_false, Bool.not_eq_true', if_pos h, stIllegal]

/-- CLEAR drops the table of an OPEN group and ends with ILLEGAL_DESCRIPTOR for another (R394). -/
theorem execTowVgClear_eq : execTowVgClear f g s = if (s.group g.val).state ≠ .openG then .next (s.vgDone g.val 2 0x0102) else
    .next ((s.modTgroup g.val (fun x => { x with loaded := false, blocks := [], acc := [] })).vgDone g.val 2 0x0000) := by
  simp only [execTowVgClear, hpf, Bool.not_true, Bool.false_eq_true, if_false, stIllegal, stOk]

section load
variable {n a : Nat} (hn : n = blockCount (s.tgroup g.val).nelem.toNat) (ha : a = (s.tgroup g.val).table.toNat)
  (hopen : (s.group g.val).state = .openG) (howns : s.owns (s.group g.val).owner a (48 * n) = true)
include hn ha hopen howns

/-- LOAD of a table with an uncorrectable line logs it and ends with ILLEGAL_DESCRIPTOR (R262, R379). -/
theorem execTowVgLoad_of_badLines {x : Nat} {l : List Nat} (hread : s.badRead none a (48 * n) = x :: l) : execTowVgLoad f g s =
    .next (((s.demand none a (48 * n) false none).memUEs 3 (x :: l)).vgDone g.val 1 0x0102) := by
  subst hn ha
  simp [execTowVgLoad, hpf, hopen, howns, hread, stIllegal]

/-- LOAD of a sound table takes its blocks where each of them passes its check (R378, R379). -/
theorem execTowVgLoad_of_read {raws : List (List W8)} (hraws : raws = (List.range n).map (fun b => s.devRead none (a + 48 * b) 48))
    (hread : s.badRead none a (48 * n) = []) : execTowVgLoad f g s =
    if raws.any (s.blockBad g.val) = true then .next ((s.demand none a (48 * n) false none).vgDone g.val 1 0x0102)
    else .next (((s.demand none a (48 * n) false none).modTgroup g.val (fun x =>
      { x with loaded := true, blocks := raws.map blockOf })).vgDone g.val 1 0x0000) := by
  subst hn ha hraws
  simp [execTowVgLoad, hpf, hopen, howns, hread, stIllegal, stOk]

end load
end table

/-- Settles O41: a record by its step and its block's home, an addition by its buffer, the acknowledgements, and the two commands of a
block table. -/
theorem contributionsReachTheirHomes : Obligations.ContributionsReachTheirHomes := by
  refine ⟨?racc, ?add, ?ack, ?ackLost, ?towRacc, ?towAck, ?timeout, ?load, ?loadForeign, ?state⟩
  case racc =>
    intro s u id i g p t b harr hg hreset hu
    exact ⟨execRacc_of_closed harr hg hreset hu, fun hstep hload hpar hblock =>
      ⟨execRacc_of_elsewhere harr hg hreset hu hstep hload hpar hblock,
        fun v => execRacc_of_added harr hg hreset hu hstep hload hpar hblock,
        execRacc_of_barred harr hg hreset hu hstep hload hpar hblock⟩⟩
  case add => exact fun s g k a step r b buf new hblock hbuf ha hnew => ⟨homeAdd_of_new hblock hbuf ha hnew, homeAdd_of_ended hblock,
    fun other => homeAdd_of_other hblock hbuf⟩
  case ack => exact fun s id i p x harr hreset hslot => execRaccAck_of_slot harr hreset hslot
  case ackLost => exact fun s id i p harr h => execRaccAck_of_lost harr h
  case towRacc => exact fun s u p m h hu => ⟨fun v => execTowRacc_of_added hu h, fun v => execTowRacc_of_discarded hu h⟩
  case towAck => exact fun s u p m h hu => ⟨fun f => execTowRaccAck_of_waiting hu h, execTowRaccAck_of_answered hu h⟩
  case timeout => exact fun s mtag f o => execTowAckTimeout_of_late
  case load =>
    intro s f g n a raws hpf hn ha hraws hopen howns
    have hexec := execTowVgLoad_of_read hpf hn ha hopen howns hraws
    refine ⟨fun hread hgood => (hexec hread).trans (if_neg ?_), fun hread hbad => (hexec hread).trans (if_pos ?_),
      fun x l => execTowVgLoad_of_badLines hpf hn ha hopen howns⟩
    · simpa using hgood
    · simpa using hbad
  case loadForeign => exact fun s f g hpf howns => execTowVgLoad_of_refused hpf (.inr howns)
  case state => exact fun s f g hpf => ⟨fun hopen => (execTowVgClear_eq hpf).trans (if_neg (not_not.2 hopen)), fun hshut =>
    ⟨execTowVgLoad_of_refused hpf (.inl hshut), (execTowVgClear_eq hpf).trans (if_pos hshut)⟩⟩

end Sys2Proof.Machine

/-! ## Link retraining and field regions

LINK_RETRAIN and its end, a field's region, and its fabric clock (R201, R344, R427, R429, R441, R454, R456 to R459). -/
namespace Sys2Proof.Machine

/-! ### Links that retrain -/

/-- A link that retrains leaves use at both ends with a strike, and the timetables that use it break (R201, R429). -/
theorem execLinkRetrain_of_retrains {s t : State} {l : LinkEnd} (hready : s.ready = true) (hl : s.retrains l = true)
    (ht : t = s.modEnds l (fun k => { state := .training, strikes := s.now :: recent k.strikes 3600000000 s.now })) :
    execLinkRetrain l s = .next ((t.each t.allCfgs (fun u e => u.breakTable { link := some (Site.idx l.site, l.port) } e.1 e.2)).mapChange.bump
      offRetrains 1) := by
  subst ht
  simp only [execLinkRetrain, hready, hl, Bool.not_true, Bool.or_self, Bool.false_eq_true, if_false]
  rfl

/-- Both ends of a link that has retrained: off, which is counted, or up (R429). -/
def State.retrained (s : State) (l : LinkEnd) (off : Bool) : State :=
  if off then (s.modEnds l (fun k => { k with state := .off })).bump offLinkOff 1 else s.modEnds l (fun k => { k with state := .up })

section retrainEnd
variable {s u : State} {l : LinkEnd} {found : LinkFinding} {n : Nat} {flds : List Nat}
  (hflds : flds = (linkEnds l).map (fun k => fieldOf (k / 4)))
  (hn : n = ((linkEnds l).map (fun k => (recent (s.link k).strikes hourUs s.now).length)).foldl max 0)
  (htraining : ∃ k ∈ linkEnds l, (s.link k).state = .training) (hclock : ∀ k ∈ flds, (s.field k).slowNext = none)
  (hu : u = s.spare (Site.idx l.site) l.port found.failed found.good)
include hflds hn htraining hclock hu

/-- A link that has retrained is off where nothing can carry it or it has its strikes, and else up; the map is due where it is off or
what the map records has changed (R427, R429). -/
theorem execLinkRetrainEnd_of_training {off : Bool}
    (hoff : off = (u.linkGone (Site.idx l.site) l.port found.good || decide (s.strikeMax ≤ n))) : execLinkRetrainEnd l found s =
    .next ((if (off || u.fab.lanes != s.fab.lanes || u.fab.edge != s.fab.edge) = true then (u.retrained l off).mapDirty
      else u.retrained l off).mapChange.each flds State.fieldBack) := by
  subst hflds hn hu
  have hsome : (linkEnds l).any (fun k => (s.link k).state == .training) = true := by simpa using htraining
  have hnone : ((linkEnds l).map (fun k => fieldOf (k / 4))).any (fun k => (s.field k).slowNext.isSome) = false :=
    List.any_eq_false.2 (fun k hk => by simp [hclock k hk])
  simp only [execLinkRetrainEnd, hsome, hnone, Bool.not_true, Bool.or_self, Bool.false_eq_true, if_false]
  rw [← hoff]
  cases off <;> rfl

/-- A link that nothing can carry, or that has its strikes, is off (R427, R429). -/
theorem execLinkRetrainEnd_of_off (h : u.linkGone (Site.idx l.site) l.port found.good = true ∨ s.strikeMax ≤ n) :
    execLinkRetrainEnd l found s =
    .next ((((u.modEnds l (fun k => { k with state := .off })).bump offLinkOff 1).mapDirty).mapChange.each flds State.fieldBack) :=
  execLinkRetrainEnd_of_training hflds hn htraining hclock hu (off := true) (by simpa using h)

section up
variable (hcarried : u.linkGone (Site.idx l.site) l.port found.good = false) (hfew : n < s.strikeMax)
include hcarried hfew

/-- A link that returns leaves the map as it was where its lanes and its edge are as before (R427, R429). -/
theorem execLinkRetrainEnd_of_same (hlanes : u.fab.lanes = s.fab.lanes) (hedge : u.fab.edge = s.fab.edge) : execLinkRetrainEnd l found s =
    .next ((u.modEnds l (fun k => { k with state := .up })).mapChange.each flds State.fieldBack) := by
  rw [execLinkRetrainEnd_of_training hflds hn htraining hclock hu (off := false) (by simp [hcarried, hfew])]
  simp [State.retrained, hlanes, hedge]

/-- A link that returns makes the map due where its lanes or its edge have changed (R427, R429). -/
theorem execLinkRetrainEnd_of_changed (hchange : u.fab.lanes ≠ s.fab.lanes ∨ u.fab.edge ≠ s.fab.edge) : execLinkRetrainEnd l found s =
    .next ((u.modEnds l (fun k => { k with state := .up })).mapDirty.mapChange.each flds State.fieldBack) := by
  rw [execLinkRetrainEnd_of_training hflds hn htraining hclock hu (off := false) (by simp [hcarried, hfew])]
  have hdiff : (u.fab.lanes != s.fab.lanes || u.fab.edge != s.fab.edge) = true := by simpa using hchange
  simp [State.retrained, hdiff]

end up
end retrainEnd

/-! ### Lanes and physical links -/

section physical
variable {s t : State} {i : Nat} {d : Dir} {failed : List LaneEx} {good : Bool}

/-- Where no physical link carries a link, nothing is spared and it is gone. -/
theorem spare_of_none (h : s.physLink i d = none) : s.spare i d failed good = s ∧ s.linkGone i d good = true := by
  simp [State.spare, State.linkGone, h]

section carried
variable {n : Nat} (h : s.physLink i d = some n)
include h

/-- The lanes that failed are recorded, and a physical link that still fails or is worn is disabled (R427). -/
theorem spare_of_some (ht : t = s.modFab (fun b =>
      { b with lanes := addLanes b.lanes (failed.filter (fun x => x.fld == fieldOf i && x.link == n)) })) : s.spare i d failed good =
    if good = false ∨ linkWorn t.fab.lanes (fieldOf i) n = true then t.disableLink (fieldOf i) n else t := by
  subst ht
  simp only [State.spare, h, Bool.or_eq_true, Bool.not_eq_true']

/-- A link within its field is gone where its one physical link fails or is worn (R427). -/
theorem linkGone_iff : s.linkGone i d good = true ↔ n < 760 ∧ (good = false ∨ linkWorn s.fab.lanes (fieldOf i) n = true) := by
  simp [State.linkGone, h]

end carried
end physical

/-- A physical link is worn where a group of it has more failed lanes than spares (R427). -/
theorem linkWorn_iff (l : List LaneEx) (fld link : Nat) : linkWorn l fld link = true ↔ ∃ x ∈ l, x.fld = fld ∧ x.link = link ∧
    groupSpares x.net x.group < (l.filter (sameGroup x)).length := by
  simp [linkWorn, and_assoc]

/-! ### Fields -/

/-- A short of a field that is on takes it dark (R454, R457). -/
theorem execRegionShort_of_on {s : State} {fld : FieldIx} (hon : (s.field fld.val).region = .on) (hstep : s.pwr.step = .released) :
    execRegionShort fld s = .next (s.goDark fld.val (s.justOn fld.val)) := by
  simp [execRegionShort, hon, hstep]

/-- A short of a field that is starting locks it off (R457). -/
theorem execRegionShort_of_starting {s : State} {fld : FieldIx} (h : (s.field fld.val).region = .starting) :
    execRegionShort fld s = .next (s.goDark fld.val true) := by
  simp only [execRegionShort, h]

/-- A field is just on for 10 s after it came on (R457). -/
theorem justOn_iff {s : State} {fld t : Nat} (h : (s.field fld).regionOnAt = some t) : s.justOn fld = true ↔ s.now < t + 10000000 := by
  simp [State.justOn, h]

/-- A field whose links have trained is on, which ends its command (R456, R458). -/
theorem fieldBack_of_trained {s : State} {k : Nat} (htrained : s.fieldTrained k = true) (hidle : s.fab.fieldCmd.busy = false)
    (hstart : (s.field k).region = .starting) : s.fieldBack k =
    ((s.modField k (fun x => { x with region := .on, regionOnAt := some s.now, wasReset := true })).mboxSet 2 false 0x0000).fieldEvent k 0x0032
      (k + 512) := by
  have hdone : s.resetDone k = s := by simp [State.resetDone, hidle]
  simp only [State.fieldBack, htrained, hdone, hstart, Bool.not_true, Bool.false_eq_true, if_false, if_true, stOk]

/-! ### The mailbox -/

section mailbox
variable {s : State} {f : Func}

section command
variable {op : Nat} {ok : Bool} {eff : State → State} (hpf : s.reachesPF f.val = true) (hbusy : s.pwr.mbox.busy = false)
include hpf hbusy

/-- A mailbox command whose argument is good takes its effect (R459). -/
theorem mboxCommand_of_ok (hok : ok = true) : s.mboxCommand f.val op ok eff = eff s := by
  simp [State.mboxCommand, hpf, hbusy, hok]

/-- A mailbox command whose argument is bad ends with ILLEGAL_DESCRIPTOR (R459). -/
theorem mboxCommand_of_bad (hok : ok = false) : s.mboxCommand f.val op ok eff = s.mboxSet op false 0x0102 := by
  simp [State.mboxCommand, hpf, hbusy, hok, stIllegal]

end command

/-- The argument of REGION_ON is a field and nothing else (R459). -/
theorem regionArg_iff (s : State) : (s.argClean && !bitOf s.pwr.arg.toNat 0) = true ↔
    s.pwr.arg.toNat % 2 ^ 24 = 0 ∧ s.pwr.arg.toNat / 2 ^ 30 = 0 := by
  have hlt : s.pwr.arg.toNat < 2 ^ 32 := s.pwr.arg.isLt
  simp only [State.argClean, bits, bitOf, Nat.testBit_zero, Bool.and_eq_true, beq_iff_eq, Bool.not_eq_true', decide_eq_false_iff_not]
  omega

section regionOn
variable {t u : State} {k : Nat} (hpf : s.reachesPF f.val = true) (hbusy : s.pwr.mbox.busy = false) (hk : k = bits s.pwr.arg.toNat 29 24)
include hpf hbusy hk

/-- REGION_ON of a dark field clears what is lost and retrains its links and clears its clusters (R344, R456). -/
theorem execRegionOn_of_dark (ht : t = ((s.mboxSet 2 true 0x0000).modFab (fun b =>
        { b with oos := setBit64 b.oos k true, dark := setBit64 b.dark k false })).modField k
      (fun x => { x with region := .starting, regionOnAt := none })) (hu : u = ((t.loseField k).retrainField k true).mapChange)
    (hlow : s.pwr.arg.toNat % 2 ^ 24 = 0) (hhigh : s.pwr.arg.toNat / 2 ^ 30 = 0) (hdark : (s.field k).region = .dark) :
    execRegionOn f s = .next (u.each (u.cl.filterMap (fun e => if fieldOf e.1 = k ∧ e.2.needsClear = true then some e.1 else none))
      State.clearCluster) := by
  subst hk ht hu
  refine congrArg _ (mboxCommand_of_ok hpf hbusy ?_)
  rw [(regionArg_iff s).2 ⟨hlow, hhigh⟩, Bool.true_and, beq_iff_eq]
  exact hdark

/-- REGION_ON with another argument, or of a field that is not dark, ends with ILLEGAL_DESCRIPTOR (R456, R457, R459). -/
theorem execRegionOn_of_bad (h : s.pwr.arg.toNat % 2 ^ 24 ≠ 0 ∨ s.pwr.arg.toNat / 2 ^ 30 ≠ 0 ∨ (s.field k).region ≠ .dark) :
    execRegionOn f s = .next (s.mboxSet 2 false 0x0102) := by
  subst hk
  refine congrArg _ (mboxCommand_of_bad hpf hbusy (Bool.eq_false_iff.2 ?_))
  rw [Ne, Bool.and_eq_true, regionArg_iff, beq_iff_eq]
  rintro ⟨⟨hlow, hhigh⟩, hdark⟩
  exact h.elim (absurd hlow) (·.elim (absurd hhigh) (absurd hdark))

end regionOn

/-- The argument of FABRIC_BIN is good where it is clean and its field is not dark (R459). -/
theorem fabricArg_of_lit (hclean : s.argClean = true) (hlit : s.isDark s.argField = false) :
    (s.argClean && !s.isDark s.argField) = true := by
  rw [hclean, hlit]; rfl

section fabricBin
variable {k : Nat} (hpf : s.reachesPF f.val = true) (hbusy : s.pwr.mbox.busy = false) (hk : k = bits s.pwr.arg.toNat 29 24)
include hpf hbusy hk

section good
variable (hclean : s.argClean = true) (hlit : s.isDark k = false)
include hclean hlit

/-- FABRIC_BIN of a field whose clock does not change: to its rate it completes, to the other it changes the clock (R441, R459). -/
theorem execFabricBin_of_steady (hnone : (s.field k).slowNext = none) : execFabricBin f s =
    .next (if (s.field k).slow = bitOf s.pwr.arg.toNat 0 then s.mboxSet 1 false 0x0000
      else (s.mboxSet 1 true 0x0000).changeFabric k (bitOf s.pwr.arg.toNat 0)) := by
  subst hk
  refine congrArg _ ((mboxCommand_of_ok hpf hbusy (fabricArg_of_lit hclean hlit)).trans ?_)
  simp only [State.argField, hnone, stOk]
  rfl

/-- FABRIC_BIN of a field whose clock changes: to the rate that is coming it waits, to the other it changes the clock again (R441, R459,
log 132). -/
theorem execFabricBin_of_changing {v : Bool} (hsome : (s.field k).slowNext = some v) : execFabricBin f s =
    .next (if v = bitOf s.pwr.arg.toNat 0 then s.mboxSet 1 true 0x0000
      else (s.mboxSet 1 true 0x0000).changeFabric k (bitOf s.pwr.arg.toNat 0)) := by
  subst hk
  refine congrArg _ ((mboxCommand_of_ok hpf hbusy (fabricArg_of_lit hclean hlit)).trans ?_)
  simp only [State.argField, hsome, stOk]

end good

/-- FABRIC_BIN with another argument, or of a dark field, ends with ILLEGAL_DESCRIPTOR (R441, R459). -/
theorem execFabricBin_of_bad (h : s.argClean = false ∨ s.isDark k = true) : execFabricBin f s = .next (s.mboxSet 1 false 0x0102) := by
  subst hk
  refine congrArg _ (mboxCommand_of_bad hpf hbusy ?_)
  rcases h with hclean | hdark
  · rw [hclean, Bool.false_and]
  · rw [State.argField, hdark, Bool.not_true, Bool.and_false]

end fabricBin
end mailbox

/-- The end of a clock change returns the links that train at the new rate, and ends the FABRIC_BIN that waits for it (R441). -/
theorem execFabricChangeDone_of_changing {s t : State} {fld : FieldIx} {v : Bool} (hsome : (s.field fld.val).slowNext = some v)
    (ht : t = ((s.each (fieldLinks fld.val) (fun t e =>
        if (t.link e).state = .training then t.modLink e (fun x => { x with state := .up }) else t)).modField fld.val
      (fun x => { x with slow := v, slowNext := none })).mapChange) : execFabricChangeDone fld s =
    .next (if t.pwr.mbox.busy = true ∧ t.pwr.mbox.field.toNat / 2 ^ 24 = 1 ∧ t.argField = fld.val then t.mboxSet 1 false 0x0000 else t) := by
  subst ht
  simp only [execFabricChangeDone, hsome, Bool.and_eq_true, beq_iff_eq, and_assoc, stOk]

/-- Settles O44: a link's retraining and its end with what it spares, a field's region, and the two mailbox commands by their argument. -/
theorem linksRetrainAndRegionsReturn : Obligations.LinksRetrainAndRegionsReturn := by
  refine ⟨fun s t l => execLinkRetrain_of_retrains, ?retrainEnd, ?spare, linkWorn_iff,
    fun s fld => ⟨execRegionShort_of_on, execRegionShort_of_starting⟩, fun s fld t => justOn_iff, ?regionOn,
    fun s k => fieldBack_of_trained, ?fabricBin, ?changeDone⟩
  case retrainEnd =>
    exact fun s u l found n flds hflds hn htraining hclock hu => ⟨execLinkRetrainEnd_of_off hflds hn htraining hclock hu,
      execLinkRetrainEnd_of_same hflds hn htraining hclock hu, execLinkRetrainEnd_of_changed hflds hn htraining hclock hu⟩
  case spare =>
    intro s i d failed good
    refine ⟨spare_of_none, fun n t h ht => ⟨fun hgood hsound => ?_, fun hbad => ?_, linkGone_iff h⟩⟩
    · exact (spare_of_some h ht).trans (if_neg (by simp [hgood, hsound]))
    · exact (spare_of_some h ht).trans (if_pos hbad)
  case regionOn =>
    exact fun s t u f k hpf hbusy hk ht hu => ⟨execRegionOn_of_dark hpf hbusy hk ht hu, execRegionOn_of_bad hpf hbusy hk⟩
  case fabricBin =>
    intro s f k hpf hbusy hk
    refine ⟨fun hclean hlit => ⟨fun hnone hne => ?_, fun hnone heq => ?_, fun hsome => ?_, fun hsome => ?_⟩,
      fun h => execFabricBin_of_bad hpf hbusy hk (.inl h), fun h => execFabricBin_of_bad hpf hbusy hk (.inr h)⟩
    · exact (execFabricBin_of_steady hpf hbusy hk hclean hlit hnone).trans (congrArg _ (if_neg hne))
    · exact (execFabricBin_of_steady hpf hbusy hk hclean hlit hnone).trans (congrArg _ (if_pos heq))
    · exact (execFabricBin_of_changing hpf hbusy hk hclean hlit hsome).trans (congrArg _ (if_pos rfl))
    · exact (execFabricBin_of_changing hpf hbusy hk hclean hlit hsome).trans (congrArg _ (if_neg (by simp)))
  case changeDone =>
    intro s t fld v hsome ht
    have hexec := execFabricChangeDone_of_changing hsome ht
    exact ⟨fun hbusy hop harg => hexec.trans (congrArg _ (if_pos ⟨hbusy, hop, harg⟩)),
      fun hidle => hexec.trans (congrArg _ (if_neg (by simp [hidle])))⟩

end Sys2Proof.Machine

/-! ## Fold trees

Terms that reach a fold node, the sum of a complete segment and the credits of its buffers (R225 to R239). -/
namespace Sys2Proof.Machine

/-! ### Packets of a tree -/

/-- A packet has no tree to go to when every tree of its number is broken or of another epoch (R236, R238, R239). -/
theorem foldStray_iff {s : State} {p : Packet} : s.foldStray p = true ↔
    ∀ c t, s.treeOf p.func p.foldTree = some (c, t) → t.broken = true ∨ t.epoch ≠ p.epoch := by
  unfold State.foldStray
  cases s.treeOf p.func p.foldTree with
  | none => simp
  | some e =>
    obtain ⟨c, t⟩ := e
    simp

/-- What has arrived is a packet in flight. -/
theorem packet_of_arrived {s : State} {id i : Nat} {t : PType} {p : Packet} (h : s.arrived id t = some (p, i)) : s.packet id = some p := by
  unfold State.arrived at h
  split at h
  next q hq =>
    split at h
    next j hpos =>
      obtain ⟨-, he⟩ := Option.ite_none_right_eq_some.1 h
      rw [hq, (Prod.mk.inj (Option.some.inj he)).1]
    next => cases h
  next => cases h

/-- A packet without a tree is discarded and counted, wherever it is (R236, R238, R239). -/
theorem execFold_of_stray {s : State} {id : Nat} {p : Packet} (hp : s.packet id = some p) (htyp : p.typ = .fold)
    (hstray : s.foldStray p = true) : execFold id s = .next (s.foldDiscard p) := by
  cases harr : s.arrived id .fold with
  | none => simp only [execFold, harr, hp, htyp, hstray, and_self, if_true]
  | some e =>
    obtain ⟨q, i⟩ := e
    obtain rfl : p = q := Option.some.inj (hp.symm.trans (packet_of_arrived harr))
    cases htree : s.treeOf p.func p.foldTree with
    | none => simp only [execFold, harr, htree]
    | some e =>
      have hbad : (e.2.broken || e.2.epoch != p.epoch) = true := by simpa using foldStray_iff.1 hstray e.1 e.2 htree
      simp only [execFold, harr, htree, hbad, if_true]

section node
variable {s : State} {id i c : Nat} {p : Packet} {tr : FoldTree} (harr : s.arrived id .fold = some (p, i))
  (htree : s.treeOf p.func p.foldTree = some (c, tr)) (hwhole : tr.broken = false) (hep : tr.epoch = p.epoch)
  (hroute : s.routing i = true)
include harr htree hwhole hep hroute

/-- A packet of a tree is discarded and counted at a router that is no node or no input for it (R236; log 59). -/
theorem execFold_of_no_input (h : ∀ n, tr.node i = some n → n.input p.src = none) : execFold id s = .next (s.foldDiscard p) := by
  cases hn : tr.node i with
  | none => simp [execFold, harr, htree, hwhole, hep, hroute, hn]
  | some n => simp [execFold, harr, htree, hwhole, hep, hroute, hn, h n hn]

section stored
variable {t : State} {n : FoldNode} {x : FoldIn} (hn : tr.node i = some n) (hx : n.input p.src = some x)
  (hstore : s.foldStore i tr x p = some t)
include hn hx hstore

/-- The term of a child enters its buffer (R231). -/
theorem execFold_of_child (hchild : x ≠ .own) : execFold id s = .next (t.removePacket p) := by
  simp [execFold, harr, htree, hwhole, hep, hroute, hn, hx, hstore, hchild]

/-- The term of the node's own cluster takes a credit, and its acceptance answers the transfer (R231, R233). -/
theorem execFold_of_own (hown : x = .own) (hcredit : s.foldUsed i p.func p.foldTree true < tr.bufs) : execFold id s =
    .next (((t.removePacket p).setFoldUsed i p.func p.foldTree true (s.foldUsed i p.func p.foldTree true + 1)).both i
      (fun c => c.answer p s.now)) := by
  subst hown
  simp [execFold, harr, htree, hwhole, hep, hroute, hn, hx, hstore, Nat.not_le.2 hcredit]

end stored
end node

/-! ### The sum of a segment -/

section segment
variable {s : State} {x : Site} {f : Func} {tree : Fin 1024} {round : Bool} {seg : Fin 65536} {b : SegBuf} {c : Nat} {t : FoldTree}
  {n : FoldNode} (hfind : s.fab.segs.find? (fun y => y.isFor (Site.idx x) f.val tree.val round seg.val) = some b)
  (htree : s.treeOf f.val tree.val = some (c, t)) (hn : t.node (Site.idx x) = some n) (hfull : b.complete n = true)
  (hwhole : t.broken = false) (hroute : s.routing (Site.idx x) = true)
include hfind htree hn hfull hwhole hroute

/-- The root writes a complete segment once its target is free and, for the last of a round, the round token has room (R229, R234). -/
theorem execFoldSegmentSum_of_root (hroot : n.parent = 4) (hfree : (s.clu (Site.idx x)).heldAt (t.dest + 256 * b.seg) 256 = false)
    (hroom : t.isLast b = true → ((s.clu (Site.idx x)).getQueue t.doneq).room ≠ 0) :
    execFoldSegmentSum x f tree round seg s = .next (s.foldRoot f.val c t n b) := by
  have htoken : (t.isLast b && ((s.clu (Site.idx x)).getQueue t.doneq).room == 0) = false := by simpa using hroom
  simp [execFoldSegmentSum, hfind, htree, hn, hfull, hwhole, hroute, hroot, hfree, htoken]

/-- Another node sends a complete segment to its parent once it holds a credit (R229 to R231). -/
theorem execFoldSegmentSum_of_credit (hinner : n.parent ≠ 4) (hcredit : s.foldUsed (Site.idx x) f.val tree.val false < t.bufs) :
    execFoldSegmentSum x f tree round seg s = .next (s.foldUp f.val t n b) := by
  simp [execFoldSegmentSum, hfind, htree, hn, hfull, hwhole, hroute, hinner, Nat.not_le.2 hcredit]

end segment

/-- Block j of the blocks of n items that the elements of a list give is the one that element j gives. -/
theorem take_drop_flatMap {α β : Type*} {g : α → List β} {n : Nat} (hg : ∀ a, (g a).length = n) {l : List α} {j : Nat}
    (hj : j < l.length) : ((l.flatMap g).drop (n * j)).take n = g l[j] := by
  induction l generalizing j with
  | nil => simp at hj
  | cons a l ih =>
    cases j with
    | zero => simp [← hg a]
    | succ j =>
      have hskip : (g a ++ l.flatMap g).drop (n * (j + 1)) = (l.flatMap g).drop (n * j) := by
        rw [Nat.mul_succ, Nat.add_comm, ← List.drop_drop, ← hg a, List.drop_left]
      rw [List.flatMap_cons, hskip]
      exact ih (by simpa using hj)

/-- A whole term has each of its 64 elements (R230). -/
theorem termElem_of_whole {w : List W8} (hw : w.length = 256) {k : Nat} (hk : k < 64) :
    termElem (some w) k = some (leNat ((w.drop (4 * k)).take 4)) :=
  if_pos (by omega)

/-- Three terms add up in order: child 0, child 1, the local term (R227). -/
theorem nodeSum_value (int32 : Bool) (a b c : Nat) :
    (nodeSum int32 (some a) (some b) (some c)).map Prod.fst = some (foldAdd int32 (foldAdd int32 a b).1 c).1 := rfl

/-- The elements of a sum as its bytes, in order (R227, R230). -/
theorem sum_bytes {b : SegBuf} {int32 : Bool} {v : Nat → Nat} (hv : ∀ k < 64, (nodeSum int32 (termElem (b.c0.map Prod.fst) k)
      (termElem (b.c1.map Prod.fst) k) (termElem b.loc k)).map Prod.fst = some (v k)) :
    (b.sum int32).1 = (List.range 64).flatMap (fun k => leBytes 4 (v k)) := by
  have hvalues : ((List.range 64).filterMap (fun k => nodeSum int32 (termElem (b.c0.map Prod.fst) k)
      (termElem (b.c1.map Prod.fst) k) (termElem b.loc k))).map Prod.fst = (List.range 64).map v := by
    rw [List.map_filterMap, ← List.filterMap_eq_map]
    exact List.filterMap_congr fun k hk => hv k (List.mem_range.1 hk)
  simp only [SegBuf.sum]
  rw [← List.flatMap_map (f := Prod.fst) (g := leBytes 4), hvalues, List.flatMap_map]

/-- With three whole terms each element is child 0 plus child 1 plus the local term (R227, R230). -/
theorem sum_element {b : SegBuf} {int32 : Bool} {w0 w1 wl : List W8} {j : Nat} (h0 : b.c0 = some (w0, 0)) (h1 : b.c1 = some (w1, 0))
    (hl : b.loc = some wl) (hw0 : w0.length = 256) (hw1 : w1.length = 256) (hwl : wl.length = 256) (hj : j < 64) :
    ((b.sum int32).1.drop (4 * j)).take 4 = leBytes 4 (foldAdd int32 (foldAdd int32 (leNat ((w0.drop (4 * j)).take 4))
      (leNat ((w1.drop (4 * j)).take 4))).1 (leNat ((wl.drop (4 * j)).take 4))).1 := by
  have hsum := sum_bytes (b := b) (int32 := int32) fun k hk => by
    rw [h0, h1, hl, Option.map_some, Option.map_some, termElem_of_whole hw0 hk, termElem_of_whole hw1 hk, termElem_of_whole hwl hk]
    exact nodeSum_value int32 _ _ _
  rw [hsum, take_drop_flatMap (fun k => leBytes_length 4 _) (by simpa using hj), List.getElem_range]

/-! ### Credits -/

/-- A credit that the control network does not hold comes back to its sender (R218, R231). -/
theorem execFoldCreditReceive_of_open {s : State} {x : Site} {f : Func} {tree : Fin 1024} {e : Nat × Nat × Nat × Nat × Nat}
    (hfind : s.fab.foldCredits.find? (fun e => e.1 == Site.idx x && e.2.1 == f.val && e.2.2.1 == tree.val &&
      !s.creditHeld e.2.2.2.2 e.1) = some e) : execFoldCreditReceive x f tree s =
    .next ((s.modFab (fun b => { b with foldCredits := dropFirst (· == e) b.foldCredits })).setFoldUsed
      e.1 f.val tree.val (e.2.2.2.1 == 1) (s.foldUsed e.1 f.val tree.val (e.2.2.2.1 == 1) - 1)) := by
  simp only [execFoldCreditReceive, hfind]

/-- Settles O26: a packet by its tree and the node that it meets, a complete segment by its node's parent, the elements of its sum, and
a credit that comes back. -/
theorem foldNodesSumSegments : Obligations.FoldNodesSumSegments := by
  refine ⟨?stored, ?stray, ?noInput, ?segment, ?element, ?credit⟩
  case stored => exact fun s t id i p c tr n x harr htree hwhole hep hroute hn hx hstore =>
    ⟨execFold_of_child harr htree hwhole hep hroute hn hx hstore, execFold_of_own harr htree hwhole hep hroute hn hx hstore⟩
  case stray => exact fun s id p hp htyp h => execFold_of_stray hp htyp (foldStray_iff.2 h)
  case noInput => exact fun s id i p c tr harr htree hwhole hep hroute h => execFold_of_no_input harr htree hwhole hep hroute h
  case segment => exact fun s x f tree round seg b c t n hfind htree hn hfull hwhole hroute =>
    ⟨execFoldSegmentSum_of_root hfind htree hn hfull hwhole hroute, execFoldSegmentSum_of_credit hfind htree hn hfull hwhole hroute⟩
  case element => exact fun b i w0 w1 wl h0 h1 hl hw0 hw1 hwl j hj => sum_element h0 h1 hl hw0 hw1 hwl hj
  case credit => exact fun s x f tree e hfind => execFoldCreditReceive_of_open hfind

end Sys2Proof.Machine

/-! ## Timetable mode

What an injection entry sends and how a TT_DATA packet moves on (R240 to R246). -/
namespace Sys2Proof.Machine

/-! ### Injection entries -/

section injection
variable {s : State} {x : Site} {k : Fin 512} {e : TTEntry} {t : TTStream} (he : (s.entriesAt (Site.idx x))[k.val]? = some e)
  (hinp : e.inp = 4) (hopen : s.entryOpen e = true) (hlink : s.entryLink e = true) (hleads : e.leads ≠ none)
  (hstream : s.streamOf e.key e.stream = some t)
include he hinp hopen hlink hleads hstream

/-- An entry of a source that is stopped passes, and the slip is counted (R246). -/
theorem execTtInjectionEntry_of_stopped (h : s.clocked t.src = false ∨ (s.clu t.src).resetting = true) :
    execTtInjectionEntry x k s = .next ((s.passEntry e).bump (offTtSlip (fieldOf e.site)) 1) := by
  have hstop : (!s.clocked t.src || (s.clu t.src).resetting) = true := by simpa using h
  simp [execTtInjectionEntry, he, hinp, hopen, hlink, hleads, hstream, hstop]

section source
variable (hclk : s.clocked t.src = true) (hreset : (s.clu t.src).resetting = false)
include hclk hreset

/-- The credited tokens of a stream leave their queue at its entry (R240, R246). -/
theorem execTtInjectionEntry_of_tokens {p : Packet} {n : Nat} (hput : t.put = false)
    (htok : s.ttTokens e t (e.key / 256) = some (p, n)) : execTtInjectionEntry x k s =
    .next ((s.fire t.src (fun c => c.modQueue t.sq (fun q => q.sendOut n))).ttInject e p) := by
  simp [execTtInjectionEntry, he, hinp, hopen, hlink, hleads, hstream, hclk, hreset, hput, htok]

/-- The waiting packet of a PUT that fits its entry leaves there (R240, R246). -/
theorem execTtInjectionEntry_of_packet {i : Nat} {p : Packet} (hput : t.put = true)
    (hwait : (s.clu t.src).ttPacket t.stream = some (i, p)) (hfits : p.flits ≤ e.flits) : execTtInjectionEntry x k s =
    .next ((s.fire t.src (fun c => c.ttSent i)).ttInject e { p with key := e.key, pos := .router e.site none }) := by
  simp [execTtInjectionEntry, he, hinp, hopen, hlink, hleads, hstream, hclk, hreset, hput, hwait, hfits]

/-- An entry whose token stream has no credited token passes, and the slip is counted (R246). -/
theorem execTtInjectionEntry_of_no_tokens (hput : t.put = false) (htok : s.ttTokens e t (e.key / 256) = none) :
    execTtInjectionEntry x k s = .next ((s.passEntry e).bump (offTtSlip (fieldOf e.site)) 1) := by
  simp [execTtInjectionEntry, he, hinp, hopen, hlink, hleads, hstream, hclk, hreset, hput, htok]

/-- An entry whose PUT stream has no packet waiting that fits it passes, and the slip is counted (R246; log 173). -/
theorem execTtInjectionEntry_of_no_fit (hput : t.put = true)
    (hlong : ∀ i p, (s.clu t.src).ttPacket t.stream = some (i, p) → e.flits < p.flits) :
    execTtInjectionEntry x k s = .next ((s.passEntry e).bump (offTtSlip (fieldOf e.site)) 1) := by
  cases hwait : (s.clu t.src).ttPacket t.stream with
  | none =>
    simp [execTtInjectionEntry, he, hinp, hopen, hlink, hleads, hstream, hclk, hreset, hput, hwait]
  | some w =>
    simp [execTtInjectionEntry, he, hinp, hopen, hlink, hleads, hstream, hclk, hreset, hput, hwait, Nat.not_le.2 (hlong w.1 w.2 hwait)]

end source

/-- An entry with nothing that it can send passes, and the slip is counted (R246). -/
theorem execTtInjectionEntry_of_slip (h : s.clocked t.src = false ∨ (s.clu t.src).resetting = true ∨
      t.put = false ∧ s.ttTokens e t (e.key / 256) = none ∨
      t.put = true ∧ ∀ i p, (s.clu t.src).ttPacket t.stream = some (i, p) → e.flits < p.flits) :
    execTtInjectionEntry x k s = .next ((s.passEntry e).bump (offTtSlip (fieldOf e.site)) 1) := by
  by_cases hstop : s.clocked t.src = false ∨ (s.clu t.src).resetting = true
  · exact execTtInjectionEntry_of_stopped he hinp hopen hlink hleads hstream hstop
  · obtain ⟨hclk, hreset⟩ : s.clocked t.src = true ∧ (s.clu t.src).resetting = false := by simpa using hstop
    rcases h with h | h | ⟨hput, htok⟩ | ⟨hput, hlong⟩
    · exact absurd (.inl h) hstop
    · exact absurd (.inr h) hstop
    · exact execTtInjectionEntry_of_no_tokens he hinp hopen hlink hleads hstream hclk hreset hput htok
    · exact execTtInjectionEntry_of_no_fit he hinp hopen hlink hleads hstream hclk hreset hput hlong

end injection

/-! ### Hops -/

/-- An entry delivers at its own router alone (R241). -/
theorem site_of_leads_delivered {e : TTEntry} {j : Nat} (h : e.leads = some (.delivered j)) : e.site = j := by
  unfold TTEntry.leads at h
  split at h
  next => exact Pos.delivered.inj (Option.some.inj h)
  next =>
    split at h
    next d _ => simp at h
    next => cases h

/-- A hop over a link puts the packet on it, in the cycle of its repetition (R245). -/
theorem ttHop_of_wire {s : State} {e : TTEntry} {p : Packet} {j : Nat} {d : Dir} {prev : Option Dir}
    (h : e.leads = some (.wire j d prev)) : s.ttHop e p = (s.passEntry e).sendWire { p with cyc := e.nextAt } j d prev := by
  simp only [State.ttHop, h]

/-- A hop to the cluster delivers the packet there (R245). -/
theorem ttHop_of_delivered {s : State} {e : TTEntry} {p : Packet} {j : Nat} (h : e.leads = some (.delivered j)) :
    s.ttHop e p = ((s.passEntry e).movePacket { p with cyc := e.nextAt } { p with cyc := e.nextAt, pos := .delivered j }).ttDeliver j
      { p with cyc := e.nextAt, pos := .delivered j } := by
  obtain rfl := site_of_leads_delivered h
  simp only [State.ttHop, h]
  rfl

section forward
variable {s : State} {id i : Nat} {p : Packet} (hp : s.packet id = some p) (htyp : p.typ = .ttData)
include hp htyp

/-- A TT_DATA packet in a router takes the hop of its entry's repetition (R245). -/
theorem execTtForward_of_entry {d : Option Dir} {e : TTEntry} {n : Nat} (hpos : p.pos = .router i d)
    (hentry : s.ttEntry p i d = some (e, n)) : execTtForward id s = .next ((s.skipTo e n).ttHop { e with passed := n } p) := by
  simp only [execTtForward, hp, htyp, hpos, hentry, ne_eq, not_true_eq_false, if_false]

/-- A TT_DATA packet at its destination takes its effect there (R240, R245). -/
theorem execTtForward_of_delivered (hpos : p.pos = .delivered i) : execTtForward id s = .next (s.ttDeliver i p) := by
  simp only [execTtForward, hp, htyp, hpos, ne_eq, not_true_eq_false, if_false]

end forward

/-- Settles O27: an injection entry by what its source has, a hop by where its entry leads, and a delivery. -/
theorem timetableEntriesSendAndForward : Obligations.TimetableEntriesSendAndForward := by
  refine ⟨?inject, ?hop, ?deliver⟩
  case inject =>
    intro s x k e t he hinp hopen hlink hsome hstream
    have hleads : e.leads ≠ none := Option.isSome_iff_ne_none.1 hsome
    refine ⟨fun hclk hreset => ⟨fun hput p n htok => ?_, fun hput i p hwait hfits => ?_⟩, fun h => ?_⟩
    · exact execTtInjectionEntry_of_tokens he hinp hopen hlink hleads hstream hclk hreset hput htok
    · exact execTtInjectionEntry_of_packet he hinp hopen hlink hleads hstream hclk hreset hput hwait hfits
    · exact execTtInjectionEntry_of_slip he hinp hopen hlink hleads hstream h
  case hop =>
    rintro s t id i n d p q e g hp htyp hpos hentry rfl rfl rfl
    have hexec := execTtForward_of_entry hp htyp hpos hentry
    exact ⟨fun j y z h => hexec.trans (congrArg _ (ttHop_of_wire h)), fun j h => hexec.trans (congrArg _ (ttHop_of_delivered h))⟩
  case deliver => exact fun s id i p hp htyp hpos => execTtForward_of_delivered hp htyp hpos

end Sys2Proof.Machine

/-! ## Byte memories

A table in canonical form is determined by what it reads as (R252, R270). -/
namespace Sys2Proof.Machine

section canonical
variable {α : Type} {d : α}

/-- A key below every listed one reads as the default. -/
theorem Tab.get_of_below {t : Tab α} {i : Nat} (h : ∀ e ∈ t, i < e.1) : Tab.get d t i = d := by
  induction t with
  | nil => rfl
  | cons e t ih =>
    obtain ⟨hlt, hrest⟩ := List.forall_mem_cons.1 h
    rw [Tab.get, if_neg hlt.ne]
    exact ih hrest

/-- The canonical form of a table with a first entry: its key is below the others, its value not the default, and the rest is in the
form. -/
theorem Tab.wf_cons {e : Nat × α} {t : Tab α} : Tab.wf d (e :: t) ↔ (∀ x ∈ t, e.1 < x.1) ∧ e.2 ≠ d ∧ Tab.wf d t := by
  simp only [Tab.wf, List.pairwise_cons, List.forall_mem_cons]
  tauto

/-- The rest of a canonical table reads as the table does, but for the first key, which it does not list. -/
theorem Tab.get_tail {e : Nat × α} {t : Tab α} (h : Tab.wf d (e :: t)) (i : Nat) :
    Tab.get d t i = if i = e.1 then d else Tab.get d (e :: t) i := by
  split
  · next hi => exact hi ▸ Tab.get_of_below (Tab.wf_cons.1 h).1
  · next hi => rw [Tab.get, if_neg hi]

/-- A key that reads as something else than the default is not below the first listed one. -/
theorem Tab.head_le_of_get_ne {e : Nat × α} {t : Tab α} (h : Tab.wf d (e :: t)) {i : Nat} (hi : Tab.get d (e :: t) i ≠ d) : e.1 ≤ i := by
  by_contra hlt
  refine hi (Tab.get_of_below (List.forall_mem_cons.2 ⟨by omega, fun x hx => ?_⟩))
  exact (Nat.lt_of_not_le hlt).trans ((Tab.wf_cons.1 h).1 x hx)

/-- The first listed key reads as its value. -/
theorem Tab.get_head (e : Nat × α) (t : Tab α) : Tab.get d (e :: t) e.1 = e.2 := if_pos rfl

/-- Two canonical tables that read alike everywhere are equal. -/
theorem Tab.ext_of_wf {t u : Tab α} (ht : Tab.wf d t) (hu : Tab.wf d u) (h : ∀ i, Tab.get d t i = Tab.get d u i) : t = u := by
  induction t generalizing u with
  | nil =>
    cases u with
    | nil => rfl
    | cons x u => exact absurd ((h x.1).trans (Tab.get_head x u)).symm (Tab.wf_cons.1 hu).2.1
  | cons e t ih =>
    obtain ⟨-, hev, htw⟩ := Tab.wf_cons.1 ht
    cases u with
    | nil => exact absurd ((Tab.get_head e t).symm.trans (h e.1)) hev
    | cons x u =>
      obtain ⟨-, hxv, huw⟩ := Tab.wf_cons.1 hu
      have hhead : Tab.get d (e :: t) x.1 = x.2 := (h x.1).trans (Tab.get_head x u)
      have hhead' : Tab.get d (x :: u) e.1 = e.2 := (h e.1).symm.trans (Tab.get_head e t)
      have hkey : e.1 = x.1 := Nat.le_antisymm (Tab.head_le_of_get_ne ht (hhead ▸ hxv)) (Tab.head_le_of_get_ne hu (hhead' ▸ hev))
      have hval : e.2 = x.2 := by rw [← Tab.get_head (d := d) e t, hkey, hhead]
      have hrest : ∀ i, Tab.get d t i = Tab.get d u i := fun i => by rw [Tab.get_tail ht, Tab.get_tail hu, hkey, h]
      rw [Prod.ext hkey hval, ih htw huw hrest]

end canonical

/-- Settles O59: from the rules of a write and of zeroing, and the canonical form determining the table. -/
theorem bytesReadWhatWasWritten : Obligations.BytesReadWhatWasWritten := by
  refine ⟨fun m a bs hm => ⟨Mem.wf_write m a bs hm, fun k hk => ?_, fun b hb => Mem.get_write_out m a b bs hb⟩,
    fun m a n hm => ⟨Mem.wf_zero m a n hm, Mem.get_zero m a n⟩, fun m n hm hn h => Tab.ext_of_wf hm hn h⟩
  rw [Mem.get_write_in m a k bs hk, List.getD_eq_getElem bs 0 hk]

end Sys2Proof.Machine

/-! ## Descriptors in work

The ends of COPY, DIGEST, QUIESCE and EVENT_WAIT, and the completion timeout (R262, R285, R286, R316, R331, R410). -/
namespace Sys2Proof.Machine

/-- A descriptor in work is the running one of its opcode that its command names. -/
theorem State.inWork.running {s : State} {r : DescRef} {d : Desc} {n : Nat} (h : s.inWork r d n) : s.running? r n = some d := by
  obtain ⟨hdesc, hstarted, hop⟩ := h
  simp [State.running?, hdesc, hstarted, hop]

/-- Ending a descriptor in work finishes the one that the command names with a bare status. -/
theorem State.inWork.endDesc {s : State} {r : DescRef} {d : Desc} {n : Nat} (h : s.inWork r d n) (t : State) (st : W16) :
    t.endDesc d st = t.finishDesc r.ring.val r.index { status := st } :=
  endDesc_eq_finishDesc h.1 t st

section copy
variable {s : State} {r : DescRef} {d : Desc} (h : s.inWork r d 3)
include h

/-- A COPY whose ranges no longer hold is refused (R285). -/
theorem execCopyDone_of_copyBad (hbad : s.copyBad d = true) :
    execCopyDone r s = .next (s.finishDesc r.ring.val r.index { status := 0x0102 }) := by
  simp only [execCopyDone, h.running, hbad, if_true, h.endDesc, stIllegal]

/-- A COPY from host memory moves its bytes (R316). -/
theorem execCopyDone_of_srcHost (hok : s.copyBad d = false) (hsrc : d.srcHost = true) : execCopyDone r s =
    .next ((s.copyStore d (s.hst.mem.read d.src d.len)).finishDesc r.ring.val r.index { status := 0x0000 }) := by
  simp [execCopyDone, h.running, hok, h.endDesc, hsrc, State.copyBytes, stOk]

/-- A COPY from device memory reads its bytes in its view (R285, R286). -/
theorem execCopyDone_of_sound (hok : s.copyBad d = false) (hsrc : d.srcHost = false) (hread : s.badRead (some d.view) d.src d.len = []) :
    execCopyDone r s = .next (((s.demand (some d.view) d.src d.len false none).copyStore d (s.devRead (some d.view) d.src d.len)).finishDesc
      r.ring.val r.index { status := 0x0000 }) := by
  simp [execCopyDone, h.running, hok, h.endDesc, hsrc, hread, State.copyBytes, stOk]

/-- An uncorrectable source line ends a COPY, which moves nothing (R262). -/
theorem execCopyDone_of_badRead (hok : s.copyBad d = false) (hsrc : d.srcHost = false) {x : Nat} {l : List Nat}
    (hread : s.badRead (some d.view) d.src d.len = x :: l) : execCopyDone r s =
    .next (((s.demand (some d.view) d.src d.len false none).memUEs 2 (x :: l)).finishDesc r.ring.val r.index { status := 0x0301 }) := by
  simp [execCopyDone, h.running, hok, h.endDesc, hsrc, hread, stMemUE]

/-- A completion timeout of a COPY's read from the host fails the COPY (R331). -/
theorem execCompletionTimeout_of_copy (hsrc : d.srcHost = true) :
    execCompletionTimeout r s = .next (s.finishDesc r.ring.val r.index { status := 0x0102 }) := by
  simp only [execCompletionTimeout, h.running, hsrc, if_true, h.endDesc, stIllegal]

end copy

/-- A completion timeout of the read of a descriptor puts its ring in error (R331). -/
theorem execCompletionTimeout_of_take {s : State} {r : DescRef} {f : Nat} (hdesc : s.desc r.ring.val r.index = none)
    (howner : s.ringOwner r.ring.val = some f) (htake : s.canTake r.ring.val f = true) (hdloc : (s.ring r.ring.val).dloc = false)
    (hhead : (s.ring r.ring.val).head = r.index) : execCompletionTimeout r s = .next (s.ringErr r.ring.val 2) := by
  simp [execCompletionTimeout, State.running?, hdesc, howner, htake, hdloc, hhead]

/-- COMPARE of a DIGEST that passes its check is 0 or 1 (R410). -/
theorem compare_of_digestOk {s : State} {d : Desc} (hok : s.digestBad d = false) : bitOf (d.field 56 1) 0 = decide (d.field 56 1 = 1) := by
  have hle : d.field 56 1 ≤ 1 := by
    by_contra hgt
    simp [State.digestBad, Nat.lt_of_not_le hgt] at hok
  interval_cases d.field 56 1 <;> rfl

section digest
variable {s : State} {r : DescRef} {d : Desc} (h : s.inWork r d 9) (hok : s.digestBad d = false)
include h hok

/-- An uncorrectable line ends a DIGEST (R262). -/
theorem execDigestDone_of_badRead {x : Nat} {l : List Nat} (hread : s.badRead (some d.view) (d.field 8 8) (d.field 16 8) = x :: l) :
    execDigestDone r s = .next (((s.demand (some d.view) (d.field 8 8) (d.field 16 8) false none).memUEs 2 (x :: l)).finishDesc
      r.ring.val r.index { status := 0x0301 }) := by
  simp only [execDigestDone, h.running, hok, Bool.false_eq_true, if_false, hread, h.endDesc, stMemUE]

/-- A DIGEST over sound lines completes with its digest, and with DIGEST_MISMATCH where it was to be compared and differs (R325, R410). -/
theorem execDigestDone_of_sound (hread : s.badRead (some d.view) (d.field 8 8) (d.field 16 8) = []) {g : BitVec 128}
    (hg : g = digest (s.devRead (some d.view) (d.field 8 8) (d.field 16 8)) (BitVec.ofNat 128 (d.field 24 16))) : execDigestDone r s =
    .next ((s.demand (some d.view) (d.field 8 8) (d.field 16 8) false none).finishDesc r.ring.val r.index
      { status := if d.field 56 1 = 1 ∧ g.toNat ≠ d.field 40 16 then 0x0702 else 0x0000, r0 := g.toNat % 2 ^ 64, r1 := g.toNat / 2 ^ 64 }) := by
  obtain ⟨hring, hindex⟩ := desc_key h.1
  simp only [execDigestDone, h.running, hok, Bool.false_eq_true, if_false, hread, ← hg, compare_of_digestOk hok, hring, hindex,
    Bool.and_eq_true, decide_eq_true_eq, bne_iff_ne, stDigest, stOk]

end digest

/-- QUIESCE completes once no run of its function is in progress (R316). -/
theorem execQuiesceComplete_of_idle {s : State} {r : DescRef} {d : Desc} (h : s.inWork r d 10)
    (hidle : ∀ e ∈ (s.prt d.func).cfg, e.2.run = none) :
    execQuiesceComplete r s = .next (s.finishDesc r.ring.val r.index { status := 0x0000 }) := by
  have hrunning : s.running d.func = [] :=
    List.filterMap_eq_nil_iff.2 fun e he => by simp [hidle e he]
  simp only [execQuiesceComplete, h.running, hrunning, List.isEmpty_nil, if_true, h.endDesc, stOk]

section wait
variable {s : State} {r : DescRef} {d : Desc}

/-- The condition of an EVENT_WAIT that reads no uncorrectable line decides what follows, after the demand access of its word (R264,
R316). -/
theorem evalWait_of_sound (hread : d.field 8 1 = 0 → s.badRead none (d.field 16 8) 4 = []) (yes no : State → State) :
    s.evalWait d yes no = (if s.waitHolds d = true then yes else no) (if d.field 8 1 = 0 then s.demand none (d.field 16 8) 4 false none else s) := by
  by_cases hword : d.field 8 1 = 0
  · simp only [State.evalWait, hword, if_true, hread hword]
    split <;> rfl
  · simp only [State.evalWait, hword, if_false]
    split <;> rfl

variable (h : s.inWork r d 12)
include h

/-- EVENT_WAIT_CHECK ends the wait whose condition holds (R316). -/
theorem execEventWaitCheck_of_holds (hread : d.field 8 1 = 0 → s.badRead none (d.field 16 8) 4 = []) (hholds : s.waitHolds d = true) :
    execEventWaitCheck r s = .next ((if d.field 8 1 = 0 then s.demand none (d.field 16 8) 4 false none else s).finishDesc r.ring.val r.index
      { status := 0x0000 }) := by
  simp only [execEventWaitCheck, h.running, evalWait_of_sound hread, hholds, if_true, h.endDesc, stOk]

/-- EVENT_WAIT_DEADLINE ends the wait whose deadline has passed without its condition (R316). -/
theorem execEventWaitDeadline_of_late (hread : d.field 8 1 = 0 → s.badRead none (d.field 16 8) 4 = []) (hset : d.field 32 8 ≠ 0)
    (hlate : d.field 32 8 < s.now) (hholds : s.waitHolds d = false) : execEventWaitDeadline r s =
    .next ((if d.field 8 1 = 0 then s.demand none (d.field 16 8) 4 false none else s).finishDesc r.ring.val r.index { status := 0x0802 }) := by
  have hpast : d.field 32 8 ≠ 0 ∧ d.field 32 8 < s.now := ⟨hset, hlate⟩
  simp only [execEventWaitDeadline, h.running, if_pos hpast, evalWait_of_sound hread, hholds, Bool.false_eq_true, if_false, h.endDesc,
    stDeadline]

/-- A word in an uncorrectable line ends the wait (R262). -/
theorem execEventWaitCheck_of_badRead (hword : d.field 8 1 = 0) {x : Nat} {l : List Nat}
    (hread : s.badRead none (d.field 16 8) 4 = x :: l) : execEventWaitCheck r s =
    .next (((s.demand none (d.field 16 8) 4 false none).memUEs 8 (x :: l)).finishDesc r.ring.val r.index { status := 0x0301 }) := by
  simp only [execEventWaitCheck, h.running, State.evalWait, hword, if_true, hread, h.endDesc, stMemUE]

end wait

/-- Settles O23: each end of a descriptor in work by what it finds. -/
theorem startedDescriptorsComplete : Obligations.StartedDescriptorsComplete := by
  refine ⟨?copy, ?copyBad, ?digestBad, ?digest, ?quiesce, ?wait, ?waitBad, ?copyTimeout, ?takeTimeout⟩
  case copy =>
    exact fun s r d h hok => ⟨execCopyDone_of_srcHost h hok, execCopyDone_of_sound h hok, fun hsrc x l => execCopyDone_of_badRead h hok hsrc⟩
  case copyBad => exact fun s r d h hbad => execCopyDone_of_copyBad h hbad
  case digestBad => exact fun s r d h hok x l hread => execDigestDone_of_badRead h hok hread
  case digest => exact fun s r d g h hok hread hg => execDigestDone_of_sound h hok hread hg
  case quiesce => exact fun s r d h hidle => execQuiesceComplete_of_idle h hidle
  case wait =>
    rintro s t r d h rfl hread
    exact ⟨execEventWaitCheck_of_holds h hread, execEventWaitDeadline_of_late h hread⟩
  case waitBad => exact fun s r d x l h hword hread => execEventWaitCheck_of_badRead h hword hread
  case copyTimeout => exact fun s r d h hsrc => execCompletionTimeout_of_copy h hsrc
  case takeTimeout =>
    exact fun s r f hdesc howner htake hdloc hhead => execCompletionTimeout_of_take hdesc howner htake hdloc hhead

end Sys2Proof.Machine

/-! ## Page commands

MEM_PAGE_SEL and the commands of MEM_PAGE_CMD, by the check of each (R257, R277, R278, R283, R287 to R289, R292). -/
namespace Sys2Proof.Machine

section command
variable {s : State} {f : Func} (hreach : s.reachesPF f.val = true) (hbusy : s.mem.cmd.busy = false)
include hreach hbusy

/-- A page command that is heard ends as its check gives (R289). -/
theorem pageCommand_of_heard (check : W16) (op g : Nat) (eff : State → State) : s.pageCommand f.val op g check eff =
    if check = 0x0000 then (eff s).pageDone (pageWord op g) 0x0000 else s.pageDone (pageWord op g) check :=
  if_neg (by simp [hreach, hbusy])

/-- A page command that its check lets through takes its effect and ends with OK (R289). -/
theorem pageCommand_of_ok {check : W16} (hok : check = 0x0000) (op g : Nat) (eff : State → State) :
    s.pageCommand f.val op g check eff = (eff s).pageDone (pageWord op g) 0x0000 :=
  (pageCommand_of_heard hreach hbusy check op g eff).trans (if_pos hok)

/-- A page command that its check refuses reports it and does nothing else (R289). -/
theorem pageCommand_of_refused {check : W16} (hbad : check ≠ 0x0000) (op g : Nat) (eff : State → State) :
    s.pageCommand f.val op g check eff = s.pageDone (pageWord op g) check :=
  (pageCommand_of_heard hreach hbusy check op g eff).trans (if_neg hbad)

/-- A SET that its check refuses reports it and does nothing else (R289). -/
theorem execSetPage_of_refused (hbad : s.setCheck ≠ 0x0000) : execSetPage f s = .next (s.pageDone (pageWord 3 s.heldGroup) s.setCheck) :=
  (if_neg (by simp [hreach, hbusy])).trans (if_pos hbad)

end command

/-- ALLOC of an unmapped page with a consistent entry, whose group takes it, within the quota and with space, passes its check (R289). -/
theorem allocCheck_of_room {s : State} {p : Page} (hv : (s.page s.mem.sel).v = false) (hentry : entryPage s.mem.entry = some p)
    (hgroup : p.vers = true → (s.group p.vgroup).state = .unused ∨ (s.group p.vgroup).state = .openG ∧ (s.group p.vgroup).owner = p.owner)
    (hquota : s.usedUnits p.owner + p.units ≤ s.quotaLimit p.owner) (hspace : s.hasSpace p.spread p.setbase p.units = true) :
    s.allocCheck = 0x0000 := by
  have hown : ¬ (p.vers = true ∧ (s.group p.vgroup).state ≠ .unused ∧ (s.group p.vgroup).owner ≠ p.owner) := by
    rintro ⟨hvers, hused, howner⟩
    exact (hgroup hvers).elim hused (fun h => howner h.2)
  have hopen : ¬ (p.vers = true ∧ (s.group p.vgroup).state = .sealed) := by
    rintro ⟨hvers, hsealed⟩
    rcases hgroup hvers with h | ⟨h, -⟩ <;> simp [hsealed] at h
  simp only [State.allocCheck, hv, Bool.false_eq_true, if_false, hentry, if_neg hown, if_neg hopen, if_neg (Nat.not_lt.2 hquota), hspace,
    Bool.not_true, stOk]

/-- FREE of a mapped page that is not sealed passes its check (R289). -/
theorem freeCheck_of_mapped {s : State} (hv : (s.page s.mem.sel).v = true) (hopen : s.sealedPage s.mem.sel = false) :
    s.freeCheck = 0x0000 := by
  simp [State.freeCheck, hv, hopen, stOk]

section set
variable {s : State} {f : Func} (hreach : s.reachesPF f.val = true) (hbusy : s.mem.cmd.busy = false) (hok : s.setCheck = 0x0000)
include hreach hbusy hok

/-- A SET that its check lets through changes PIN; with PIN it waits for the move in progress, or for the one to a new set, unless that
move is barred (R277, R278, R289). -/
theorem execSetPage_of_ok {n e : Nat} {p : Page} {z : State} (hn : n = s.mem.sel) (hp : p = s.page n) (he : e = s.mem.entry.toNat)
    (hz : z = s.modPage n (fun x => { x with pin := bitOf e 61 })) : execSetPage f s = .next
      (if bitOf e 61 = true ∧ (p.moving.isSome = true ∨ ¬ (p.spread = bits e 40 38 ∧ p.setbase = bits e 37 33) ∧ s.moveBarred p = false) then
        (if p.moving.isSome = true then z else z.startMove n (bits e 40 38) (bits e 37 33)).modMem (fun m =>
          { m with cmd := { field := pageWord 3 s.heldGroup, busy := true, status := 0x0000 }, setting := some n })
      else z.pageDone (pageWord 3 s.heldGroup) 0x0000) := by
  subst hn hp he hz
  have hgo : (!s.reachesPF f.val || s.mem.cmd.busy) = false := by rw [hreach, hbusy]; rfl
  rw [apply_ite Host.Outcome.next]
  simp only [execSetPage, hgo, hok, stOk, ne_eq, not_true_eq_false, Bool.false_eq_true, if_false, Bool.and_eq_true, Bool.or_eq_true,
    Bool.not_eq_true', Bool.and_eq_false_iff, beq_eq_false_iff_ne, not_and_or]

end set

/-- Settles O28: each command by its check, and what a check that passes lets happen. -/
theorem pageCommandsChangePages : Obligations.PageCommandsChangePages := by
  refine ⟨?select, ?alloc, ?free, ?set, ?unused, ?used, ?refused, fun s word st => ⟨rfl, rfl⟩⟩
  case select =>
    rintro s f v n hreach rfl
    exact if_pos hreach
  case alloc =>
    rintro s f p z hreach hbusy hv hentry hgroup hquota hspace rfl
    refine congrArg Host.Outcome.next ((pageCommand_of_ok hreach hbusy (allocCheck_of_room hv hentry hgroup hquota hspace) 1 _ _).trans ?_)
    rw [hentry]
  case free =>
    rintro s f p z hreach hbusy rfl hv hopen rfl
    exact congrArg Host.Outcome.next (pageCommand_of_ok hreach hbusy (freeCheck_of_mapped hv hopen) 2 _ _)
  case set =>
    rintro s f p e n pin z hreach hbusy hn hp he rfl hok hz
    have hexec := execSetPage_of_ok hreach hbusy hok hn hp he hz
    refine ⟨fun h => hexec.trans (congrArg _ (if_neg ?_)), fun hpin hstill hset hfree => hexec.trans (congrArg _ ?_),
      fun hpin hmoving => hexec.trans (congrArg _ ?_)⟩
    · rintro ⟨hpin, hmove⟩
      rcases h with h | ⟨hstill, h⟩
      · exact Bool.false_ne_true (h.symm.trans hpin)
      · simp only [hstill, Option.isSome_none, Bool.false_eq_true, false_or] at hmove
        exact h.elim hmove.1 (fun hbar => Bool.false_ne_true (hmove.2.symm.trans hbar))
    · rw [if_pos ⟨hpin, .inr ⟨hset, hfree⟩⟩, hstill]
      rfl
    · rw [if_pos ⟨hpin, .inl hmoving⟩, if_pos hmoving]
  case unused =>
    intro s f g hreach hbusy hunused
    constructor
    · show execSealGroup f g s = _
      rw [execSealGroup, if_pos hunused, pageCommand_of_refused hreach hbusy (by decide), stIllegal]
    · show execOpenGroup f g s = _
      rw [execOpenGroup, if_pos hunused, pageCommand_of_refused hreach hbusy (by decide), stIllegal]
  case used =>
    intro s f g hreach hbusy hused
    refine ⟨?_, fun hnone => ?_, fun hsome => ?_⟩
    · exact congrArg Host.Outcome.next (pageCommand_of_ok hreach hbusy (if_neg hused) 4 _ _)
    · exact congrArg Host.Outcome.next (pageCommand_of_ok hreach hbusy (by rw [if_neg hused, hnone]; rfl) 5 _ _)
    · show execOpenGroup f g s = _
      rw [execOpenGroup, if_neg hused, if_pos hsome, pageCommand_of_refused hreach hbusy (by decide), stInUse]
  case refused =>
    intro s f hreach hbusy
    exact ⟨fun hbad => congrArg Host.Outcome.next (pageCommand_of_refused hreach hbusy hbad 1 _ _),
      fun hbad => congrArg Host.Outcome.next (pageCommand_of_refused hreach hbusy hbad 2 _ _), execSetPage_of_refused hreach hbusy⟩

end Sys2Proof.Machine

/-! ## Scrubbing, migration and lifts

What the memory system does by itself (R258 to R262, R267, R274 to R278). -/
namespace Sys2Proof.Machine

/-! ### Scrubbing -/

section scrub
variable {s : State} {st : StackIx} {line : Nat} {found : LineFound}
  (hmine : line < 137438953472 → (!(s.page (line % 68719476736 / 32768)).v) = false → s.stackOf (64 * (line % 68719476736)) = st.val)
include hmine

/-- A controller scrubs reserved storage, free storage, and the mapped pages of its stack (R260). -/
theorem scrub_heard : (!decide (137438953472 ≤ line) && !(!decide (137438953472 ≤ line) && !(s.page (line % 68719476736 / 32768)).v)
    && s.stackOf (64 * (line % 68719476736)) != st.val) = false := by
  by_cases hstored : 137438953472 ≤ line
  · simp [hstored]
  · cases hv : (s.page (line % 68719476736 / 32768)).v with
    | false => simp [hstored]
    | true => simp [hmine (Nat.lt_of_not_le hstored) (by simp [hv])]

/-- A sound line leaves the scrub at its reports (R258, R260). -/
theorem execScrub_of_clean (hfound : found = .clean) (hbad : line ∉ s.mem.bad) (hsoft : line ∉ s.mem.soft) :
    execScrub st line found s = .next (s.scrubs st.val) := by
  simp only [execScrub, scrub_heard hmine, hfound, List.contains_eq_mem, hbad, hsoft, reduceCtorEq, decide_false, or_self,
    Bool.false_eq_true, if_false]

/-- A line that can be corrected is counted and written back (R259). -/
theorem execScrub_of_corrected (hfound : found ≠ .uncorrectable) (hbad : line ∉ s.mem.bad) (hsoft : found = .corrected ∨ line ∈ s.mem.soft) :
    execScrub st line found s = .next (((s.scrubs st.val).modMem (fun m => m.correct line)).bump (offCtl st.val 8) 1) := by
  simp only [execScrub, scrub_heard hmine, hfound, List.contains_eq_mem, hbad, decide_eq_true_eq, hsoft, or_self, Bool.false_eq_true,
    if_false, if_true]

/-- A line that cannot be corrected is marked where its page is mapped or the line is reserved storage, and met: counted, and below reserved
storage logged and reported too (R260 to R262). -/
theorem execScrub_of_uncorrectable (hfound : found = .uncorrectable ∨ line ∈ s.mem.bad) {u : State}
    (hu : u = (s.scrubs st.val).modMem (fun m => { m with
      bad := if (line < 137438953472 ∧ (!(s.page (line % 68719476736 / 32768)).v) = true) ∨ line ∈ m.bad then m.bad else m.bad ++ [line] })) :
    execScrub st line found s = .next
      (if 137438953472 ≤ line then u.bump (memBase + 0x30) 1 else u.memUE 4 (line % 68719476736)) := by
  subst hu
  rw [apply_ite Host.Outcome.next]
  simp only [execScrub, scrub_heard hmine, List.contains_eq_mem, decide_eq_true_eq, if_pos hfound, Bool.false_eq_true, if_false,
    Bool.or_eq_true, Bool.and_eq_true, Bool.not_eq_true', decide_eq_false_iff_not, Nat.not_le]

end scrub

/-! ### Migration -/

section move
variable {s : State} {n : Fin 2097152} {sp b : Nat} (hmoving : (s.page n.val).moving = some (sp, b))
include hmoving

/-- A sound chunk that is not the last is copied, and no cache keeps a line of it (R266, R277). -/
theorem execMigrationMove_of_chunk {a : Nat} (ha : a = n.val * 2097152 + 4096 * (s.page n.val).chunk) (hread : s.badRead none a 4096 = [])
    (hchunk : (s.page n.val).chunk < 511) : execMigrationMove n s =
    .next (((s.correctLines a 4096).dropChunks n.val ((s.page n.val).chunk + 1)).modPage n.val (fun x => { x with chunk := x.chunk + 1 })) := by
  subst ha
  have hmore : (s.page n.val).chunk + 1 < 512 := by omega
  simp only [execMigrationMove, hmoving, pageBytes, hread, ne_eq, not_true_eq_false, if_false, if_pos hmore]

/-- With the last chunk the page stands at its new set, and the move is counted (R266, R277). -/
theorem execMigrationMove_of_last {a : Nat} (ha : a = n.val * 2097152 + 4096 * (s.page n.val).chunk) (hread : s.badRead none a 4096 = [])
    (hchunk : (s.page n.val).chunk = 511) : execMigrationMove n s =
    .next ((((((s.correctLines a 4096).dropChunks n.val ((s.page n.val).chunk + 1)).modPage n.val (fun x =>
      { x with moving := none, chunk := 0, spread := sp, setbase := b, stuck := [] })).dropPage n.val).bump (memBase + 0x38) 1).moveEnded n.val) := by
  subst ha
  have hlast : ¬ (s.page n.val).chunk + 1 < 512 := by omega
  simp only [execMigrationMove, hmoving, pageBytes, hread, ne_eq, not_true_eq_false, if_false, if_neg hlast]

/-- An uncorrectable line of the chunk ends the move (R278). -/
theorem execMigrationMove_of_badRead {a : Nat} (ha : a = n.val * 2097152 + 4096 * (s.page n.val).chunk) {x : Nat} {l : List Nat}
    (hread : s.badRead none a 4096 = x :: l) : execMigrationMove n s =
    .next (((s.correctLines a 4096).memUEs 6 (x :: l)).abandonMove n.val (x :: l)) := by
  subst ha
  simp only [execMigrationMove, hmoving, pageBytes, hread, ne_eq, List.cons_ne_nil, not_false_eq_true, if_true]

end move

/-! ### Windows -/

section window
variable {s : State} (hready : s.ready = true) (hlasted : s.mem.winStart + s.window ≤ s.now)
include hready hlasted

/-- A window that has lasted WINDOW ends: the candidates move, where moves are enabled and a window has passed since ready, and the counts
age (R274 to R276). -/
theorem execMigrationWindowEnd_of_lasted : execMigrationWindowEnd s =
    .next ((if (s.reg (memBase + 8)).getLsbD 31 = true ∧ s.mem.winSeen = true
        then ((s.migCandidates.foldl (fun a x => migInsert x a) []).foldl migStart (s, 0, [])).1 else s).modMem (fun m =>
      { m with winStart := s.now, winSeen := true, mig := m.mig.filterMap (fun e =>
        if e.2.total = 0 then none else some (e.1, { prevTotal := e.2.total, prevPair := e.2.pair })) })) := by
  have hgo : (!s.ready || decide (s.now < s.mem.winStart + s.window)) = false := by simp [hready, hlasted]
  simp only [execMigrationWindowEnd, hgo, Bool.false_eq_true, if_false, Bool.and_eq_true]
  rfl

end window

/-- A candidate moves within the budgets and the space there is (R276). -/
theorem migStart_of_room {s : State} {x : Nat × Nat × Nat × Nat} {k : Nat} {spent : Tab Nat} (hk : k < 256)
    (hbudget : Tab.get 0 spent (s.page x.1).owner + 2 ≤ s.migBudget (s.page x.1).owner) (hspace : s.hasSpace x.2.2.1 x.2.2.2 1 = true) :
    migStart (s, k, spent) x = (s.startMove x.1 x.2.2.1 x.2.2.2, k + 1,
      Tab.put 0 spent (s.page x.1).owner (Tab.get 0 spent (s.page x.1).owner + 2)) :=
  if_pos ⟨hk, hbudget, hspace⟩

/-- Beyond the moves of a window, or its owner's budget, a candidate stays (R276). -/
theorem migStart_of_spent {s : State} {x : Nat × Nat × Nat × Nat} {k : Nat} {spent : Tab Nat}
    (h : 256 ≤ k ∨ s.migBudget (s.page x.1).owner < Tab.get 0 spent (s.page x.1).owner + 2) : migStart (s, k, spent) x = (s, k, spent) := by
  refine if_neg ?_
  rintro ⟨hk, hbudget, -⟩
  exact h.elim (Nat.not_le.2 hk) (Nat.not_lt.2 hbudget)

/-! ### Lifts -/

section lift
variable {s : State} {st : StackIx} {slot : Fin 64} {x : Stream} {a k addr : Nat} {c : Ctl}
  (hstream : (s.ctl st.val).getStream slot.val = some x) (hnext : x.next = some a) (hline : s.lineAddr st.val a = some (k, addr))
  (hc : c = { s.ctl st.val with stream := Tab.put none (s.ctl st.val).stream slot.val (some { x with ahead := a }), scrubbing := false })
include hstream hnext hline hc

/-- An uncorrectable line that a stream would bring in is met, and does not come (R262, R267). -/
theorem execLiftPrefetch_of_bad (hbad : badKey k (lineOf addr) ∈ s.mem.bad) :
    execLiftPrefetch st slot s = .next ((s.modCtl st.val (fun _ => c)).memUE 5 (lineOf addr)) := by
  simp only [execLiftPrefetch, hstream, hnext, hline, ← hc, List.contains_eq_mem, hbad, decide_true, if_true]

variable (hsound : badKey k (lineOf addr) ∉ s.mem.bad)
include hsound

/-- A line that is cached already moves its stream alone (R267). -/
theorem execLiftPrefetch_of_cached (hcached : c.cached a = true) : execLiftPrefetch st slot s = .next (s.modCtl st.val (fun _ => c)) := by
  simp only [execLiftPrefetch, hstream, hnext, hline, ← hc, List.contains_eq_mem, hsound, decide_false, Bool.false_eq_true, if_false,
    hcached, if_true]

/-- A sound line that is not cached comes into the cache, marked as its stream's, and the line that it pushes out is evicted (R259, R264,
R267). -/
theorem execLiftPrefetch_of_new (hcached : c.cached a = false) {r : Ctl × Option CLine} {t u : State}
    (hr : r = c.fill { line := a, key := badKey k (lineOf addr), dirty := false, lift := some (slot.val, x.serial) })
    (ht : t = (s.modMem (fun m => (m.correct (badKey k (lineOf addr))).evict r.2)).modCtl st.val (fun _ => r.1.evict r.2))
    (hu : u = if badKey k (lineOf addr) ∈ s.mem.soft then t.bump (offCtl st.val 8) 1 else t) :
    execLiftPrefetch st slot s = .next (if (r.2.bind CLine.lift).isSome = true then u.bump (offCtl st.val 0x28) 1 else u) := by
  subst hu ht hr
  simp only [execLiftPrefetch, hstream, hnext, hline, ← hc, List.contains_eq_mem, hsound, decide_false, Bool.false_eq_true, if_false,
    hcached, decide_eq_true_eq]

end lift

/-- Settles O29: a scrub by what it finds, a move by its chunk, a window by its budgets, and a prefetch by the line that is next. -/
theorem memoryTendsItself : Obligations.MemoryTendsItself := by
  refine ⟨?scrub, ?move, ?window, ?budget, ?lift⟩
  case scrub =>
    rintro s t st line found free rfl rfl hmine
    refine ⟨execScrub_of_clean hmine, execScrub_of_corrected hmine, fun hfound u hu => ?_⟩
    have hexec := execScrub_of_uncorrectable hmine hfound hu
    exact ⟨fun hlow => hexec.trans (congrArg _ (if_neg (Nat.not_le.2 hlow))), fun hhigh => hexec.trans (congrArg _ (if_pos hhigh))⟩
  case move =>
    rintro s t u n sp b a hmoving ha rfl rfl
    refine ⟨execMigrationMove_of_chunk hmoving ha, execMigrationMove_of_last hmoving ha, ?_⟩
    rintro x l v hread rfl
    exact execMigrationMove_of_badRead hmoving ha hread
  case window =>
    rintro s aged hready hlasted rfl
    have hexec := execMigrationWindowEnd_of_lasted hready hlasted
    refine ⟨fun hoff => hexec.trans ?_, fun hen hseen => hexec.trans ?_⟩
    · rw [if_neg]
      rintro ⟨hen, hseen⟩
      exact hoff.elim (fun h => Bool.false_ne_true (h.symm.trans hen)) (fun h => Bool.false_ne_true (h.symm.trans hseen))
    · rw [if_pos ⟨hen, hseen⟩]
  case budget => exact fun s x k spent => ⟨migStart_of_room, migStart_of_spent⟩
  case lift =>
    intro s st slot x a k addr c hstream hnext hline hc
    exact ⟨execLiftPrefetch_of_bad hstream hnext hline hc, execLiftPrefetch_of_cached hstream hnext hline hc,
      fun hsound hcached r t u => execLiftPrefetch_of_new hstream hnext hline hc hsound hcached⟩

end Sys2Proof.Machine

/-! ## The taking of descriptors

DESCRIPTOR_TAKE by the ring's turn, its context, and where its descriptor lies (R262, R306, R307, R311, R313, R331). -/
namespace Sys2Proof.Machine

/-- Writing contexts back leaves the rings (R306). -/
@[simp] theorem ring_writeBack (s : State) (l : List Nat) (r : Nat) : (s.writeBack l).ring r = s.ring r := by
  unfold State.writeBack
  split <;> rfl

/-- Using a context leaves the rings (R306). -/
@[simp] theorem ring_useCtx (s : State) (q r : Nat) : (s.useCtx q).ring r = s.ring r :=
  ring_writeBack _ _ r

/-- Serving a ring leaves its context where it was (R306, R313). -/
@[simp] theorem ctxBad_serve (s : State) (f q r : Nat) : (s.serve f q).ctxBad r = s.ctxBad r := rfl

/-- A work or pool ring in service takes descriptors while fewer than 64 of it are in progress (R311). -/
theorem canTake_of_inService {s : State} {r f : Nat} (hready : s.ready = true) (hkind : (s.ring r).kind = .work ∨ (s.ring r).kind = .pool)
    (herror : (s.ring r).error = false) (hmore : (s.ring r).head ≠ (s.ring r).tail) (hreset : s.resetting f = false) :
    s.canTake r f = decide ((s.ring r).inprog < 64) := by
  rcases hkind with hkind | hkind <;> simp [State.canTake, hready, hkind, herror, hmore, hreset]

section take
variable {s : State} {r : Fin 1048576} {f : Nat} (howner : s.ringOwner r.val = some f)
include howner

/-- A ring that can take nothing, or whose turn it is not, stays as it is (R311, R313). -/
theorem execDescriptorTake_of_not_served (h : s.canTake r.val f = false ∨ s.myTurn f r.val = false) (w : Option HostFail) :
    execDescriptorTake r w s = .next s := by
  have hno : (!s.canTake r.val f || !s.myTurn f r.val) = true := by simpa using h
  simp only [execDescriptorTake, howner, hno, if_true]

variable (htake : s.canTake r.val f = true) (hturn : s.myTurn f r.val = true)
include htake hturn

/-- A context that has to be read from an uncorrectable line puts the ring in error (R307). -/
theorem execDescriptorTake_of_ctxBad (hctx : s.ctxBad r.val = true) (w : Option HostFail) :
    execDescriptorTake r w s = .next ((s.serve f r.val).ctxError r.val) := by
  simp [execDescriptorTake, howner, htake, hturn, hctx]

/-- A ring whose turn it is reads the descriptor at BASE + 64 x (HEAD mod 2^LOG2SZ) from the host or from its function's pages, and takes
it; a read that fails puts the ring in error (R262, R311, R331). -/
theorem execDescriptorTake_of_served (hctx : s.ctxBad r.val = false) {t : State} {a : Nat} (ht : t = (s.serve f r.val).useCtx r.val)
    (ha : a = (s.ring r.val).base.toNat + 64 * ((s.ring r.val).head.toNat % 2 ^ (s.ring r.val).logsz)) (w : Option HostFail) :
    execDescriptorTake r w s = .next
      (if (s.ring r.val).dloc = true then
        if t.owns f a 64 = false then t.ringErr r.val 4
        else if t.badRead none a 64 = [] then (t.demand none a 64 false none).takeOrWait r.val f (t.devRead none a 64)
        else ((t.demand none a 64 false none).memUEs 8 (t.badRead none a 64)).ringErr r.val 5
      else if w = none then t.takeOrWait r.val f (t.hst.mem.read a 64)
      else t.ringErr r.val (if w = some .unsupported then 2 else 3)) := by
  have hring : t.ring r.val = s.ring r.val := by rw [ht, ring_useCtx]; rfl
  simp only [execDescriptorTake, howner, htake, hturn, ctxBad_serve, hctx, Bool.not_true, Bool.or_self, Bool.false_eq_true, if_false, ← ht,
    hring, ← ha]
  cases (s.ring r.val).dloc with
  | false => rcases w with - | (- | -) <;> rfl
  | true =>
    cases t.owns f a 64 with
    | false => rfl
    | true => cases t.badRead none a 64 <;> rfl

end take

/-- Settles O34: by the ring's turn, its context, and where its descriptor lies. -/
theorem descriptorsAreTakenInOrder : Obligations.DescriptorsAreTakenInOrder := by
  rintro s t r f a g took howner rfl hready hkind herror hmore hreset
  have hcan := canTake_of_inService hready hkind herror hmore hreset
  refine ⟨fun hno w => ?_, fun hroom hturn hctx w => ?_, fun hroom hturn hctx ht ha htook => ?_⟩
  · refine execDescriptorTake_of_not_served howner (hno.imp_left fun hfull => ?_) w
    rw [hcan, decide_eq_false (Nat.not_lt.2 hfull)]
  · exact execDescriptorTake_of_ctxBad howner (hcan.trans (decide_eq_true hroom)) hturn hctx w
  · have htake := hcan.trans (decide_eq_true hroom)
    have htookEq : ∀ u raw, took u raw = u.takeOrWait r.val f raw := fun u raw => by
      simp only [htook, State.takeOrWait, State.takeDesc, Bool.and_eq_true, beq_iff_eq]
    have hexec := execDescriptorTake_of_served howner htake hturn hctx ht ha
    simp only [htookEq]
    refine ⟨fun hloc => ?_, fun w hloc howns => ?_, fun w hloc howns hread => ?_, fun w x l hloc howns hread => ?_⟩
    · simp only [hloc, Bool.false_eq_true, if_false] at hexec
      exact ⟨hexec none, hexec (some .unsupported), hexec (some .translation)⟩
    · exact (hexec w).trans (congrArg _ ((if_pos hloc).trans (if_pos howns)))
    · rw [hloc, howns, hread] at hexec
      exact hexec w
    · rw [hloc, howns, hread] at hexec
      exact hexec w

end Sys2Proof.Machine

/-! ## Partitions and REMAP

ASSIGN and RELEASE, the phases of a partition reset, and the two halves of a REMAP (R334, R335, R338, R341, R431 to R433). -/
namespace Sys2Proof.Machine

/-! ### Assignment -/

section assignment
variable {s : State} {f g : Func} (hreach : s.reachesPF f.val = true) (hport : portOf f.val = portOf g.val)
  (hbusy : (s.prt g.val).cmd.busy = false)
include hreach hport hbusy

/-- A host that reaches the physical function of the port may write PART_CMD where it is not busy (R333, R335). -/
theorem partWrites_of_idle : s.partWrites f.val g.val = true := by
  simp [State.partWrites, hreach, hport, hbusy]

/-- ASSIGN is refused, or gives the function the enabled clusters of its rectangle that belong to none (R334, R409). -/
theorem execAssign_of_idle : execAssign f g s = .next (if s.assignBad g.val = true then s.partDone g.val 2 0x0102
    else (s.each ((rectSites (s.prt g.val).rect.toNat).filter (fun i => s.enabled i && (s.clu i).owner.isNone)) (fun u i =>
      u.modClu i (fun c => { c.clearWindow with owner := some g.val }))).partDone g.val 2 0x0000) := by
  rw [apply_ite Host.Outcome.next]
  simp only [execAssign, partWrites_of_idle hreach hport hbusy, Bool.not_true, Bool.false_eq_true, if_false, stIllegal, stOk]

/-- RELEASE is refused, or takes the function's clusters of its rectangle (R334, R476). -/
theorem execRelease_of_idle : execRelease f g s = .next (if s.releaseBad g.val = true then s.partDone g.val 3 0x0102
    else (s.each ((rectSites (s.prt g.val).rect.toNat).filter (fun i => (s.clu i).owner == some g.val)) (fun u i =>
      (u.modClu i (fun c => { c with owner := none })).retirePending i)).partDone g.val 3 0x0000) := by
  rw [apply_ite Host.Outcome.next]
  simp only [execRelease, partWrites_of_idle hreach hport hbusy, Bool.not_true, Bool.false_eq_true, if_false, stIllegal, stOk]

end assignment

/-! ### The phases of a reset -/

section phases
variable {s : State} {f : Func} {r : ResetRun} (hreset : (s.prt f.val).reset = some r)
include hreset

/-- The flush ends when nothing of the function is in flight, and no credit of its clusters is on its way (R338). -/
theorem execResetFlushDone_of_quiet (hflight : Tab.get 0 s.fab.inflight f.val = 0)
    (hcredits : ∀ k ∈ s.fab.credits, (s.clu k.site).owner ≠ some f.val) :
    execResetFlushDone f s = .next (s.modPart f.val (fun p => { p with reset := some { r with flushed := true } })) := by
  have hnone : s.fab.credits.any (fun k => (s.clu k.site).owner == some f.val) = false := by simpa using hcredits
  simp [execResetFlushDone, hreset, hflight, hnone]

/-- The flush ends 10 ms after the request, with what is still in flight lost (R338). -/
theorem execResetFlushLimit_of_late (hopen : r.flushed = false) (hlate : r.since + 10000 ≤ s.now) : execResetFlushLimit f s =
    .next ((s.dropFlight f.val).modPart f.val (fun p => { p with reset := some { r with flushed := true } })) := by
  simp [execResetFlushLimit, hreset, hopen, hlate]

/-- The clear phase ends the reset, which is counted (R338, R341). -/
theorem execResetClearDone_of_flushed (hflushed : r.flushed = true) : execResetClearDone f s =
    .next (((s.clearPhase f.val).modPart f.val (fun p =>
      { cmd := { p.cmd with busy := false }, rect := p.rect, lastRing := p.lastRing, lastTag := p.lastTag, lastStatus := p.lastStatus })).bump
        (offPartResets f.val) 1) := by
  simp [execResetClearDone, hreset, hflushed]

end phases

/-! ### REMAP -/

section remap
variable {s : State} {r : DescRef} {d : Desc}

/-- A REMAP that nothing holds back reads its record (R432, R433). -/
theorem execRemap_of_starts (h : s.starts r d 0x0B) (hok : s.remapDescBad d = false) (hwait : s.remapWaits d.func (d.field 20 2) = false) :
    execRemap r s = .next (s.startRemap d) := by
  simp [execRemap, h.desc_eq, h.not_started, hwait, beginDesc_of_starts h, hok]

/-- A REMAP whose map change is done ends (R433). -/
theorem execRemap_of_inWork (h : s.inWork r d 0x0B) (hdone : s.fab.recomputing = false) : execRemap r s = .next (s.remapEnd d) := by
  obtain ⟨hdesc, hstarted, hop⟩ := h
  simp [execRemap, hdesc, hstarted, hop, hdone]

/-- An uncorrectable line of the record ends a REMAP (R262). -/
theorem startRemap_of_badRead {x : Nat} {y : List Nat} (hread : s.badRead none d.map d.mapLen = x :: y) :
    s.startRemap d = ((s.demand none d.map d.mapLen false none).memUEs 7 (x :: y)).endDesc d 0x0301 := by
  simp only [State.startRemap, hread, stMemUE]

variable {b : List W8} {l o : List Move} {t u : State} (hread : s.badRead none d.map d.mapLen = []) (hb : b = s.devRead none d.map d.mapLen)
  (ht : t = s.demand none d.map d.mapLen false none)
include hread hb ht

/-- A record that breaks R431 refuses the REMAP. -/
theorem startRemap_of_recordBad (hbad : recordBad b = true) : s.startRemap d = t.endDesc d 0x0102 := by
  subst hb ht
  simp only [State.startRemap, hread, hbad, if_true, stIllegal]

variable (hgood : recordBad b = false) (hl : l = (List.range (rd b 2 2)).map (moveOf b))
  (ho : o = l.filter (fun m => s.sectionOwned d.func m.addr)) (hu : u = t.readSections o)
include hgood hl ho hu

/-- An uncorrectable line of a section ends a REMAP (R262). -/
theorem startRemap_of_badSection {x : Nat} {y : List Nat} (hlines : (s.remapLines o).eraseDups = x :: y) :
    s.startRemap d = (u.memUEs 7 (x :: y)).endDesc d 0x0301 := by
  subst hb ht hl ho hu
  simp only [State.startRemap, hread, hgood, Bool.false_eq_true, if_false, hlines, stMemUE]

/-- A REMAP whose record and sections are sound is refused, ends at a scratchpad's uncorrectable word, or commits (R432, R433). -/
theorem startRemap_of_sound (hlines : (s.remapLines o).eraseDups = []) : s.startRemap d =
    if s.remapBad d.func (d.field 20 2) l = true then u.endDesc d 0x0102
    else if l.any (fun m => m.copySp && !(s.clu m.old).spBad.isEmpty) = true then u.endDesc d 0x0301
    else (u.started d).remapCommit d.func (d.field 20 2) l := by
  subst hb ht hl ho hu
  simp only [State.startRemap, hread, hgood, Bool.false_eq_true, if_false, hlines, stIllegal, stMemUE]

end remap

/-- Settles O36: ASSIGN and RELEASE by their checks, a reset by its phase, and a REMAP by its record, its sections and its moves. -/
theorem partitionsGainLoseAndMoveClusters : Obligations.PartitionsGainLoseAndMoveClusters := by
  refine ⟨?assignment, ?phases, ?start, fun s r d h hdone => execRemap_of_inWork h hdone⟩
  case assignment =>
    intro s f g hreach hport hbusy
    have hassign := execAssign_of_idle hreach hport hbusy
    have hrelease := execRelease_of_idle hreach hport hbusy
    exact ⟨fun hok => hassign.trans (congrArg _ (if_neg (Bool.not_eq_true _ ▸ hok))), fun hbad => hassign.trans (congrArg _ (if_pos hbad)),
      fun hok => hrelease.trans (congrArg _ (if_neg (Bool.not_eq_true _ ▸ hok))), fun hbad => hrelease.trans (congrArg _ (if_pos hbad))⟩
  case phases =>
    exact fun s f r hreset =>
      ⟨execResetFlushDone_of_quiet hreset, execResetFlushLimit_of_late hreset, execResetClearDone_of_flushed hreset⟩
  case start =>
    rintro s t r d c done h rfl hok hwait ht rfl
    have hexec := execRemap_of_starts h hok hwait
    have hend := endDesc_eq_finishDesc h.desc_eq
    simp only [← hend]
    refine ⟨fun x y hread => ?_, fun b l o u hread hb hl ho hu => ⟨fun hbad => ?_, fun hgood => ⟨fun x y hlines => ?_,
      fun hlines hbad => ?_, fun hlines hmove => ?_⟩⟩⟩
    · exact hexec.trans (congrArg _ (ht ▸ startRemap_of_badRead hread))
    · exact hexec.trans (congrArg _ (startRemap_of_recordBad hread hb ht hbad))
    · exact hexec.trans (congrArg _ (startRemap_of_badSection hread hb ht hgood hl ho hu hlines))
    · exact hexec.trans (congrArg _ ((startRemap_of_sound hread hb ht hgood hl ho hu hlines).trans (if_pos hbad)))
    · have hspare := hexec.trans (congrArg _ ((startRemap_of_sound hread hb ht hgood hl ho hu hlines).trans
        (if_neg (Bool.not_eq_true _ ▸ hmove))))
      refine ⟨fun hex => hspare.trans (congrArg _ (if_pos ?_)), fun hsound => hspare.trans (congrArg _ (if_neg ?_))⟩
      · simpa using hex
      · simpa using hsound

end Sys2Proof.Machine

/-! ## Training steps

STEP_BEGIN and STEP_COMMIT, a home's update, the messages of a step, and its end (R287, R316, R369, R375, R377, R385 to R391). -/
namespace Sys2Proof.Machine

/-- A descriptor that may start and breaks its opcode's check is refused (R312, R315). -/
theorem beginDesc_of_bad {s : State} {r : DescRef} {d : Desc} {n : Nat} (h : s.starts r d n) {op : Nat → Bool} {bad : Desc → Bool}
    (hop : op n = true) (hbad : bad d = true) (eff : Desc → State → State) : s.beginDesc r op bad eff = s.endDesc d 0x0102 := by
  obtain ⟨hdesc, hready, hnew, hopcode, hmay, hhead⟩ := h
  simp [State.beginDesc, hdesc, hready, hnew, hopcode, hmay, hhead, hop, hbad, stIllegal]

/-! ### STEP_BEGIN -/

/-- What STEP_BEGIN asks of its group and its fields (R385). -/
theorem beginBad_eq_false_iff (s : State) (d : Desc) : s.beginBad d = false ↔ (s.group d.vgroup).state = .sealed ∧
    (s.group d.vgroup).owner = d.func ∧ (s.tgroup d.vgroup).loaded = true ∧ (s.tgroup d.vgroup).step = none ∧
    serialBefore 32 (s.tgroup d.vgroup).ended.toNat d.stepNo.toNat = true ∧ s.eng ∈ enginesOf d.engines := by
  simp [State.beginBad, and_assoc]

section stepBegin
variable {s : State} {r : DescRef} {d : Desc} (h : s.starts r d 7)
include h

/-- STEP_BEGIN opens its step and gives it the messages held for it (R375, R385). -/
theorem execStepBegin_of_good (hok : s.beginBad d = false) : execStepBegin r s = .next (((s.modTgroup d.vgroup (fun x =>
    { x with step := some (stepOf d), uncommitted := none, early := [] })).each (s.tgroup d.vgroup).early (fun u m =>
      if serialBefore 32 (s.tgroup d.vgroup).ended.toNat m.step.toNat = true then u.holdOrGive m else u)).finishDesc r.ring.val r.index
        { status := 0x0000 }) := by
  rw [execStepBegin, beginDesc_of_starts h rfl hok, endDesc_eq_finishDesc h.desc_eq, stOk]

/-- STEP_BEGIN that breaks its check is refused (R385). -/
theorem execStepBegin_of_bad (hbad : s.beginBad d = true) :
    execStepBegin r s = .next (s.finishDesc r.ring.val r.index { status := 0x0102 }) := by
  rw [execStepBegin, beginDesc_of_bad h rfl hbad, endDesc_eq_finishDesc h.desc_eq]

end stepBegin

/-! ### STEP_COMMIT -/

/-- What STEP_COMMIT asks of its fields (R315, R390). -/
theorem commitFieldsBad_eq_false_iff (s : State) (d : Desc) : s.commitFieldsBad d = false ↔ d.opt ≤ 1 ∧ pfmtBad d.pfmt = false ∧
    (s.tgroup d.vgroup).packBad d.pfmt = false ∧ (s.group d.vgroup).owner = d.func ∧ s.owns d.func d.hyper 64 = true := by
  simp [State.commitFieldsBad, and_assoc]

/-- A format of 4 or 6 bits needs whole groups of 32 elements, and parameters at multiples of 64 (R39, R378). -/
theorem packBad_iff (x : TGroup) (p : Nat) : x.packBad p = true ↔
    (vecFmt (BitVec.ofNat 5 p)).width < 8 ∧ (x.nelem.toNat % 32 ≠ 0 ∨ ∃ b ∈ x.blocks, b.pelem % 64 ≠ 0) := by
  simp [TGroup.packBad]

/-- The step that STEP_COMMIT may commit is the open one, not committed yet (R386). -/
theorem commitBad_eq_false_iff {s : State} {d : Desc} {t : TStep} (hstep : (s.tgroup d.vgroup).step = some t) :
    s.commitBad d = false ↔ t.step = d.stepNo ∧ t.commit = none := by
  simp [State.commitBad, hstep]

section stepCommit
variable {s : State} {r : DescRef} {d : Desc} (h : s.starts r d 8)
include h

/-- STEP_COMMIT that may start has no check of its own before its effect, which takes its cases in their order (R312, R386). -/
theorem commit_begins (eff : Desc → State → State) : s.beginDesc r (· == 8) (fun _ => false) eff = eff d s :=
  beginDesc_of_starts h rfl rfl eff

/-- STEP_COMMIT with bad fields is refused (R390). -/
theorem execStepCommit_of_fieldsBad (hbad : s.commitFieldsBad d = true) :
    execStepCommit r s = .next (s.finishDesc r.ring.val r.index { status := 0x0102 }) := by
  simp only [execStepCommit, commit_begins h, hbad, if_true,
    endDesc_eq_finishDesc h.desc_eq, stIllegal]

variable (hfields : s.commitFieldsBad d = false)
include hfields

/-- STEP_COMMIT of a step that has ended before it reports STEP_REPEAT (R391). -/
theorem execStepCommit_of_ended (hended : (s.tgroup d.vgroup).uncommitted = some d.stepNo) : execStepCommit r s =
    .next ((s.modTgroup d.vgroup (fun x => { x with uncommitted := none })).finishDesc r.ring.val r.index { status := 0x0601 }) := by
  simp only [execStepCommit, commit_begins h, hfields, Bool.false_eq_true, if_false,
    hended, if_true, endDesc_eq_finishDesc h.desc_eq, stStepRepeat]

variable (hopen : (s.tgroup d.vgroup).uncommitted ≠ some d.stepNo)
include hopen

/-- STEP_COMMIT that names no step it can commit is refused (R386). -/
theorem execStepCommit_of_commitBad (hbad : s.commitBad d = true) :
    execStepCommit r s = .next (s.finishDesc r.ring.val r.index { status := 0x0102 }) := by
  simp only [execStepCommit, commit_begins h, hfields, Bool.false_eq_true, if_false,
    if_neg hopen, hbad, if_true, endDesc_eq_finishDesc h.desc_eq, stIllegal]

variable (hok : s.commitBad d = false)
include hok

/-- STEP_COMMIT of the open step starts and sends DONE (R386). -/
theorem execStepCommit_of_sound {t : TStep} (hstep : (s.tgroup d.vgroup).step = some t) (hread : s.badRead none d.hyper 64 = []) :
    execStepCommit r s = .next (s.startCommit d t) := by
  simp only [execStepCommit, commit_begins h, hfields, Bool.false_eq_true, if_false,
    if_neg hopen, hok, hread, hstep]

/-- STEP_COMMIT whose hyperparameters lie in an uncorrectable line ends with MEM_UNCORRECTABLE (R262). -/
theorem execStepCommit_of_badRead {x : Nat} {l : List Nat} (hread : s.badRead none d.hyper 64 = x :: l) : execStepCommit r s =
    .next ((s.memUEs 3 (x :: l)).finishDesc r.ring.val r.index { status := 0x0301 }) := by
  simp only [execStepCommit, commit_begins h, hfields, Bool.false_eq_true, if_false,
    if_neg hopen, hok, hread, endDesc_eq_finishDesc h.desc_eq, stMemUE]

end stepCommit

/-! ### The end of a step -/

section ends
variable {s : State} {g : Nat} {t : TStep} (hstep : (s.tgroup g).step = some t)
include hstep

/-- A step with a commit ends with its STEP_COMMIT, which completes with the report (R391). -/
theorem endStep_of_commit {c : Commit} (hcommit : t.commit = some c) (p : Report) (home : Bool) : s.endStep g p home =
    (fun v : State => if home = true then v.finishDesc c.desc.1 c.desc.2 p else v.completeDesc c.desc.1 c.desc.2 p)
      ((s.freeBuffers g (t.step.toNat % 2)).modTgroup g (fun x =>
        { x with step := none, ended := t.step, lastDone := engineBits (t.dones.map DoneMsg.eng), uncommitted := none,
                 lastOk := engineBits ((t.verdicts.filter (fun v => v.2 == 0x0000)).map Prod.fst) })) := by
  simp only [State.endStep, hstep, hcommit, Option.isNone_some, Bool.false_eq_true, if_false, stOk]

/-- A step without a commit ends, and is kept for the STEP_COMMIT to come (R391). -/
theorem endStep_of_uncommitted (hcommit : t.commit = none) (p : Report) (home : Bool) : s.endStep g p home =
    (s.freeBuffers g (t.step.toNat % 2)).modTgroup g (fun x =>
      { x with step := none, ended := t.step, lastDone := engineBits (t.dones.map DoneMsg.eng), uncommitted := some t.step,
               lastOk := engineBits ((t.verdicts.filter (fun v => v.2 == 0x0000)).map Prod.fst) }) := by
  simp only [State.endStep, hstep, hcommit, Option.isNone_none, if_true, stOk]

/-- The deadline of an open step ends it with STEP_REPEAT (R391). -/
theorem execStepDeadline_of_late {k : VGroup} (hk : k.val = g) (hlate : t.deadline ≤ s.now) :
    execStepDeadline k s = .next (s.endStep g { status := 0x0601 } true) := by
  subst hk
  simp only [execStepDeadline, hstep, if_pos hlate, rep, stStepRepeat]

variable {e : Nat} {st : W16} {vs : List (Nat × W16)} {u : State} (hvs : vs = (e, st) :: t.verdicts.filter (fun v => v.1 != e))
  (hu : u = s.modTgroup g (fun x => { x with step := some { t with verdicts := vs } }))
include hvs hu

/-- A verdict that is not OK ends the step with its status (R391). -/
theorem verdictIn_of_bad (hst : st ≠ 0x0000) : s.verdictIn g e st = u.endStep g { status := st } (e == s.tow.engineId) := by
  subst hu hvs
  have hbad : st ≠ stOk := hst
  simp only [State.verdictIn, hstep, if_pos hbad, rep]

/-- The last OK advances V_g and ends the step with its flags (R287, R391). -/
theorem verdictIn_of_lastOk (hst : st = 0x0000) (hall : ∀ x ∈ enginesOf t.engines, ∃ v ∈ vs, v.1 = x.val) : s.verdictIn g e st =
    (u.modGroup g (fun x => { x with vg := x.vg + 1 })).endStep g
      { status := if t.flags = 0 then 0x0000 else 0x0001, flags := t.flags,
        r0 := ((u.modGroup g (fun x => { x with vg := x.vg + 1 })).group g).vg.toNat } true := by
  subst hu hst
  have hlast : (enginesOf t.engines).all (fun x => vs.any (fun v => v.1 == x.val)) = true := by simpa using hall
  simp only [State.verdictIn, hstep, stOk, ne_eq, not_true_eq_false, if_false, ← hvs, hlast, if_true, stOkFlags]

end ends

/-! ### A home's update -/

/-- A home that holds every DONE may go on (R387). -/
theorem update_heard {t : TStep} (hsent : t.sentVerdict = false) (hnew : t.updated = false)
    (hdones : ∀ e ∈ enginesOf t.engines, ∃ d ∈ t.dones, d.eng = e.val) :
    (t.sentVerdict || t.updated || !(enginesOf t.engines).all (fun e => t.dones.any (fun d => d.eng == e.val))) = false := by
  have hall : (enginesOf t.engines).all (fun e => t.dones.any (fun d => d.eng == e.val)) = true := by simpa using hdones
  rw [hsent, hnew, hall]
  rfl

section update
variable {s : State} {k : VGroup} {t : TStep} {c : Commit} (hstep : (s.tgroup k.val).step = some t) (hcommit : t.commit = some c)
  (hsent : t.sentVerdict = false) (hnew : t.updated = false) (hdones : ∀ e ∈ enginesOf t.engines, ∃ d ∈ t.dones, d.eng = e.val)
include hstep hcommit hsent hnew hdones

/-- A home with a verdict before its update sends it (R387). -/
theorem execParamUpdate_of_verdict {v : W16} (hverdict : s.homeVerdict k.val t = some v) :
    execParamUpdate k s = .next (s.sendVerdict k.val t v) := by
  simp only [execParamUpdate, hstep, hcommit, update_heard hsent hnew hdones, Bool.false_eq_true, if_false, hverdict]

variable (hverdict : s.homeVerdict k.val t = none) (hview : s.viewHeld k.val = false)
include hverdict hview

/-- An uncorrectable line that the update must read gives MEM_UNCORRECTABLE (R262, R387). -/
theorem execParamUpdate_of_badLine {x : Nat} {l : List Nat} (hlines : (s.homed (s.tgroup k.val)).flatMap (fun e =>
    s.blockUE t e.1 (blockElems (s.tgroup k.val).nelem.toNat e.2)) = x :: l) :
    execParamUpdate k s = .next ((s.memUEs 3 (x :: l)).sendVerdict k.val t 0x0301) := by
  simp only [execParamUpdate, hstep, hcommit, update_heard hsent hnew hdones, Bool.false_eq_true, if_false, hverdict, hview,
    hlines, stMemUE]

/-- A home over sound lines updates its blocks; its verdict is OK at once where no PARAM message waits (R387). -/
theorem execParamUpdate_of_sound {u : State} {y : TStep} (hlines : ∀ e ∈ s.homed (s.tgroup k.val),
      s.blockUE t e.1 (blockElems (s.tgroup k.val).nelem.toNat e.2) = [])
    (hu : u = (s.each (s.homed (s.tgroup k.val)) (fun x e => x.runBlock k.val t c e)).modTgroup k.val (fun x =>
      { x with step := x.step.map (fun y => { y with updated := true }) })) (hy : (u.tgroup k.val).step = some y) :
    execParamUpdate k s = .next (if y.await = [] then u.sendVerdict k.val y 0x0000 else u) := by
  have hnone : (s.homed (s.tgroup k.val)).flatMap (fun e => s.blockUE t e.1 (blockElems (s.tgroup k.val).nelem.toNat e.2)) = [] :=
    List.flatMap_eq_nil_iff.2 hlines
  rw [apply_ite Host.Outcome.next]
  simp only [execParamUpdate, hstep, hcommit, update_heard hsent hnew hdones, Bool.false_eq_true, if_false, hverdict, hview,
    hnone, ← hu, hy, List.isEmpty_iff, stOk]

end update

section homeVerdict
variable {s : State} {g : Nat} {t : TStep} (hhome : s.homed (s.tgroup g) ≠ [])
include hhome

/-- The verdict of a home with blocks, before its update: what its DONEs say, then what its blocks' checksums say (R387). -/
theorem homeVerdict_of_homed : s.homeVerdict g t = if ∃ d ∈ t.dones, d.lost = true then some 0x0601
    else if ∃ d ∈ t.dones, d.engines ≠ t.engines ∨ d.scale ≠ t.scale then some 0x0102
    else if ∃ e ∈ s.homed (s.tgroup g), s.checksumBad g t e = true then some 0x0602 else none := by
  have hblocks : (s.homed (s.tgroup g)).isEmpty = false := by simpa using hhome
  simp only [State.homeVerdict, hblocks, Bool.false_eq_true, if_false, List.any_eq_true, Bool.or_eq_true, bne_iff_ne, stStepRepeat,
    stIllegal, stChecksum]

end homeVerdict

/-- The update of one element by the optimizer that OPT names (R388). -/
theorem updateElem_eq (opt : Nat) (h : List Nat) (scale acc : Int) (w m v : Nat) {x g : Flagged} {k : Nat → Flagged}
    (hk : k = fun i => (h.getD i 0, 0)) (hx : x = (w, 0))
    (hg : g = op32 .mul (Fmt.fp32.convert false (.fin (acc < 0) acc.natAbs scale)) (k 5)) : updateElem opt h scale acc w m v =
    if opt = 0 then
      let m1 := op32 .add (op32 .mul (k 1) (m, 0)) g
      (op32 .sub x (op32 .mul (k 0) (op32 .add m1 (op32 .mul (k 3) x))), m1, (v, 0))
    else
      let m1 := op32 .add (op32 .mul (k 1) (m, 0)) (op32 .mul (op32 .sub one32 (k 1)) g)
      let v1 := op32 .add (op32 .mul (k 2) (v, 0)) (op32 .mul (op32 .sub one32 (k 2)) (op32 .mul g g))
      (op32 .sub x (op32 .mul (k 0) (op32 .add
        (op32 .div (op32 .mul m1 (k 6)) (op32 .add (op32 .sqrt (op32 .mul v1 (k 7)) (0, 0)) (k 4))) (op32 .mul (k 3) x))), m1, v1) := by
  subst hg hx hk
  rfl

/-! ### Messages of a step -/

/-- The message that a port holds for this engine has the type that was looked for (R369). -/
theorem State.towHas.msg_eq {s : State} {p : EPort} {ty : W8} {m : TowMsg} (h : s.towHas p ty m) : m.msg = ty := by
  obtain ⟨-, hfirst, -⟩ := h
  have hfound : (s.tport p.val).rx.find? (fun m => m.dstEng == s.eng && m.msg == ty) = some m := hfirst
  exact eq_of_beq (Bool.and_eq_true_iff.1 (List.find?_some hfound :)).2

section given
variable {s : State} {m : TowMsg}

/-- A DONE or VERDICT of another step than the open one is held (R375). -/
theorem holdOrGive_of_other (h : ∀ t, (s.tgroup m.vgroup.val).step = some t → t.step ≠ m.step) :
    s.holdOrGive m = s.modTgroup m.vgroup.val (fun x => { x with early := x.early ++ [m] }) := by
  refine if_neg fun hsame => ?_
  obtain ⟨t, ht, hstep⟩ := Option.map_eq_some_iff.1 hsame
  exact h t ht hstep

variable {t : TStep} (hstep : (s.tgroup m.vgroup.val).step = some t) (hsame : t.step = m.step)
include hstep hsame

/-- A DONE of the open step is kept there (R387). -/
theorem holdOrGive_of_done (hmsg : m.msg = 5) : s.holdOrGive m = s.doneIn m.vgroup.val (doneOf m.srcEng.val m.arg) := by
  simp [State.holdOrGive, hstep, hsame, hmsg, mDone]

/-- A VERDICT of the open step reaches it (R391). -/
theorem holdOrGive_of_verdict (hmsg : m.msg = 6) : s.holdOrGive m = s.verdictIn m.vgroup.val m.srcEng.val (m.arg.setWidth 16) := by
  simp [State.holdOrGive, hstep, hsame, hmsg, mDone]

end given

section messages
variable {s u : State} {p : EPort} {m : TowMsg} (hu : u = s.towRelease p.val m)
include hu

/-- A DONE acts on its step or is held (R375, R387). -/
theorem execTowDone_of_has (h : s.towHas p 5 m) : execTowDone p s = .next (u.holdOrGive m) := by
  subst hu
  exact towTake_of_has h rfl

/-- A VERDICT acts on its step or is held (R375, R391). -/
theorem execTowVerdict_of_has (h : s.towHas p 6 m) : execTowVerdict p s = .next (u.holdOrGive m) := by
  subst hu
  exact towTake_of_has h rfl

/-- A PARAM message of the open step is written to the next slot and acknowledged, once no view of that slot is held (R287, R390). -/
theorem execTowParam_of_free {a : Nat} {t : TStep} (h : s.towHas p 3 m) (ha : u.paramAddr m = some a)
    (hstep : (u.tgroup m.vgroup.val).step = some t) (hsame : t.step = m.step)
    (hpages : u.versionedIn m.vgroup.val a m.payload.length = true) (hview : u.viewHeld m.vgroup.val = false) :
    execTowParam p s = .next ((u.writeNext m.vgroup.val a m.payload).answerTow m 4) := by
  subst hu
  exact towTake_of_has h (by simp [ha, hstep, hsame, hpages, hview, mParamAck])

/-- An acknowledgement is taken off the PARAM messages that wait, and with the last of an update the verdict is OK (R387). -/
theorem execTowParamAck_of_has {v : State} {t y : TStep} (h : s.towHas p 4 m) (hstep : (u.tgroup m.vgroup.val).step = some t)
    (hy : y = { t with await := t.await.filter (fun e => !(e.1 == m.srcEng.val && e.2 == m.arg)) })
    (hv : v = u.modTgroup m.vgroup.val (fun x => { x with step := some y })) : execTowParamAck p s =
    .next (if t.updated = true ∧ t.sentVerdict = false ∧ y.await = [] then v.sendVerdict m.vgroup.val y 0x0000 else v) := by
  subst hu hv hy
  exact towTake_of_has h (by simp only [hstep, stOk, Bool.and_eq_true, Bool.not_eq_true', List.isEmpty_iff, and_assoc])

end messages

/-- Settles O42: the two descriptors by their checks, a home by its DONEs and blocks, the messages of a step, and its end. -/
theorem trainingStepsOpenCommitAndEnd : Obligations.TrainingStepsOpenCommitAndEnd := by
  refine ⟨?stepBegin, ?stepCommit, packBad_iff, fun s g t hstep => execStepDeadline_of_late hstep rfl, ?stepEnd, ?verdict, ?update,
    ?homeVerdict, ?element, ?param, ?paramAck, ?messages⟩
  case stepBegin =>
    rintro s r d g t h rfl rfl
    exact ⟨beginBad_eq_false_iff s d, execStepBegin_of_good h, execStepBegin_of_bad h⟩
  case stepCommit =>
    rintro s r d g t h rfl
    exact ⟨commitFieldsBad_eq_false_iff s d, commitBad_eq_false_iff, fun hnone => by simp [State.commitBad, Desc.vgroup, hnone],
      execStepCommit_of_fieldsBad h, execStepCommit_of_ended h, execStepCommit_of_commitBad h, fun hfields hopen hok hstep =>
      ⟨execStepCommit_of_sound h hfields hopen hok hstep, fun x l => execStepCommit_of_badRead h hfields hopen hok⟩⟩
  case stepEnd =>
    rintro s g t p home u hstep rfl
    exact ⟨fun c hcommit => endStep_of_commit hstep hcommit p home, fun hcommit => endStep_of_uncommitted hstep hcommit p home⟩
  case verdict =>
    exact fun s u g e st t vs hstep hvs hu => ⟨verdictIn_of_bad hstep hvs hu, verdictIn_of_lastOk hstep hvs hu⟩
  case update =>
    intro s g t c v hstep hcommit hsent hnew hdones
    exact ⟨execParamUpdate_of_verdict hstep hcommit hsent hnew hdones,
      fun x l hverdict hview => execParamUpdate_of_badLine hstep hcommit hsent hnew hdones hverdict hview,
      fun u y hverdict hview => execParamUpdate_of_sound hstep hcommit hsent hnew hdones hverdict hview⟩
  case homeVerdict =>
    intro s g t hhome
    have hfirst := homeVerdict_of_homed (t := t) hhome
    refine ⟨fun hlost => hfirst.trans (if_pos hlost), fun hsound hdiffer => hfirst.trans ((if_neg ?_).trans (if_pos hdiffer)),
      fun hsound hblock => hfirst.trans ((if_neg ?_).trans ((if_neg ?_).trans (if_pos hblock)))⟩
    · rintro ⟨d, hd, hlost⟩
      simp [hsound d hd] at hlost
    · rintro ⟨d, hd, hlost⟩
      simp [(hsound d hd).1] at hlost
    · rintro ⟨d, hd, hdiffer⟩
      exact hdiffer.elim (· (hsound d hd).2.1) (· (hsound d hd).2.2)
  case element =>
    rintro opt h scale acc w m v x g m1 v1 k hk hx hg
    have helem := updateElem_eq opt h scale acc w m v hk hx hg
    refine ⟨?_, ?_⟩
    · rintro rfl rfl
      exact helem
    · rintro rfl rfl rfl
      exact helem
  case param =>
    exact fun s u p m a t h hu ha hstep hsame hpages => execTowParam_of_free hu h ha hstep hsame hpages
  case paramAck =>
    intro s u v p m t y h hu hstep hy hv
    have hexec := execTowParamAck_of_has hu h hstep hy hv
    exact ⟨fun hupdated hsent hlast => hexec.trans (congrArg _ (if_pos ⟨hupdated, hsent, hlast⟩)),
      fun hmore => hexec.trans (congrArg _ (if_neg fun hlast => hmore hlast.2.2))⟩
  case messages =>
    intro s u p m hu
    refine ⟨fun t hstep hsame => ⟨fun h => ?_, fun h => ?_⟩, fun hother => ⟨fun h => ?_, fun h => ?_⟩⟩
    · exact (execTowDone_of_has hu h).trans (congrArg _ (holdOrGive_of_done hstep hsame h.msg_eq))
    · exact (execTowVerdict_of_has hu h).trans (congrArg _ (holdOrGive_of_verdict hstep hsame h.msg_eq))
    · exact (execTowDone_of_has hu h).trans (congrArg _ (holdOrGive_of_other hother))
    · exact (execTowVerdict_of_has hu h).trans (congrArg _ (holdOrGive_of_other hother))

end Sys2Proof.Machine

/-! ## The invariant

What the invariant says of the key (R303, R417, R484), and that neither reset nor any step breaks it. -/
namespace Sys2Proof.Machine

/-- Two ring ranges lie apart unless both hold a ring and each begins before the other ends (R303). -/
theorem FuncEntry.apart_iff (a b : FuncEntry) :
    a.apart b = true ↔ ¬ (0 < a.count ∧ 0 < b.count ∧ a.base < b.base + b.count ∧ b.base < a.base + a.count) := by
  simp only [FuncEntry.apart, Bool.or_eq_true, decide_eq_true_eq, beq_iff_eq]
  omega

/-- Lying apart is mutual. -/
theorem FuncEntry.apart_comm (a b : FuncEntry) : a.apart b = b.apart a := by
  rw [Bool.eq_iff_iff, FuncEntry.apart_iff, FuncEntry.apart_iff]
  omega

/-- The ring ranges of a table of HIF_FUNC entries are as R303 keeps them. -/
def RangesApart (func : Tab FuncEntry) : Prop :=
  ∀ f < 64, (Tab.get {} func f).base + (Tab.get {} func f).count ≤ 1048576 ∧ (isPF f = false → (Tab.get {} func f).count ≤ 131072) ∧
    ∀ g < 64, f ≠ g → (Tab.get {} func f).apart (Tab.get {} func g) = true

/-- The invariant of the engine, read off the key. -/
structure Key.Inv (k : Key) : Prop where
  rings : RangesApart k.func
  slot : k.revoked ≠ 0xF
  reserve : k.reserve ≤ 16

/-- The invariant speaks of the key alone. -/
theorem State.inv_iff_key (s : State) : s.Inv ↔ s.key.Inv :=
  ⟨fun ⟨rings, slot, reserve⟩ => ⟨rings, slot, reserve⟩, fun ⟨rings, slot, reserve⟩ => ⟨rings, slot, reserve⟩⟩

/-- Where no function has an entry, no range holds a ring. -/
theorem rangesApart_nil : RangesApart [] :=
  fun _ _ => ⟨by simp, fun _ => by simp, fun _ _ _ => by simp [FuncEntry.apart_iff]⟩

section ranges
variable {func : Tab FuncEntry} {g : Nat} {e : FuncEntry} (h : RangesApart func)
include h

/-- An entry that keeps its range keeps the ranges apart. -/
theorem RangesApart.put_sameRange (hbase : e.base = (Tab.get {} func g).base) (hcount : e.count = (Tab.get {} func g).count) :
    RangesApart (Tab.put {} func g e) := by
  have hsame : ∀ f, (Tab.get {} (Tab.put {} func g e) f).base = (Tab.get {} func f).base ∧
      (Tab.get {} (Tab.put {} func g e) f).count = (Tab.get {} func f).count := fun f => by
    by_cases hf : f = g <;> simp [hf, hbase, hcount]
  simpa only [RangesApart, FuncEntry.apart, hsame] using h

/-- A range that R303 accepts keeps the ranges apart. -/
theorem RangesApart.put_rangeOk (hok : RangeOk func g e.base e.count) : RangesApart (Tab.put {} func g e) := by
  obtain ⟨hend, hvf, hmeets⟩ := hok
  have hnew : ∀ f < 64, f ≠ g → e.apart (Tab.get {} func f) = true := fun f hf hne =>
    (FuncEntry.apart_iff _ _).2 (hmeets f hf hne)
  intro f hf
  obtain ⟨hfEnd, hfVf, hfApart⟩ := h f hf
  by_cases hfg : f = g
  · subst hfg
    refine ⟨by simpa using hend, by simpa using hvf, fun f' hf' hne => ?_⟩
    rw [Tab.get_put_self, Tab.get_put_ne _ _ _ hne.symm]
    exact hnew f' hf' hne.symm
  · rw [Tab.get_put_ne _ _ _ hfg]
    refine ⟨hfEnd, hfVf, fun f' hf' hne => ?_⟩
    by_cases hf'g : f' = g
    · subst hf'g
      rw [Tab.get_put_self, FuncEntry.apart_comm]
      exact hnew f hf hfg
    · rw [Tab.get_put_ne _ _ _ hf'g]
      exact hfApart f' hf' hne

end ranges

/-- Revoking a slot leaves one, where some other slot is not revoked (R484). -/
theorem revoke_leaves_slot {r : BitVec 4} {n : Nat} (h : ¬ (List.range 4).all (fun i => i == n || r.getLsbD i) = true) :
    r ||| BitVec.ofNat 4 (2 ^ n) ≠ 0xF := by
  intro hall
  refine h (List.all_eq_true.2 fun i hi => ?_)
  have hi : i < 4 := List.mem_range.1 hi
  have hbit : (r ||| BitVec.ofNat 4 (2 ^ n)).getLsbD i = true := by
    rw [hall]
    interval_cases i <;> rfl
  rw [BitVec.getLsbD_or, BitVec.getLsbD_ofNat, Nat.testBit_two_pow] at hbit
  rcases Bool.or_eq_true_iff.1 hbit with hold | hnew
  · simp [hold]
  · have hn : n = i := by simpa [hi] using hnew
    simp [hn]

/-- No command breaks the invariant. -/
theorem KeyStep.keeps_inv {k l : Key} (h : KeyStep k l) (hk : k.Inv) : l.Inv := by
  obtain ⟨hrings, hslot, hreserve⟩ := hk
  cases h with
  | cleared => exact ⟨rangesApart_nil, hslot, hreserve⟩
  | lost => exact ⟨rangesApart_nil, hslot, hreserve⟩
  | revoke n hn hleft => exact ⟨hrings, revoke_leaves_slot hleft, hreserve⟩
  | reserve n hn => exact ⟨hrings, hslot, hn⟩
  | entry g e hbase hcount => exact ⟨hrings.put_sameRange hbase hcount, hslot, hreserve⟩
  | range g e hg hok => exact ⟨hrings.put_rangeOk hok, hslot, hreserve⟩
  | _ => exact ⟨hrings, hslot, hreserve⟩

/-- Settles O53: at reset the tables are empty, so that no range holds a ring and nothing is revoked. -/
theorem resetMeetsTheInvariant : Obligations.ResetMeetsTheInvariant :=
  (State.inv_iff_key _).2 ⟨rangesApart_nil, by decide, by decide⟩

/-- Settles O54: the invariant speaks of the key, and each change of the key that a step can make keeps it. -/
theorem stepKeepsTheInvariant : Obligations.StepKeepsTheInvariant := by
  intro s t hs h
  rw [State.inv_iff_key] at hs ⊢
  obtain ⟨hrings, hslot, hreserve⟩ := hs
  rcases key_of_step h with ⟨_, n, _, hk⟩ | hk
  · rw [hk]
    exact ⟨hrings, hslot, hreserve⟩
  · exact hk.keeps_inv ⟨hrings, hslot, hreserve⟩

end Sys2Proof.Machine

/-! ## Ring ranges

What R303 asks of a range that HIF_FUNC_RINGS gives, and which function a ring belongs to. -/
namespace Sys2Proof.Machine

/-- A range meets another function's exactly where some ring lies in both (R303). -/
theorem rangeMeets_iff (s : State) (target base count : Nat) : s.rangeMeets target base count = true ↔
    ∃ g < 64, g ≠ target ∧ ∃ r, base ≤ r ∧ r < base + count ∧ (s.fent g).base ≤ r ∧ r < (s.fent g).base + (s.fent g).count := by
  simp only [State.rangeMeets, List.any_eq_true, List.mem_range, Bool.and_eq_true, bne_iff_ne, decide_eq_true_eq, and_assoc]
  refine exists_congr fun g => and_congr_right fun _ => and_congr_right fun _ => ⟨fun hmeet => ?_, fun ⟨r, hr⟩ => by omega⟩
  exact ⟨max base (s.fent g).base, by omega⟩

/-- A range that R303 refuses a function: it meets another's, is too long for a virtual function, or ends beyond the last ring. -/
def State.rangeRefused (s : State) (target base count : Nat) : Prop :=
  s.rangeMeets target base count = true ∨ (isPF target = false ∧ 131072 < count) ∨ 1048576 < base + count

section write
variable {s : State} {f target : Func} {v : W64} (hwrites : s.writesEntry f.val target.val = true)
include hwrites

/-- A range that is refused sets BAD alone (R303). -/
theorem execHifFuncRingsWrite_of_refused (h : s.rangeRefused target.val (bits v.toNat 19 0) (bits v.toNat 52 32)) :
    execHifFuncRingsWrite f target v s = .next (s.modFent target.val fun e => { e with bad := true }) := by
  have hcheck : (s.rangeMeets target.val (bits v.toNat 19 0) (bits v.toNat 52 32) || (!isPF target.val && 131072 < bits v.toNat 52 32) ||
      1048576 < bits v.toNat 19 0 + bits v.toNat 52 32) = true := by simpa [State.rangeRefused, or_assoc] using h
  simp only [execHifFuncRingsWrite, hwrites, hcheck, Bool.not_true, Bool.false_eq_true, if_false, if_true]

/-- A range that is accepted is stored, with BAD clear (R303). -/
theorem execHifFuncRingsWrite_of_accepted (h : ¬ s.rangeRefused target.val (bits v.toNat 19 0) (bits v.toNat 52 32)) :
    execHifFuncRingsWrite f target v s =
      .next (s.modFent target.val fun e => { e with bad := false, base := bits v.toNat 19 0, count := bits v.toNat 52 32 }) := by
  have hcheck : ¬ (s.rangeMeets target.val (bits v.toNat 19 0) (bits v.toNat 52 32) || (!isPF target.val && 131072 < bits v.toNat 52 32) ||
      1048576 < bits v.toNat 19 0 + bits v.toNat 52 32) = true := by simpa [State.rangeRefused, or_assoc] using h
  simp only [execHifFuncRingsWrite, hwrites, if_neg hcheck, Bool.not_true, Bool.false_eq_true, if_false]

end write

/-- Where no ring lies in two ranges, a ring belongs to the function whose range holds it (R303). -/
theorem ringOwner_eq_some_iff {s : State} (hapart : s.ringsApart) {r f : Nat} (hf : f < 64) :
    s.ringOwner r = some f ↔ (s.fent f).base ≤ r ∧ r < (s.fent f).base + (s.fent f).count := by
  simp only [State.ringOwner]
  constructor
  · intro h
    simpa using List.find?_some h
  · intro hin
    cases hown : (List.range 64).find? (fun g => (s.fent g).base ≤ r && r < (s.fent g).base + (s.fent g).count) with
    | none =>
      have hout := List.find?_eq_none.1 hown f (List.mem_range.2 hf)
      simp [hin] at hout
    | some g =>
      have hg : g < 64 := List.mem_range.1 (List.mem_of_find?_eq_some hown)
      have hging : (s.fent g).base ≤ r ∧ r < (s.fent g).base + (s.fent g).count := by simpa using List.find?_some hown
      by_contra hne
      obtain ⟨_, _, hdisjoint⟩ := hapart g hg
      have hapartfg := (FuncEntry.apart_iff _ _).1 (hdisjoint f hf fun heq => hne (congrArg some heq))
      omega

/-- Settles O32: the write by what its check asks, the owner by the ranges lying apart, and a ring's number by its kind of function. -/
theorem ringRangesNeverOverlap : Obligations.RingRangesNeverOverlap := by
  refine ⟨?write, fun s r hapart f hf => ringOwner_eq_some_iff hapart hf, ?number⟩
  case write =>
    rintro s f target v base count bad hwrites rfl rfl hbad
    have hbase : bits v.toNat 19 0 = v.toNat % 2 ^ 20 := by simp [bits]
    have hcount : bits v.toNat 52 32 = v.toNat / 2 ^ 32 % 2 ^ 21 := rfl
    have hrefused : bad ↔ s.rangeRefused target.val (bits v.toNat 19 0) (bits v.toNat 52 32) := by
      rw [hbad, State.rangeRefused, rangeMeets_iff, hbase, hcount, isPF, beq_eq_false_iff_ne]
      exact Iff.rfl
    rw [← hbase, ← hcount]
    exact ⟨fun hyes => execHifFuncRingsWrite_of_refused hwrites (hrefused.1 hyes),
      fun hno => execHifFuncRingsWrite_of_accepted hwrites fun h => hno (hrefused.2 h)⟩
  case number =>
    intro s f i
    simp only [State.absRing, isPF, beq_iff_eq]

end Sys2Proof.Machine

/-! ## The ring window and doorbells

RING_CMD by the ring that is selected and by what RING_DATA asks of it, and a doorbell by its check (R302 to R309, R328, R330). -/
namespace Sys2Proof.Machine

/-! ### RING_CMD -/

section window
variable {s : State} {f : Func} (hreach : s.reaches f.val = true) (hbusy : (s.rwin f.val).cmd.busy = false)
include hreach hbusy

/-- A read of a ring that may not be addressed is refused (R305). -/
theorem execRingRead_of_unaddressed (hsel : s.selRing f.val = none) : execRingRead f s = .next (s.ringCmdDone f.val 1 0x0102) := by
  simp [execRingRead, hreach, hbusy, hsel, stIllegal]

/-- A read gives the context as it is after its use, written back where it is cached (R305, R306). -/
theorem execRingRead_of_addressed {r o : Nat} (hsel : s.selRing f.val = some (r, o)) {u t : State} (hu : u = s.usedCtx r)
    (ht : t = if u.ctxCached r = true then u.writeBack [r] else u) :
    execRingRead f s = .next ((t.modRwin f.val (fun w => { w with data := (t.ring r).bytes })).ringCmdDone f.val 1 0x0000) := by
  have huse : s.readCtx r = u := by rw [hu, State.readCtx, State.usedCtx]; simp
  simp [execRingRead, hreach, hbusy, hsel, huse, ht, stOk]

/-- A write to a ring that may not be addressed is refused (R305). -/
theorem execRingWrite_of_unaddressed (hsel : s.selRing f.val = none) : execRingWrite f s = .next (s.ringCmdDone f.val 2 0x0102) := by
  simp [execRingWrite, hreach, hbusy, hsel, stIllegal]

variable {r o : Nat} (hsel : s.selRing f.val = some (r, o))
include hsel

/-- A write of a kind that is none is refused (R304, R305). -/
theorem execRingWrite_of_noKind (hkind : dataKind (s.rwin f.val).data = none) :
    execRingWrite f s = .next (s.ringCmdDone f.val 2 (if (s.ring r).kind = .disabled then 0x0102 else 0x8004)) := by
  simp [execRingWrite, hreach, hbusy, hsel, hkind, stIllegal, stRingActive]

variable {d : List W8} {k : RingKind} (hd : d = (s.rwin f.val).data) (hkind : dataKind d = some k)
include hd hkind

/-- A write to a disabled ring stores the host's fields, or installs the context that passes its check (R304, R305). -/
theorem execRingWrite_of_disabled (hring : (s.ring r).kind = .disabled) : execRingWrite f s = .next (
    if k = .disabled then (s.putCtx r (hostFields d k)).ringCmdDone f.val 2 0x0000
    else if s.enableBad o d k = true then s.ringCmdDone f.val 2 0x0102
    else (s.putCtx r (fun _ => { hostFields d k {} with armed := bitOf (dataField d 30 1) 3 })).ringCmdDone f.val 2 0x0000) := by
  subst hd
  simp only [execRingWrite, hreach, hbusy, hsel, hkind, hring, Bool.not_true, Bool.or_self, Bool.false_eq_true, if_false, if_true, stOk,
    stIllegal, apply_ite Host.Outcome.next]

/-- A write that disables a live ring takes effect where nothing else changes and nothing is in work (R305). -/
theorem execRingWrite_of_disabling (hring : (s.ring r).kind ≠ .disabled) (hoff : k = .disabled) : execRingWrite f s = .next (
    if liveChange d (s.ring r).kind (s.ring r) = true ∧ (s.ring r).inprog = 0 ∧ ((s.ring r).head = (s.ring r).tail ∨ (s.ring r).error = true)
    then (s.putCtx r (fun g => { hostFields d k g with lagging := false, ovfDue := false })).ringCmdDone f.val 2 0x0000
    else s.ringCmdDone f.val 2 0x8004) := by
  subst hd hoff
  simp only [execRingWrite, hreach, hbusy, hsel, hkind, if_neg hring, Bool.not_true, Bool.or_self, Bool.false_eq_true, if_false, if_true,
    stOk, stRingActive, apply_ite Host.Outcome.next]

/-- A write to a ring that stays live changes the fields that may change, and lets the watermarks act (R305, R330). -/
theorem execRingWrite_of_live (hring : (s.ring r).kind ≠ .disabled) (hon : k ≠ .disabled) : execRingWrite f s = .next (
    if liveChange d k (s.ring r) = true then ((s.putCtx r (hostFields d k)).lagCheck o r).ringCmdDone f.val 2 0x0000
    else s.ringCmdDone f.val 2 0x8004) := by
  subst hd
  simp only [execRingWrite, hreach, hbusy, hsel, hkind, if_neg hring, if_neg hon, Bool.not_true, Bool.or_self, Bool.false_eq_true, if_false,
    stOk, stRingActive, apply_ite Host.Outcome.next]

end window

/-! ### Doorbells -/

section doorbell
variable {s u : State} {f : Func} {i : Fin 1048576} (hreach : s.reaches f.val = true) (hbar : 8 * i.val + 8 ≤ s.barSize f.val 2)
  (hu : u = if s.inRange f.val i.val = true then s.usedCtx (s.absRing f.val i.val) else s)
include hreach hbar hu

/-- A doorbell acts on its ring, or is counted and reported, by the check after its context's use (R306, R308, R309). -/
theorem execDoorbell_of_inside (v : W64) : execDoorbell f i v s = .next (
    if u.doorbellBad f.val i.val v = true then (u.bump offDbBad 1).raise (some (f.val, i.val)) false 0x0004 (v.toNat % 2 ^ 32)
    else ((u.modRing (s.absRing f.val i.val) (fun g => { g with tail := v.setWidth 32, armed := g.armed || v.getLsbD 32 })).evRoomBack f.val
      (s.absRing f.val i.val)).lagCheck f.val (s.absRing f.val i.val)) := by
  have huse : (if s.inRange f.val i.val = true then s.readCtx (s.absRing f.val i.val) else s) = u := by
    rw [hu, State.readCtx, State.usedCtx]; simp
  have hin : ¬ s.barSize f.val 2 < 8 * i.val + 8 := Nat.not_lt.2 hbar
  simp only [execDoorbell, hreach, hin, huse, Bool.not_true, Bool.false_eq_true, if_false, BitVec.toNat_setWidth,
    apply_ite Host.Outcome.next]
  rfl

end doorbell

/-- A value with a bit above bit 32 has reserved bits set (R309). -/
theorem reserved_of_le {v : W64} (h : 2 ^ 33 ≤ v.toNat) : bits v.toNat 63 33 ≠ 0 := by
  have hv : v.toNat < 2 ^ 64 := v.isLt
  unfold bits
  omega

/-- A ring that is disabled, in error, resetting or out of range, and a value with a reserved bit, break the check (R309). -/
theorem doorbellBad_of_unfit (s : State) (f i : Nat) (v : W64)
    (h : (s.ring (s.absRing f i)).kind = .disabled ∨ (s.ring (s.absRing f i)).error = true ∨ s.resetting f = true ∨
      s.inRange f i = false ∨ 2 ^ 33 ≤ v.toNat) : s.doorbellBad f i v = true := by
  simp only [State.doorbellBad, Bool.or_eq_true]
  rcases h with hkind | herror | hreset | hrange | hvalue
  · simp [hkind]
  · simp [herror]
  · simp [hreset]
  · simp [hrange]
  · simp [reserved_of_le hvalue]

/-- Settles O33: each command by the selected ring and what RING_DATA asks of it, and a doorbell by its check. -/
theorem ringWindowAndDoorbells : Obligations.RingWindowAndDoorbells := by
  refine ⟨fun s f hpf => ?lock, fun s f hreach hbusy => ⟨fun hsel => ?unaddressed, fun r o u t hsel hu ht => ?read, ?write, ?noKind⟩,
    ?doorbell, ?check⟩
  case lock =>
    show execHifLock f s = _
    rw [execHifLock, if_pos hpf]
  case unaddressed =>
    exact ⟨execRingRead_of_unaddressed hreach hbusy hsel, execRingWrite_of_unaddressed hreach hbusy hsel⟩
  case read => exact execRingRead_of_addressed hreach hbusy hsel hu ht
  case write =>
    rintro r o d k put hsel hd hkind rfl
    have hdisabled := execRingWrite_of_disabled hreach hbusy hsel hd hkind
    have hdisabling := execRingWrite_of_disabling hreach hbusy hsel hd hkind
    have hlive := execRingWrite_of_live hreach hbusy hsel hd hkind
    refine ⟨fun hring hoff => ?_, fun hring hon hgood => ?_, fun hring hon hbad => ?_, fun hring hoff => ⟨fun hidle => ?_, fun hactive => ?_⟩,
      fun hring hon hfree => ?_, fun hring hon hfixed => ?_⟩
    · exact (hdisabled hring).trans (congrArg _ (if_pos hoff))
    · exact (hdisabled hring).trans (congrArg _ ((if_neg hon).trans (if_neg (by simp [hgood]))))
    · exact (hdisabled hring).trans (congrArg _ ((if_neg hon).trans (if_pos hbad)))
    · exact (hdisabling hring hoff).trans (congrArg _ (if_pos hidle))
    · exact (hdisabling hring hoff).trans (congrArg _ (if_neg hactive))
    · exact (hlive hring hon).trans (congrArg _ (if_pos hfree))
    · exact (hlive hring hon).trans (congrArg _ (if_neg (by simp [hfixed])))
  case noKind => exact fun r o hsel hkind => execRingWrite_of_noKind hreach hbusy hsel hkind
  case doorbell =>
    rintro s u f i v r hreach hbar rfl hu
    have hexec := execDoorbell_of_inside hreach hbar hu v
    exact ⟨fun hgood => hexec.trans (congrArg _ (if_neg (by simp [hgood]))), fun hbad => hexec.trans (congrArg _ (if_pos hbad))⟩
  case check =>
    rintro s f i v r rfl h
    exact doorbellBad_of_unfit s f.val i.val v h

end Sys2Proof.Machine

/-! ## Completion records

Where a record is written, and what it leaves of the host's memory and of its ring (R322 to R324, R331). -/
namespace Sys2Proof.Machine

/-- Bytes that were written read back. -/
theorem Mem.read_write_same (m : Mem) (a : Nat) (bs : List W8) : (m.write a bs).read a bs.length = bs := by
  induction bs generalizing m a with
  | nil => rfl
  | cons x bs ih =>
    rw [Mem.write, List.length_cons, Mem.read, ih, Mem.get_write_out _ _ _ _ (by omega)]
    simp

/-- PHASE is the complement of a bit of the record's number (R323). -/
theorem phaseOf_eq_xor (c : W32) (n : Nat) : phaseOf c n = 1 ^^^ (c.toNat.testBit n).toNat := by
  unfold phaseOf
  cases c.toNat.testBit n <;> rfl

/-- Byte 15 of a completion record is PHASE (R322). -/
theorem recordBytes_phase (tag index : Nat) (p : Report) (phase : Nat) :
    (recordBytes tag index p phase)[15]? = some (BitVec.ofNat 8 phase) := rfl

/-! ### What an interrupt and the use of a context leave -/

@[simp] theorem hostMem_modRing (s : State) (r : Nat) (g : Ring → Ring) : (s.modRing r g).hst.mem = s.hst.mem := rfl

@[simp] theorem hostMem_writeBack (s : State) (l : List Nat) : (s.writeBack l).hst.mem = s.hst.mem := by
  unfold State.writeBack
  split <;> rfl

@[simp] theorem hostMem_useCtx (s : State) (r : Nat) : (s.useCtx r).hst.mem = s.hst.mem :=
  hostMem_writeBack _ _

@[simp] theorem hostMem_sendMsix (s : State) (f v : Nat) : (s.sendMsix f v).hst.mem = s.hst.mem := by
  unfold State.sendMsix
  split <;> rfl

@[simp] theorem ring_sendMsix (s : State) (f v r : Nat) : (s.sendMsix f v).ring r = s.ring r := by
  unfold State.sendMsix
  split <;> rfl

/-- An interrupt is not sent, or clears ARMED, keeps its time and sends its message (R324). -/
theorem interrupt_cases (s : State) (r f : Nat) (b : Bool) : s.interrupt r f b = s ∨
    s.interrupt r f b = (s.modRing r (fun g => { g with armed := false, lastIrq := some s.now })).sendMsix f (s.ring r).vector := by
  unfold State.interrupt
  dsimp only
  exact (ite_eq_or_eq _ _ _).symm

@[simp] theorem hostMem_interrupt (s : State) (r f : Nat) (b : Bool) : (s.interrupt r f b).hst.mem = s.hst.mem := by
  rcases interrupt_cases s r f b with h | h <;> simp [h]

@[simp] theorem cprod_interrupt (s : State) (r f : Nat) (b : Bool) (q : Nat) : ((s.interrupt r f b).ring q).cprod = (s.ring q).cprod := by
  rcases interrupt_cases s r f b with h | h
  · rw [h]
  · rw [h, ring_sendMsix, ring_modRing]
    split
    · next hq => rw [hq]
    · rfl

/-! ### Writing a record -/

section record
variable {post : Post} {s : State} {f r : Nat} {bytes : Nat → List W8} {force : Bool} {a : Nat}
  (ha : a = (s.ring r).cbase.toNat + 32 * ((s.ring r).cprod.toNat % 2 ^ (s.ring r).logsz))
include ha

/-- A record whose completion area lies with the host is written there (R323, R324). -/
theorem recordWith_of_host (hloc : (s.ring r).cloc = false) : s.recordWith post f r bytes force =
    ((({ s with hst := { s.hst with mem := s.hst.mem.write a (bytes (phaseOf (s.ring r).cprod (s.ring r).logsz)) } } : State).useCtx r).modRing r
      (fun g => { g with cprod := g.cprod + 1 })).interrupt r f force := by
  simp only [State.recordWith, hloc, Bool.false_and, Bool.false_eq_true, if_false, ← ha]

/-- Such a record changes the host's memory at its place alone. -/
theorem hostMem_recordWith_of_host (hloc : (s.ring r).cloc = false) :
    (s.recordWith post f r bytes force).hst.mem = s.hst.mem.write a (bytes (phaseOf (s.ring r).cprod (s.ring r).logsz)) := by
  rw [recordWith_of_host ha hloc, hostMem_interrupt, hostMem_modRing, hostMem_useCtx]

/-- Such a record advances CPROD. -/
theorem cprod_recordWith_of_host (hloc : (s.ring r).cloc = false) :
    ((s.recordWith post f r bytes force).ring r).cprod = (s.ring r).cprod + 1 := by
  rw [recordWith_of_host ha hloc, cprod_interrupt, ring_modRing, if_pos rfl, ring_useCtx]
  rfl

variable (hloc : (s.ring r).cloc = true)
include hloc

/-- A record whose completion area lies in its function's pages is written there (R323, R324). -/
theorem recordWith_of_owned (howns : s.owns f a 32 = true) (hmerge : s.badMerge a 32 = []) : s.recordWith post f r bytes force =
    ((((s.demandWith post none a 32 true none).devWrite a (bytes (phaseOf (s.ring r).cprod (s.ring r).logsz))).useCtx r).modRing r
      (fun g => { g with cprod := g.cprod + 1 })).interrupt r f force := by
  simp only [State.recordWith, hloc, ← ha, howns, hmerge, List.foldl_nil, Bool.not_true, Bool.and_false, Bool.false_eq_true, if_false, if_true]

/-- A completion area outside the function's pages puts the ring in error (R331). -/
theorem recordWith_of_foreign (howns : s.owns f a 32 = false) : s.recordWith post f r bytes force = s.ringErrWith post r 4 := by
  simp only [State.recordWith, hloc, ← ha, howns, Bool.not_false, Bool.and_true, if_true]

end record

/-! ### Completing a descriptor -/

/-- Dropping a descriptor leaves its ring but for INPROG (R304). -/
theorem ring_dropDesc (s : State) (r : Nat) (i : W32) :
    (s.dropDesc r i).ring r = { s.ring r with inprog := (s.ring r).inprog - 1 } := by
  rw [State.dropDesc, ring_modRing, if_pos rfl]
  rfl

/-- A descriptor of a ring in service completes with its record (R322, R323, R339). -/
theorem completeDesc_of_inService {s : State} {r : Nat} {i : W32} {d : Desc} (hdesc : s.desc r i = some d) (p : Report)
    (hreset : s.resetting d.func = false) (hkind : (s.ring r).kind ≠ .disabled) (herror : (s.ring r).error = true → (s.ring r).ecause ≠ 1)
    (hctx : s.ctxBad r = false) :
    s.completeDesc r i p = (s.dropDesc r i).recordWith State.post d.func r (recordBytes d.tag i.toNat p) d.irq := by
  have hreset' : (s.dropDesc r i).resetting d.func = false := hreset
  have hctx' : (s.dropDesc r i).ctxBad r = false := hctx
  have herror' : ((s.ring r).error && (s.ring r).ecause == 1) = false := by simpa using herror
  have hkind' : ((s.ring r).kind == .disabled) = false := by simpa using hkind
  simp only [State.completeDesc, hdesc, ring_dropDesc, hreset', hkind', herror', hctx', Bool.or_self, Bool.false_eq_true, if_false]

/-- Settles O18: the descriptor completes with its record, which is written where its ring's completion area lies. -/
theorem recordsArePlacedByCprod : Obligations.RecordsArePlacedByCprod := by
  rintro s ring index d p g a phase hdesc rfl hreset hkind herror hctx ha rfl
  rw [completeDesc_of_inService hdesc p hreset hkind herror hctx, ← phaseOf_eq_xor]
  obtain ⟨hcbase, hcprod, hlogsz, hcloc⟩ : ((s.dropDesc ring index).ring ring).cbase = (s.ring ring).cbase ∧
      ((s.dropDesc ring index).ring ring).cprod = (s.ring ring).cprod ∧ ((s.dropDesc ring index).ring ring).logsz = (s.ring ring).logsz ∧
      ((s.dropDesc ring index).ring ring).cloc = (s.ring ring).cloc := by simp [ring_dropDesc]
  rw [← hcbase, ← hcprod, ← hlogsz] at ha
  rw [← hcprod, ← hlogsz, ← hcloc]
  refine ⟨recordBytes_phase _ _ _ _, fun hloc => ⟨?bytes, cprod_recordWith_of_host ha hloc, fun b hb => ?others⟩,
    fun hloc => ⟨recordWith_of_owned ha hloc, recordWith_of_foreign ha hloc⟩⟩
  case bytes =>
    rw [hostMem_recordWith_of_host ha hloc]
    exact Mem.read_write_same _ a (recordBytes d.tag index.toNat p _)
  case others =>
    rw [hostMem_recordWith_of_host ha hloc]
    exact Mem.get_write_out _ a b (recordBytes d.tag index.toNat p _) hb

end Sys2Proof.Machine

/-! ## Descriptors that need no wait

NOP, FENCE, RESUME, TIMESTAMP and FRAME_BIND, whose start is their end, and the descriptors that R6 and R314 refuse (R312 to R316, R325,
R326, R354, R357). -/
namespace Sys2Proof.Machine

section named
variable {s : State} {r : DescRef} {d : Desc}

/-- NOP completes (R316). -/
theorem execNop_of_starts (h : s.starts r d 1) : execNop r s = .next (s.finishDesc r.ring.val r.index { status := 0x0000 }) := by
  rw [execNop, beginDesc_of_starts h rfl rfl, endDesc_eq_finishDesc h.desc_eq, stOk]

/-- FENCE completes once it may start (R312). -/
theorem execFence_of_starts (h : s.starts r d 2) (hscope : d.field 8 1 ≤ 1) :
    execFence r s = .next (s.finishDesc r.ring.val r.index { status := 0x0000 }) := by
  rw [execFence, beginDesc_of_starts h rfl (decide_eq_false (Nat.not_lt.2 hscope)), endDesc_eq_finishDesc h.desc_eq, stOk]

/-- QUIESCE with QMODE 1 ends quiescing (R316). -/
theorem execResume_of_starts (h : s.starts r d 10) (hmode : d.field 8 1 = 1) : execResume r s =
    .next ((s.modPart d.func (fun p => { p with quiesced := false })).finishDesc r.ring.val r.index { status := 0x0000 }) := by
  simp only [execResume, h.desc_eq, hmode, ne_eq, not_true_eq_false, if_false]
  rw [beginDesc_of_starts h rfl rfl, endDesc_eq_finishDesc h.desc_eq, stOk]

/-- TIMESTAMP completes with its port's time, where there is one, and the uptime (R316, R325). -/
theorem execTimestamp_of_starts (h : s.starts r d 13) {p : Nat} (hp : p = d.field 8 1) (hport : p < 16 ∨ p = 255) : execTimestamp r s =
    .next (s.finishDesc r.ring.val r.index
      { status := 0x0000, r0 := if p < 16 ∧ (s.mport p).hasTime = true then ((s.ptpTime p) % (2 ^ 64 : Int)).toNat else 0, r1 := s.now }) := by
  obtain ⟨hring, hindex⟩ := desc_key h.desc_eq
  subst hp
  have hok : (decide (15 < d.field 8 1) && decide (d.field 8 1 < 255)) = false := by
    rw [Bool.and_eq_false_iff, decide_eq_false_iff_not, decide_eq_false_iff_not]
    omega
  rw [execTimestamp, beginDesc_of_starts h rfl hok]
  simp only [hring, hindex, stOk, Bool.and_eq_true, decide_eq_true_eq]

/-- FRAME_BIND binds its stream context (R357). -/
theorem execFrameBind_of_starts (h : s.starts r d 6) (hbop : d.bop = 0) (hok : s.bindBad d = false) : execFrameBind r s =
    .next ((s.modCtx d.stream (fun y => { y with bound := some (s.newBinding d (s.ctx d.stream)) })).finishDesc r.ring.val r.index
      { status := 0x0000 }) := by
  simp only [execFrameBind, h.desc_eq, hbop, zero_ne_one, if_false]
  rw [beginDesc_of_starts h rfl hok, endDesc_eq_finishDesc h.desc_eq, stOk]
  rfl

/-- A NOP with a reserved byte set breaks what holds for every opcode (R6, R315). -/
theorem headerBad_of_reserved (s : State) {k : Nat} (hop : d.opcode = 1) (hlow : 8 ≤ k) (hhigh : k < 64) (hset : d.field k 1 ≠ 0) :
    s.headerBad d = true := by
  have hbyte : k ∈ fromTo 8 56 := List.mem_map.2 ⟨k - 8, List.mem_range.2 (by omega), by omega⟩
  simp only [State.headerBad, Bool.or_eq_true]
  exact .inr (List.any_eq_true.2 ⟨k, hbyte, by simp [bodyFields, hop, hset]⟩)

/-- An opcode that is not listed breaks what holds for every opcode (R314). -/
theorem headerBad_of_unlisted (s : State) (hop : opcodeListed d.opcode = false) : s.headerBad d = true := by
  simp [State.headerBad, hop]

/-- A descriptor that NOP's command takes up and that breaks what holds for every opcode is refused (R314, R315). -/
theorem execNop_of_headerBad (hdesc : s.desc r.ring.val r.index = some d) (hready : s.ready = true) (hnew : d.started = false)
    (hmay : s.startable d = true) (hop : d.opcode = 1 ∨ opcodeListed d.opcode = false) (hbad : s.headerBad d = true) :
    execNop r s = .next (s.finishDesc r.ring.val r.index { status := 0x0102 }) := by
  have htaken : (d.opcode == 1 || !opcodeListed d.opcode) = true := by simpa using hop
  rw [← endDesc_eq_finishDesc hdesc]
  simp only [execNop, State.beginDesc, hdesc, hready, hnew, hmay, htaken, hbad, Bool.not_true, Bool.or_self, Bool.true_or, Bool.false_eq_true,
    if_false, if_true, stIllegal]

end named

/-- Settles O19: each command by the effect that its start has, and a refusal by the check that holds for every opcode. -/
theorem descriptorsThatNeedNoWaitComplete : Obligations.DescriptorsThatNeedNoWaitComplete := by
  refine ⟨fun s r d => execNop_of_starts, fun s r d => execFence_of_starts, fun s r d => execResume_of_starts,
    fun s r d p h hp hport => execTimestamp_of_starts h hp hport, ?bind, ?refused⟩
  case bind =>
    rintro s r d x b h hbop hok rfl rfl
    exact execFrameBind_of_starts h hbop hok
  case refused =>
    rintro s r d k hdesc hready hnew hmay (⟨hop, hlow, hhigh, hset⟩ | hop)
    · exact execNop_of_headerBad hdesc hready hnew hmay (.inl hop) (headerBad_of_reserved s hop hlow hhigh hset)
    · have hunlisted : opcodeListed d.opcode = false := by simp [opcodeListed, hop]
      exact execNop_of_headerBad hdesc hready hnew hmay (.inr hunlisted) (headerBad_of_unlisted s hunlisted)

end Sys2Proof.Machine

/-! ## Partition resets and other functions

Each operation of a reset changes at most given clusters, given pages and one function's partition; a reset is made of such operations
(R332, R336, R338, R341, R342). -/
namespace Sys2Proof.Machine

/-- What lies outside the clusters `C`, the pages `P` and the partition of `f` is in `t` as it is in `s`. -/
structure TouchesOnly (C P : Nat → Prop) (f : Nat) (s t : State) : Prop where
  clu : ∀ i, ¬ C i → t.clu i = s.clu i
  page : ∀ p, ¬ P p → t.page p = s.page p
  prt : ∀ h, h ≠ f → t.prt h = s.prt h

/-- What the clear phase does to one cluster: it is cleared, or later where its field is dark (R338, R344). -/
def State.clearOrDefer (s : State) (i : Nat) : State :=
  if s.isDark (fieldOf i) then s.modClu i (fun c => { c.unload with needsClear := true, resetting := false }) else s.clearCluster i

/-- The clear phase clears the function's clusters, then its memory, rings, stream contexts and counters (R338). -/
theorem clearPhase_eq (s : State) (f : Nat) : s.clearPhase f =
    ((((s.each (s.clustersOf f) State.clearOrDefer).clearMemory f).clearRings f).clearStreams f).clearPartCtrs f := rfl

namespace TouchesOnly
variable {C P : Nat → Prop} {f : Nat}

/-- What changes no cluster, no page entry and no partition lies within every bound. -/
theorem of_fields {s t : State} (hcl : t.cl = s.cl) (hpage : t.mem.page = s.mem.page) (hpart : t.part = s.part) : TouchesOnly C P f s t where
  clu i _ := by rw [State.clu, hcl, State.clu]
  page p _ := by rw [State.page, hpage, State.page]
  prt h _ := by rw [State.prt, hpart, State.prt]

/-- What an event, a count or a record can change lies within every bound. -/
theorem of_still {s t : State} (h : t.still = s.still) : TouchesOnly C P f s t :=
  of_fields (show t.still.cl = s.still.cl from congrArg State.cl h) (show t.still.mem.page = s.still.mem.page by rw [h])
    (show t.still.part = s.still.part from congrArg State.part h)

theorem refl (s : State) : TouchesOnly C P f s s := of_fields rfl rfl rfl

theorem trans {s t u : State} (hst : TouchesOnly C P f s t) (htu : TouchesOnly C P f t u) : TouchesOnly C P f s u where
  clu i hi := (htu.clu i hi).trans (hst.clu i hi)
  page p hp := (htu.page p hp).trans (hst.page p hp)
  prt h hh := (htu.prt h hh).trans (hst.prt h hh)

/-- A fold whose steps stay within the bounds stays within them. -/
theorem each {α : Type} {g : State → α → State} {l : List α} (hstep : ∀ a ∈ l, ∀ t, TouchesOnly C P f t (g t a)) (s : State) :
    TouchesOnly C P f s (s.each l g) := by
  induction l generalizing s with
  | nil => exact refl s
  | cons x l ih =>
    exact (hstep x List.mem_cons_self s).trans (ih (fun a ha => hstep a (List.mem_cons_of_mem x ha)) (g s x))

/-! ### The state's own operations -/

theorem modClu {i : Nat} (hi : C i) (s : State) (g : Cluster → Cluster) : TouchesOnly C P f s (s.modClu i g) where
  clu j hj := (clu_modClu s i j g).trans (if_neg fun h : j = i => hj (h ▸ hi))
  page _ _ := rfl
  prt _ _ := rfl

theorem modPage {p : Nat} (hp : P p) (s : State) (g : Page → Page) : TouchesOnly C P f s (s.modPage p g) where
  clu _ _ := rfl
  page q hq := (page_modPage s p q g).trans (if_neg fun h : q = p => hq (h ▸ hp))
  prt _ _ := rfl

theorem modPart (s : State) (g : Part → Part) : TouchesOnly C P f s (s.modPart f g) where
  clu _ _ := rfl
  page _ _ := rfl
  prt h hh := (prt_modPart s f h g).trans (if_neg hh)

theorem bump (s : State) (o n : Nat) : TouchesOnly C P f s (s.bump o n) := of_still (still_bump s o n)

theorem modDescs (s : State) (g : List Desc → List Desc) : TouchesOnly C P f s (s.modDescs g) := of_fields rfl rfl rfl

theorem modFab (s : State) (g : Fabric → Fabric) : TouchesOnly C P f s (s.modFab g) := of_fields rfl rfl rfl

theorem modTgroup (s : State) (k : Nat) (g : TGroup → TGroup) : TouchesOnly C P f s (s.modTgroup k g) := of_fields rfl rfl rfl

theorem modGroup (s : State) (k : Nat) (g : Group → Group) : TouchesOnly C P f s (s.modGroup k g) := of_fields rfl rfl rfl

theorem removePacket (s : State) (p : Packet) : TouchesOnly C P f s (s.removePacket p) := of_fields rfl rfl rfl

/-! ### Marking and halting -/

theorem haltCores {l : List Nat} (hl : ∀ i ∈ l, C i) (s : State) : TouchesOnly C P f s (s.haltCores l) :=
  each (fun i hi t => modClu (hl i hi) t _) s

/-- A function's descriptors end without a trace in any other partition (R326, R339). -/
theorem endDescs (s : State) : TouchesOnly C P f s (s.endDescs f) := by
  unfold State.endDescs
  split
  · exact refl s
  · exact ((modPart s _).trans (modDescs _ _)).trans (bump _ _ _)

theorem freeSums (s : State) (g c : Nat) : TouchesOnly C P f s (s.freeSums g c) := of_fields rfl rfl rfl

/-- What a configuration holds lies in the fabric (R238, R239). -/
theorem freeCfg (s : State) (g c : Nat) : TouchesOnly C P f s (s.freeCfg g c) := by
  have hdrop : TouchesOnly C P f s (s.dropTT (cfgKey g c)) :=
    each (fun p _ t => (removePacket t p).trans (bump _ _ _)) s
  exact (hdrop.trans (modFab _ _)).trans (freeSums _ g c)

theorem freeAll (s : State) (g : Nat) : TouchesOnly C P f s (s.freeAll g) :=
  each (fun c _ t => freeCfg t g c) s

theorem dropBindings (s : State) (g : Nat) : TouchesOnly C P f s (s.dropBindings g) := of_fields rfl rfl rfl

theorem setTow (s : State) (w : Tow) : TouchesOnly C P f s { s with tow := w } := of_fields rfl rfl rfl

theorem resetGroups (s : State) (g : Nat) :
    TouchesOnly C P f s (s.each (s.groupsOf g) (fun t k => t.modTgroup k TGroup.reset)) :=
  each (fun k _ t => modTgroup t k TGroup.reset) s

/-- Marking and halting a function changes its own clusters and its own partition (R338, R339). -/
theorem markReset {s : State} (hC : ∀ i ∈ s.clustersOf f, C i) : TouchesOnly C P f s (s.markReset f) := by
  have habandon := (haltCores (P := P) (f := f) hC s).trans
    (each (fun i hi t => modClu (hC i hi) t (fun c => { c.abandon.stopUnits with resetting := true })) _)
  have hfree := ((habandon.trans (endDescs _)).trans (freeAll _ f)).trans (dropBindings _ f)
  have hmark := hfree.trans (modPart _ (fun p => { p with cfg := [], reset := some { since := s.now } }))
  exact (hmark.trans (resetGroups _ f)).trans (setTow _ _)

theorem requestReset {s : State} (hC : ∀ i ∈ s.clustersOf f, C i) : TouchesOnly C P f s (s.requestReset f) := by
  unfold State.requestReset
  split
  · exact refl s
  · exact markReset hC

/-! ### Clearing -/

/-- Clearing a cluster changes it and counters (R141, R414). -/
theorem clearCluster {i : Nat} (hi : C i) (s : State) : TouchesOnly C P f s (s.clearCluster i) := by
  have hskip : TouchesOnly C P f s (if (s.clu i).caps.length = 0 then s else s.bump offSkip (s.clu i).caps.length) := by
    split
    · exact refl s
    · exact bump s _ _
  exact (hskip.trans (modClu hi _ Cluster.clear)).trans (of_fields rfl rfl rfl)

/-- A cluster of the partition is cleared at once, or once its field is back (R338, R344). -/
theorem clearOrDefer {i : Nat} (hi : C i) (s : State) : TouchesOnly C P f s (s.clearOrDefer i) := by
  unfold State.clearOrDefer
  split
  · exact modClu hi s _
  · exact clearCluster hi s

theorem moveEnded (s : State) (p : Nat) : TouchesOnly C P f s (s.moveEnded p) := by
  unfold State.moveEnded
  split
  · exact of_fields rfl rfl rfl
  · exact refl s

/-- An abandoned move changes its page's entry (R278). -/
theorem abandonMove {p : Nat} (hp : P p) (s : State) (bad : List Nat) : TouchesOnly C P f s (s.abandonMove p bad) := by
  have hdrop : TouchesOnly C P f s (s.dropChunks p (s.page p).chunk) := of_fields rfl rfl rfl
  exact (hdrop.trans (modPage hp _ _)).trans (moveEnded _ p)

/-- Zeroing a page changes no page entry (R291). -/
theorem zeroPage (s : State) (p : Nat) : TouchesOnly C P f s (s.zeroPage p) := of_fields rfl rfl rfl

theorem clearRings (s : State) (g : Nat) : TouchesOnly C P f s (s.clearRings g) := of_fields rfl rfl rfl

theorem clearStreams (s : State) (g : Nat) : TouchesOnly C P f s (s.clearStreams g) := of_fields rfl rfl rfl

theorem clearPartCtrs (s : State) (g : Nat) : TouchesOnly C P f s (s.clearPartCtrs g) := of_fields rfl rfl rfl

end TouchesOnly

/-- A function owns a valid page (R291). -/
def State.ownsPage (s : State) (f p : Nat) : Prop := ∃ e ∈ s.mem.page, e.1 = p ∧ e.2.v = true ∧ e.2.owner = f

/-- Clearing a cluster leaves the page table. -/
theorem pageTable_clearOrDefer (s : State) (i : Nat) : (s.clearOrDefer i).mem.page = s.mem.page := by
  have hbump : (s.bump offSkip (s.clu i).caps.length).mem.page = s.mem.page :=
    show (s.bump offSkip (s.clu i).caps.length).still.mem.page = s.still.mem.page by rw [still_bump]
  unfold State.clearOrDefer
  split
  · rfl
  · simp only [State.clearCluster, modClu_mem]
    split
    · rfl
    · exact hbump

section clearing
variable {C P : Nat → Prop} {f : Nat} {s : State}

/-- Clearing memory changes the entries of the function's own pages alone (R291). -/
theorem TouchesOnly.clearMemory (hP : ∀ p, s.ownsPage f p → P p) : TouchesOnly C P f s (s.clearMemory f) := by
  refine (TouchesOnly.each (fun p hp t => ?page) s).trans (TouchesOnly.each (fun g _ t => .modGroup t g _) _)
  case page =>
    have howned : P p := hP p (by simpa [State.ownsPage, and_assoc, and_comm, and_left_comm] using hp)
    split
    · exact (TouchesOnly.abandonMove howned t []).trans (.zeroPage _ p)
    · exact .zeroPage t p

/-- The clear phase changes the function's own clusters and pages alone (R338, R344). -/
theorem TouchesOnly.clearPhase (hC : ∀ i ∈ s.clustersOf f, C i) (hP : ∀ p, s.ownsPage f p → P p) :
    TouchesOnly C P f s (s.clearPhase f) := by
  have hclusters : TouchesOnly C P f s (s.each (s.clustersOf f) State.clearOrDefer) :=
    .each (fun i hi t => .clearOrDefer (hC i hi) t) s
  have htable := each_keeps (fun t => t.mem.page) pageTable_clearOrDefer (s.clustersOf f) s
  rw [clearPhase_eq]
  have hmemory := hclusters.trans (TouchesOnly.clearMemory fun p hp => hP p (by rwa [State.ownsPage, htable] at hp))
  exact ((hmemory.trans (.clearRings _ f)).trans (.clearStreams _ f)).trans (.clearPartCtrs _ f)

end clearing

/-- What the two commands change lies within the clusters, the pages and the partition of the function that is reset. -/
theorem touchesOnly_of_reset {s t : State} {f g : Func} (h : exec (.partitionReset g f) s = .next t ∨ exec (.resetClearDone f) s = .next t) :
    TouchesOnly (· ∈ s.clustersOf f.val) (s.ownsPage f.val) f.val s t := by
  rcases h with hreset | hclear
  · replace hreset : execPartitionReset g f s = .next t := hreset
    unfold execPartitionReset at hreset
    split at hreset <;> cases hreset
    · exact .refl s
    · exact (TouchesOnly.requestReset fun _ hi => hi).trans (.modPart _ _)
  · replace hclear : execResetClearDone f s = .next t := hclear
    unfold execResetClearDone at hclear
    split at hclear
    · cases hclear
      exact .refl s
    · split at hclear <;> cases hclear
      · exact .refl s
      · exact ((TouchesOnly.clearPhase (fun _ hi => hi) fun _ hp => hp).trans (.modPart _ _)).trans (.bump _ _ _)

/-- Settles O37: every operation of a reset lies within the clusters, the pages and the partition of its function. -/
theorem partitionResetsTouchTheirOwnFunctionAlone : Obligations.PartitionResetsTouchTheirOwnFunctionAlone := by
  intro s t f g h
  obtain ⟨hclu, hpage, hprt⟩ := touchesOnly_of_reset h
  refine ⟨hclu, fun p hforeign => hpage p ?_, hprt⟩
  rintro ⟨e, he, hkey, hvalid, howner⟩
  exact hforeign e he hkey hvalid howner

end Sys2Proof.Machine

/-! ## The step of the engine, and counters

A step with and without a command in the queue (R505), and counter pairs that stick at their largest count (R140, R510). -/
namespace Sys2Proof.Machine

/-- Settles O51: `step` takes the front of the queue by definition. -/
theorem stepTakesTheFrontCommand : Obligations.StepTakesTheFrontCommand := fun _ _ _ => rfl

/-- With an empty queue a step is a tick. -/
theorem step_of_idle {s : State} (h : s.pending = []) : step s = .next s.tick := by
  simp only [step, h]

/-- Settles O52: an idle step is a tick, which counts where the standby supply is up. -/
theorem idleEngineTicks : Obligations.IdleEngineTicks := by
  intro s hidle
  rw [step_of_idle hidle]
  exact ⟨fun hon => congrArg _ (if_neg hon), fun hoff => congrArg _ (if_pos hoff)⟩

/-! ### Counters -/

/-- A sum within 48 bits is the new count (R510). -/
theorem Counter.add_of_fits {c : Counter} {n : Nat} (h : c.count + n ≤ 2 ^ 48 - 1) : c.add n = { c with count := c.count + n } :=
  if_neg (Nat.not_lt.2 h)

/-- A sum beyond 48 bits sticks at the largest count with OVF set (R510). -/
theorem Counter.add_of_exceeds {c : Counter} {n : Nat} (h : 2 ^ 48 - 1 < c.count + n) :
    c.add n = { count := 2 ^ 48 - 1, ovf := true, raised := c.raised } :=
  if_pos h

/-- A counter never exceeds 48 bits (R140, R510). -/
theorem Counter.add_count_le (c : Counter) (n : Nat) : (c.add n).count ≤ 2 ^ 48 - 1 := by
  rcases Nat.lt_or_ge (2 ^ 48 - 1) (c.count + n) with h | h
  · rw [Counter.add_of_exceeds h]
  · rw [Counter.add_of_fits h]
    exact h

/-- A counter that stands at its largest count stays there (R510). -/
theorem Counter.add_count_of_stuck {c : Counter} (h : c.count = 2 ^ 48 - 1) (n : Nat) : (c.add n).count = 2 ^ 48 - 1 := by
  rcases Nat.lt_or_ge (2 ^ 48 - 1) (c.count + n) with hover | hfits
  · rw [Counter.add_of_exceeds hover]
  · rw [Counter.add_of_fits hfits]
    show c.count + n = _
    omega

/-- A stuck counter stays stuck through any list of events (R510). -/
theorem Counter.foldl_add_count_of_stuck (l : List Nat) {c : Counter} (h : c.count = 2 ^ 48 - 1) :
    (l.foldl Counter.add c).count = 2 ^ 48 - 1 := by
  induction l generalizing c with
  | nil => exact h
  | cons n l ih => exact ih (Counter.add_count_of_stuck h n)

/-- A write without CLR leaves the count, and clears OVF where it writes 1 to it (R140, R510). -/
theorem Counter.write_keeps_count (c : Counter) {v : W32} (hclr : v.getLsbD 30 = false) :
    c.write v = { c with ovf := c.ovf && !v.getLsbD 31 } := by
  cases h : v.getLsbD 31 with
  | true => rw [Counter.write_ovf c hclr h, Bool.not_true, Bool.and_false]
  | false =>
    simp only [Counter.write, bitOf, BitVec.testBit_toNat, hclr, h, Bool.false_eq_true, if_false, Bool.not_false, Bool.and_true]

theorem Counter.low_toNat (c : Counter) : c.low.toNat = c.count % 2 ^ 32 := BitVec.toNat_ofNat _ _

/-- The high word holds OVF above the upper 16 bits of the count (R140). -/
theorem Counter.high_toNat {c : Counter} (h : c.count ≤ 2 ^ 48 - 1) : c.high.toNat = 2 ^ 31 * c.ovf.toNat + c.count / 2 ^ 32 := by
  rw [Counter.high, BitVec.toNat_ofNat]
  cases c.ovf <;> simp only [if_true, if_false, Bool.false_eq_true, Bool.toNat_true, Bool.toNat_false] <;> omega

/-- Settles O57: an event by whether its sum fits, a write by its CLR bit, and the two words by the count's bits. -/
theorem countersStickUntilCleared : Obligations.CountersStickUntilCleared := by
  refine ⟨fun c n _ => ⟨fun hfits => ?fits, fun hover => ?sticks, Counter.add_count_le c n⟩,
    fun c l => Counter.foldl_add_count_of_stuck l, fun c v => ⟨fun hclr => ?cleared, fun hkeep => ?kept⟩,
    fun c hc => ⟨c.low_toNat, ?words⟩⟩
  case fits => rw [Counter.add_of_fits hfits]; exact ⟨rfl, rfl⟩
  case sticks => rw [Counter.add_of_exceeds hover]; exact ⟨rfl, rfl⟩
  case cleared => rw [Counter.write_clr c hclr]; exact ⟨rfl, rfl⟩
  case kept => rw [Counter.write_keeps_count c hkeep]; exact ⟨rfl, rfl⟩
  case words =>
    have hovf : c.ovf.toNat ≤ 1 := Bool.toNat_le c.ovf
    rw [Counter.high_toNat hc]
    omega

end Sys2Proof.Machine

/-! ## Management commands

One rule for the commands of R502 by who gives them, what is in progress and whether they are refused (R502, R503), and the two records of
the management interfaces (R345, R515). -/
namespace Sys2Proof.Machine

section mgmtCommand
variable {s : State} {src : MgmtSource} {code arg : Nat} {anyTime refused : Bool} {eff : State → State}

/-- A command from a source that is not heard has no effect (R502). -/
theorem mgmtCommand_of_unheard (h : s.mgmtHears src = false) : s.mgmtCommand src code arg anyTime refused eff = s := by
  simp [State.mgmtCommand, h]

variable (h : s.mgmtHears src = true)
include h

/-- A command that is refused in no way raises MGMT_CMD and has its effect (R502, R503). -/
theorem mgmtCommand_of_taken (hidle : s.mgmt.busy = none ∨ anyTime = true) (hok : refused = false) :
    s.mgmtCommand src code arg anyTime refused eff = eff (s.mgmtEvent src code arg) := by
  have hfree : (s.mgmt.busy.isSome && !anyTime) = false := by
    rcases hidle with hnone | hany
    · rw [hnone]; rfl
    · rw [hany]; exact Bool.and_false _
  simp [State.mgmtCommand, h, hfree, hok]

/-- A command that its column of R502 refuses has no effect. -/
theorem mgmtCommand_of_refused (hidle : s.mgmt.busy = none) (hrefused : refused = true) :
    s.mgmtCommand src code arg anyTime refused eff = s := by
  simp [State.mgmtCommand, h, hidle, hrefused]

/-- A command that must wait its turn is answered as busy (R503). -/
theorem mgmtCommand_of_busy {x : Nat} (hbusy : s.mgmt.busy = some x) :
    s.mgmtCommand src code arg false refused eff = s.emit (if overMctp src = true then .mctpNotReady else .http 503) := by
  simp [State.mgmtCommand, h, hbusy, State.mgmtRefuse]

end mgmtCommand

/-- The sideband's address is recorded by the LMC, and in recovery by the LSE (R345, R489). -/
theorem execI3cEntdaa_of_served {s : State} {a : BitVec 7} (h : s.lmcUp = true ∨ (s.pwr.step = .standby ∧ s.sec.recovery = true)) :
    execI3cEntdaa a s = .next { s with mgmt := { s.mgmt with i3c := some a } } :=
  if_pos (by simpa using h)

/-- Settles O50: each command through the one rule of `mgmtCommand`. -/
theorem managementCommandsAct : Obligations.ManagementCommandsAct := by
  refine ⟨fun s t src h hidle hon => ?reset, fun s t src h => ?anyTime, fun s t src h hidle hoff ht => ?powerOn,
    fun s t src on h hidle ht => ?autoOn, fun s t src v h hidle ht => ?reserve, fun s src x h hbusy c hc => ?busy,
    fun s src h hidle hoff => ?resetOff, fun s src h hidle hon => congrArg _ (mgmtCommand_of_refused h hidle hon),
    fun s a => execI3cEntdaa_of_served, fun s src h c hc => ?unheard, fun s up h => if_pos h⟩
  case reset =>
    have hok : (!s.logicOn) = false := by rw [hon]; rfl
    exact ⟨fun ht => ht ▸ congrArg _ (mgmtCommand_of_taken h (.inl hidle) hok),
      fun ht => ht ▸ congrArg _ (mgmtCommand_of_taken h (.inl hidle) hok)⟩
  case anyTime =>
    exact ⟨fun ht => ht ▸ congrArg _ (mgmtCommand_of_taken h (.inr rfl) rfl),
      fun ht => ht ▸ congrArg _ (mgmtCommand_of_taken h (.inr rfl) rfl)⟩
  case powerOn => exact ht ▸ congrArg _ (mgmtCommand_of_taken h (.inl hidle) hoff)
  case autoOn => exact ht ▸ congrArg _ (mgmtCommand_of_taken h (.inl hidle) rfl)
  case reserve =>
    exact ⟨fun hv => ht ▸ congrArg _ (mgmtCommand_of_taken h (.inl hidle) (decide_eq_false (Nat.not_lt.2 hv))),
      fun hv => congrArg _ (mgmtCommand_of_refused h hidle (decide_eq_true hv))⟩
  case busy =>
    rcases hc with rfl | rfl | rfl | ⟨b, rfl⟩ | ⟨v, rfl⟩ <;> exact congrArg _ (mgmtCommand_of_busy h hbusy)
  case resetOff =>
    have hrefused : (!s.logicOn) = true := by rw [hoff]; rfl
    exact ⟨congrArg _ (mgmtCommand_of_refused h hidle hrefused), congrArg _ (mgmtCommand_of_refused h hidle hrefused)⟩
  case unheard =>
    rcases hc with rfl | rfl | rfl | rfl | rfl | ⟨b, rfl⟩ | ⟨v, rfl⟩ <;> exact congrArg _ (mgmtCommand_of_unheard h)

end Sys2Proof.Machine

/-! ## Tow frames, links and transit

Frames received and sent by the state of their port (R366 to R373), a link's end and return (R373, R383), and messages in transit (R374 to
R376). -/
namespace Sys2Proof.Machine

/-! ### Frames received -/

section received
variable {s : State} {p : EPort} {h : TowHead} (htakes : s.towTakes p.val = true)
include htakes

/-- A frame of another EtherType or version is counted and discarded (R366, R368). -/
theorem execTowDataFrame_of_foreign (hforeign : s.foreign h = true) (g : Bool) (m : TowMsg) :
    execTowDataFrame p g h m s = .next (s.bump (offRxDisc p.val) 1) := by
  simp only [execTowDataFrame, htakes, hforeign, Bool.not_true, Bool.false_eq_true, if_false, if_true]

theorem execTowLinkFrame_of_foreign (hforeign : s.foreign h = true) (g : Bool) :
    execTowLinkFrame p g h s = .next (s.bump (offRxDisc p.val) 1) := by
  simp only [execTowLinkFrame, htakes, hforeign, Bool.not_true, Bool.false_eq_true, if_false, if_true]

variable (hown : s.foreign h = false)
include hown

section up
variable (hup : (s.tport p.val).state = .up) (m : TowMsg)
include hup

/-- A good frame with the expected SEQ is accepted, and its ACK, NAK and credits act (R370). -/
theorem execTowDataFrame_of_expected (hseq : h.seq = (s.tport p.val).rxSeq) : execTowDataFrame p true h m s = .next
    (((s.modTport p.val (fun t => { t with rxSeq := t.rxSeq + 1, ackDue := true, heard := s.now })).towAccept p.val m).linkPart p.val h) := by
  simp [execTowDataFrame, htakes, hown, hup, hseq]

/-- A good frame with another SEQ asks for a replay, and its ACK, NAK and credits act (R370, log 102). -/
theorem execTowDataFrame_of_unexpected (hseq : h.seq ≠ (s.tport p.val).rxSeq) : execTowDataFrame p true h m s = .next
    (((s.modTport p.val (fun t => { t with nak := true })).modTport p.val (fun t => { t with heard := s.now })).linkPart p.val h) := by
  simp [execTowDataFrame, htakes, hown, hup, hseq]

/-- A bad frame asks for a replay where its SEQ is beyond the expected one (R370). -/
theorem execTowDataFrame_of_bad : execTowDataFrame p false h m s = .next
    (s.modTport p.val (fun t => { t with nak := t.nak || serialBefore 32 t.rxSeq.toNat h.seq.toNat })) := by
  simp [execTowDataFrame, htakes, hown, hup]

omit m in
/-- A good LINK frame's ACK, NAK and credits act (R370). -/
theorem execTowLinkFrame_of_up : execTowLinkFrame p true h s = .next
    ((s.modTport p.val (fun t => { t with heard := s.now })).linkPart p.val h) := by
  simp only [execTowLinkFrame, htakes, hown, hup, Bool.not_true, Bool.false_eq_true, if_false]

end up

/-- While its port trains, a LINK frame with ACK 0 shows that the peer has restarted (R373, log 103). -/
theorem execTowLinkFrame_of_training (htrains : (s.tport p.val).state = .training) (hack : h.ack = 0) : execTowLinkFrame p true h s = .next
    (s.modTport p.val (fun t =>
      { t with linkSeen := true, heard := s.now, peer := [h.credReq0, h.credReq1, h.credAns0, h.credAns1] })) := by
  simp only [execTowLinkFrame, htakes, hown, htrains, hack, Bool.not_true, Bool.false_eq_true, if_false, if_true]

end received

/-- A frame is foreign by its EtherType or its version (R366, R368). -/
theorem foreign_iff (s : State) (h : TowHead) : s.foreign h = true ↔ h.etype ≠ s.tow.etype ∨ h.ver ≠ 1 := by
  simp [State.foreign]

theorem foreign_eq_false {s : State} {h : TowHead} (htype : h.etype = s.tow.etype) (hver : h.ver = 1) : s.foreign h = false := by
  simp [State.foreign, htype, hver]

/-! ### LINK frames sent, and the state of a link -/

section link
variable {s : State} {p : EPort} (htakes : s.towTakes p.val = true)
include htakes

/-- An ACK can be sent at any time while the port is up (R370). -/
theorem execTowAckSend_of_up (hup : (s.tport p.val).state = .up) : execTowAckSend p s = .next (s.sendFrame p.val 0 none) := by
  simp only [execTowAckSend, htakes, hup, Bool.not_true, Bool.false_eq_true, if_false]

/-- A port that trains sends LINK frames (R373). -/
theorem execTowAckSend_of_training (htrains : (s.tport p.val).state = .training) : execTowAckSend p s =
    .next ((s.sendFrame p.val 0 none).modTport p.val (fun t => { t with linkSent := true })) := by
  simp only [execTowAckSend, htakes, htrains, Bool.not_true, Bool.false_eq_true, if_false]

/-- LINK frames each way bring the link up (R373). -/
theorem execTowLinkUp_of_linked (htrains : (s.tport p.val).state = .training) (hsent : (s.tport p.val).linkSent = true)
    (hseen : (s.tport p.val).linkSeen = true) : execTowLinkUp p s =
    .next (((s.modTport p.val (fun t => { t with state := .up, heard := s.now })).raiseWide 0x0018 (p.val + 16)).towDrain) := by
  simp [execTowLinkUp, htakes, htrains, hsent, hseen, State.towLinkEvent]

/-- After 4 us without a good frame the link is down, and what it carried is lost (R373, R383). -/
theorem execTowLinkDown_of_silent (hup : (s.tport p.val).state = .up) (hsilent : (s.tport p.val).heard + 4 ≤ s.now) {sent : List TowMsg}
    (hsent : sent = (s.tport p.val).replay.map Prod.snd) {u : State} (hu : u = (s.modTport p.val (fun t => t.restart .training)).each
      (raccs (sent ++ (s.tport p.val).rx)) (fun u m => u.loseStep m.vgroup.val m.step)) : execTowLinkDown p s =
    .next ((((u.each (u.tow.fwd.filter (fun f => f.port == some p.val &&
      (raccs sent).any (fun m => m.arg.toNat / 2 ^ 32 == f.mtag.toNat && m.srcEng == u.eng))) State.voidRecord).bump
        (offTowDown p.val) 1).raiseWide 0x0018 p.val).towDrain) := by
  subst hsent hu
  have hdown : (!s.towTakes p.val || (s.tport p.val).state != .up || decide (s.now < (s.tport p.val).heard + 4)) = false := by
    rw [htakes, hup, decide_eq_false (Nat.not_lt.2 hsilent)]; rfl
  exact if_neg (ne_true_of_eq_false hdown)

end link

/-! ### Transit -/

section transit
variable {s : State} {p : EPort} {m : TowMsg} (hready : s.ready = true) (htransit : s.towTransit p.val = some m)
include hready htransit

/-- A message at HOPS 0 is discarded (R376). -/
theorem execTowForward_of_spent (hhops : m.hops = 0) : execTowForward p s = .next ((s.towRelease p.val m).bump (towBase + 0x10) 1) := by
  simp only [execTowForward, hready, htransit, hhops, Bool.not_true, Bool.false_eq_true, if_false, if_true]
  rfl

/-- A message leaves by its route where that can take it (R371, R372, R374). -/
theorem execTowForward_of_routed {o : Nat} (hhops : m.hops ≠ 0) (hroute : s.towPort m.dstEng.val = some o)
    (hsend : (s.tport o).canSend (msgThrough m (s.tport p.val) (s.tport o)) = true) : execTowForward p s =
    .next (((s.towRelease p.val m).sendData o (msgThrough m (s.tport p.val) (s.tport o))).bump (offTowTransit o) 1) := by
  simp only [execTowForward, hready, htransit, hhops, hroute, hsend, Bool.not_true, Bool.false_eq_true, if_false, if_true]

end transit

/-- Settles O40: frames by their port's state and their SEQ, links by their frames, and a message in transit by its hops and its route. -/
theorem towPortsExchangeFrames : Obligations.TowPortsExchangeFrames := by
  refine ⟨fun s p h m htakes hforeign g => ?foreign, ?up, ?training,
    fun s u p sent htakes hup hsilent hsent => execTowLinkDown_of_silent htakes hup hsilent hsent,
    fun s p m o hready htransit => ⟨execTowForward_of_spent hready htransit, execTowForward_of_routed hready htransit⟩,
    fun m a b => ⟨rfl, rfl, rfl⟩, fun s f hpf => if_pos hpf⟩
  case foreign =>
    have hdiscards := (foreign_iff s h).2 hforeign
    exact ⟨execTowDataFrame_of_foreign htakes hdiscards g m, execTowLinkFrame_of_foreign htakes hdiscards g⟩
  case up =>
    rintro s p h m t htakes htype hver rfl hup
    have hown := foreign_eq_false htype hver
    exact ⟨execTowDataFrame_of_expected htakes hown hup m, execTowDataFrame_of_unexpected htakes hown hup m,
      execTowDataFrame_of_bad htakes hown hup m, execTowLinkFrame_of_up htakes hown hup, execTowAckSend_of_up htakes hup⟩
  case training =>
    intro s p h htakes htrains
    exact ⟨fun htype hver => execTowLinkFrame_of_training htakes (foreign_eq_false htype hver) htrains,
      execTowAckSend_of_training htakes htrains, execTowLinkUp_of_linked htakes htrains⟩

end Sys2Proof.Machine

/-! ## Sensors, cooling and ageing

What a reading does to its sensor and its field (R464 to R467, R469), the commands of cooling and rewax against their guards (R463, R473,
R474, R506), and how a field goes to its plan (R477). -/
namespace Sys2Proof.Machine

/-! ### Sensors -/

/-- Sensors have power from the crust's step on (R452, R464). -/
theorem samples_of_powered {s : State} (h : s.pwr.step = .crust ∨ s.pwr.step = .regions ∨ s.pwr.step = .released) :
    (!(s.pwr.step == .regions || s.pwr.step == .released || s.pwr.step == .crust)) = false := by
  rcases h with h | h | h <;> rw [h] <;> rfl

section sensorSample
variable {s u : State} {l : List (Sensor × Option Int)} (hon : s.pwr.step = .crust ∨ s.pwr.step = .regions ∨ s.pwr.step = .released)
  (hu : u = s.each l (fun t e => t.sampleOne e.1 e.2))
include hon hu

/-- Readings that do not trip are judged field by field (R465 to R467). -/
theorem execSensorSample_of_quiet (hnone : u.trips s (l.map Prod.fst) = none) :
    execSensorSample l s = .next (u.each (sensorFields (l.map Prod.fst)) State.judgeField) := by
  subst hu
  simp only [execSensorSample, samples_of_powered hon, hnone, Bool.false_eq_true, if_false]

/-- A sensor that trips resets the module, which waits for a cool wafer (R469, R515). -/
theorem execSensorSample_of_trip {x : Sensor} {t : State} (hsome : u.trips s (l.map Prod.fst) = some x)
    (ht : t = u.moduleReset 6 0 (sensorIndex x) false .crust) :
    execSensorSample l s = .next { t with thm := { t.thm with waitCool := true }, mgmt := t.mgmt.record (u.sense x) } := by
  subst hu ht
  simp only [execSensorSample, samples_of_powered hon, hsome, Bool.false_eq_true, if_false]

end sensorSample

/-- A reading from 0 to 125 degrees C ends a run of bad samples (R465). -/
theorem sample_of_inRange (x : Sense) (now : Nat) {v : Int} (hlow : 0 ≤ v) (hhigh : v ≤ 16 * 125) :
    x.sample now (some v) = { x with temp := v, time := now, was := (x.temp, x.time), bad := 0, hot := 16 * 100 ≤ v } := by
  have hin : (decide (v < 0) || decide (deg 125 < v)) = false := by
    rw [decide_eq_false (Int.not_lt.2 hlow), decide_eq_false (show ¬ deg 125 < v from Int.not_lt.2 hhigh)]; rfl
  simp only [Sense.sample, hin, Bool.false_and, Bool.or_false, Bool.false_eq_true, if_false]
  rfl

/-- A reading beyond 0 to 125 degrees C is kept and counts as bad; the tenth running fails the sensor (R465, log 137). -/
theorem sample_of_outOfRange (x : Sense) (now : Nat) {v : Int} (h : v < 0 ∨ 16 * 125 < v) : x.sample now (some v) =
    { x with temp := v, time := now, was := (x.temp, x.time), bad := x.bad + 1, hot := 16 * 100 ≤ v, failed := x.failed || 10 ≤ x.bad + 1 } := by
  have hout : (decide (v < 0) || decide (deg 125 < v)) = true := by
    rw [Bool.or_eq_true, decide_eq_true_eq, decide_eq_true_eq]; exact h
  simp only [Sense.sample, hout, Bool.true_and, if_true]
  rfl

theorem record_of_cons {m : Mgmt} (x : Sense) {e : ResetEntry} {l : List ResetEntry} (h : m.resets = e :: l) :
    m.record x = { m with resets := { e with readings := [x.was, (x.temp, x.time)] } :: l } := by
  simp only [Mgmt.record, h]

/-! ### Judging a field -/

section judge
variable {x : FieldSt} (now : Nat)

/-- At 92 degrees or more a field is gated, and its ceiling stays where it has sensors enough (R466, R467). -/
theorem judge_of_hot (hmany : 12 ≤ x.working.length) (hheld : x.held350 = false) (hhot : 16 * 92 ≤ x.hottest) :
    (x.judge now).gateSp = true ∧ (x.judge now).spCeil = x.spCeil := by
  have hfew : ¬ x.working.length < 12 := Nat.not_lt.2 hmany
  have hgates : deg 92 ≤ x.hottest := hhot
  simp [FieldSt.judge, hgates, hheld, hfew]

/-- A gate opens at 350 MHz once its field has been below 88 degrees for 1 ms (R467). -/
theorem judge_of_cooled {now t : Nat} (hcool : x.hottest < 16 * 88) (hsince : x.openSince = some t) (ht : t + 1000 ≤ now)
    (hgate : x.gateSp = true) : (x.judge now).gateSp = false ∧ (x.judge now).spCeil = 14 := by
  have hungated : ¬ deg 92 ≤ x.hottest := by unfold deg; omega
  have hopens : x.hottest < deg 88 := hcool
  simp [FieldSt.judge, hungated, hopens, hsince, ht, hgate]

/-- With fewer than 12 working sensors a field is held at 350 MHz (R465). -/
theorem judge_of_few (hfew : x.working.length < 12) : (x.judge now).spCeil = 14 ∧ (x.judge now).held350 = true := by
  simp only [FieldSt.judge, hfew, decide_true, Bool.or_true, if_true]
  repeat' split
  all_goals exact ⟨rfl, rfl⟩

end judge

/-! ### The snowplough -/

section snowplough
variable {s : State} {fld : FieldIx} {x : FieldSt} (hstep : s.pwr.step = .released) (hlit : s.isDark fld.val = false)
  (hx : x = s.field fld.val)
include hstep hlit

/-- Commands of a field act once the module is released, while the field is not dark. -/
theorem fieldActs : (!s.released || s.isDark fld.val) = false := by
  rw [released_eq hstep, hlit]; rfl

include hx

/-- At 82 degrees or more the ceiling falls every 1 ms (R466). -/
theorem execSnowploughStep_of_hot (hhot : 16 * 82 ≤ x.hottest) (hceil : 14 < x.spCeil) (htime : x.lowered + 1000 ≤ s.now) :
    execSnowploughStep fld s =
      .next ((s.modGate fld.val (fun x => { x with spCeil := x.spCeil - 1, lowered := s.now })).bump (offSpSteps fld.val) 1) := by
  subst hx
  have hdown : deg 82 ≤ (s.field fld.val).hottest := hhot
  simp only [execSnowploughStep, fieldActs hstep hlit, hdown, hceil, htime, and_self, Bool.false_eq_true, if_false, if_true]

/-- Below 79 degrees for 10 ms the ceiling rises every 10 ms (R466). -/
theorem execSnowploughStep_of_cool {t : Nat} (hcool : x.hottest < 16 * 79) (hsince : x.coolSince = some t) (ht : t + 10000 ≤ s.now)
    (htime : x.raised + 10000 ≤ s.now) (hceil : x.spCeil < 28) (hheld : x.held350 = false) (hgate : x.gateSp = false) :
    execSnowploughStep fld s = .next (s.modGate fld.val (fun x => { x with spCeil := x.spCeil + 1, raised := s.now })) := by
  subst hx
  have hup : ¬ deg 82 ≤ (s.field fld.val).hottest := by unfold deg; omega
  simp [execSnowploughStep, fieldActs hstep hlit, hup, hsince, ht, htime, hceil, hheld, hgate]

end snowplough

/-! ### Coolant -/

section coolant
variable {s : State} {i o : Int} {fl : Nat} {t : Thermal} (hoff : s.pwr.step ≠ .off) (hstandby : s.pwr.step ≠ .standby)
include hoff hstandby

/-- The coolant is sampled while the LMC runs (R463). -/
theorem coolantSampled : (s.pwr.step == .off || s.pwr.step == .standby) = false := by
  simp [hoff, hstandby]

/-- Outside the limits the alarm is raised once 5 s have passed (R463). -/
theorem execCoolantSample_of_outside (hout : 16 * 35 < i ∨ fl < 400)
    (ht : t = { s.thm with inlet := i, outlet := o, flow := fl, outSince := some (s.thm.outSince.getD s.now), inSince := none }) :
    execCoolantSample i o fl s = .next (if s.thm.outSince.getD s.now + 5000000 ≤ s.now ∧ s.thm.alarm = false then { s with
      thm := { t with alarm := true } }.raiseWide 0x0041 ((decide (16 * 35 < i)).toNat + 2 * (decide (fl < 400)).toNat)
      else { s with thm := t }) := by
  have houtside : (decide (deg 35 < i) || decide (fl < 400)) = true := by
    rw [Bool.or_eq_true, decide_eq_true_eq, decide_eq_true_eq]; exact hout
  subst ht
  simp only [execCoolantSample, coolantSampled hoff hstandby, houtside, Bool.false_eq_true, if_false, if_true, Bool.and_eq_true,
    decide_eq_true_eq, Bool.not_eq_true', false_and]
  exact (apply_ite Host.Outcome.next _ _ _).symm

/-- Within the limits an alarm ends once 5 s have passed (R463). -/
theorem execCoolantSample_of_within (hin : i ≤ 16 * 35) (hflow : 400 ≤ fl)
    (ht : t = { s.thm with inlet := i, outlet := o, flow := fl, outSince := none, inSince := some (s.thm.inSince.getD s.now) })
    (halarm : s.thm.alarm = true) (htime : s.thm.inSince.getD s.now + 5000000 ≤ s.now) :
    execCoolantSample i o fl s = .next ({ s with thm := { t with alarm := false } }.raiseWide 0x0041 4) := by
  have hwithin : (decide (deg 35 < i) || decide (fl < 400)) = false := by
    rw [decide_eq_false (show ¬ deg 35 < i from Int.not_lt.2 hin), decide_eq_false (Nat.not_lt.2 hflow)]; rfl
  subst ht
  simp only [execCoolantSample, coolantSampled hoff hstandby, hwithin, halarm, htime, decide_true, Bool.false_and, Bool.and_self,
    Bool.false_eq_true, if_false, if_true]

end coolant

/-! ### Monitors, rewax and plans -/

/-- A monitor's sample is converted and recorded, and shows whether it has drifted (R471, R472, R474). -/
theorem execPdmSample_of_lit {s : State} {x : Site} {m : Bool} {raw : W16} (hstep : s.pwr.step = .released)
    (hlit : s.isDark (fieldOf (Site.idx x)) = false) (hsite : s.siteState (Site.idx x) ≠ .retired) {d : W16}
    (hd : d = Config.pdmConvert (Site.idx x) m raw (s.field (fieldOf (Site.idx x))).volt
      ((List.range 16).map (fun k => (Tab.get {} (s.field (fieldOf (Site.idx x))).sensor k : Sense).temp))) {u : State}
    (hu : u = s.modClu (Site.idx x) (fun c => if m = true then { c with pdm1 := { c.pdm1 with sample := c.pdm1.sample + 1, delay := d } }
      else { c with pdm0 := { c.pdm0 with sample := c.pdm0.sample + 1, delay := d } })) {p : Pdm}
    (hp : p = (if m = true then (u.clu (Site.idx x)).pdm1 else (u.clu (Site.idx x)).pdm0)) :
    execPdmSample x m raw s = .next { u with thm := { u.thm with drift := u.thm.drift || decide (p.ref.toNat + 32 ≤ p.delay.toNat) } } := by
  subst hd hu hp
  have hsampled : (!s.released || s.isDark (fieldOf (Site.idx x)) || s.siteState (Site.idx x) == .retired) = false := by
    rw [released_eq hstep, hlit]; simp [hsite]
  simp only [execPdmSample, hsampled, Bool.false_eq_true, if_false]
  rfl

/-- The thermal model learns from an hour at 0.15 kW or more (R473). -/
theorem execThermalModelUpdate_of_loaded {s : State} {fld : FieldIx} {w : Nat} (hstep : s.pwr.step = .released)
    (hlit : s.isDark fld.val = false) (hw : 150 ≤ w) : execThermalModelUpdate fld w s =
      .next (s.modField fld.val (fun x => { x with rf := Config.thermalLearn fld.val x.rf w })) := by
  simp [execThermalModelUpdate, released_eq hstep, hlit, Nat.not_lt.2 hw]

/-- REWAX runs for drift, or by its schedule (R474). -/
theorem execRewax_of_ready {s : State} (h : s.ready = true) : execRewax s = .next (if s.thm.drift = true then s.rewaxAll 1
    else if s.thm.rewaxHours + s.rewaxInterval ≤ s.mgmt.hours.toNat then s.rewaxAll 0 else s) := by
  simp only [execRewax, h, Bool.not_true, Bool.false_eq_true, if_false, apply_ite Host.Outcome.next]

/-- A field applies its plan at once without a frame-bound program, or after a slot start of one (R477). -/
theorem execPlanApply_of_released {s : State} {fld : FieldIx} (hstep : s.pwr.step = .released) : execPlanApply fld s = .next (
    if s.framed fld.val = [] ∨ (∃ c ∈ s.framed fld.val, s.slotSince c (s.field fld.val).planAt = true) then s.beginPlan fld.val else s) := by
  simp only [execPlanApply, released_eq hstep, Bool.true_and, Bool.or_eq_true, List.isEmpty_iff, List.any_eq_true,
    apply_ite Host.Outcome.next]

section beginPlan
variable {s : State} {k : Nat}

/-- A dark field, one that applies a plan and one that stands at its plan do not begin to apply one (R477). -/
theorem beginPlan_of_done (h : s.isDark k = true ∨ (s.field k).applying = true ∨ (s.field k).atPlan = true) : s.beginPlan k = s :=
  if_pos (by simpa [or_assoc] using h)

/-- A field begins with its voltage where that rises, else with its first step (R477). -/
theorem beginPlan_of_plan {t : State} (ht : t = s.modField k (fun x => { x with applying := true })) {p : Plan} (hlit : s.isDark k = false)
    (hnew : (s.field k).applying = false) (haway : (s.field k).atPlan = false) (hplan : (t.field k).plan = some p) :
    s.beginPlan k = (if (t.field k).volt < p.volt then t else t.planStep k).endPlan k := by
  subst ht
  simp only [State.beginPlan, hlit, hnew, haway, Bool.or_self, Bool.false_eq_true, if_false, hplan]

end beginPlan

theorem execVoltageStep_of_applying {s : State} {fld : FieldIx} (hstep : s.pwr.step = .released) (hlit : s.isDark fld.val = false)
    (happly : (s.field fld.val).applying = true) : execVoltageStep fld s = .next ((s.planStep fld.val).endPlan fld.val) := by
  simp [execVoltageStep, released_eq hstep, hlit, happly]

section towards
variable {x : FieldSt} {p : Plan} (h : x.plan = some p)
include h

/-- The voltage rises first (R477). -/
theorem towards_of_low (hv : x.volt < p.volt) : x.towards = { x with volt := min p.volt (x.volt + 5) } := by
  simp only [FieldSt.towards, h, if_pos hv]

/-- Then the bin changes (R477). -/
theorem towards_of_bin (hv : p.volt ≤ x.volt) (hbin : x.bin ≠ p.bin) : x.towards = { x with bin := p.bin } := by
  simp only [FieldSt.towards, h, if_neg (Nat.not_lt.2 hv), if_pos hbin]

/-- The voltage falls once the bin is the plan's and the clock has come down to it (R477). -/
theorem towards_of_high (hv : p.volt < x.volt) (hbin : x.bin = p.bin) (hclock : x.cclk ≤ p.bin) :
    x.towards = { x with volt := max p.volt (x.volt - 5) } := by
  simp only [FieldSt.towards, h, if_neg (Nat.not_lt.2 hv.le), if_neg (not_not_intro hbin), if_pos (And.intro hv hclock)]

end towards

/-- The powered hours only rise, and are kept while the logic side is on (R506). -/
theorem execHoursUpdate_of_on {s : State} {h : W32} (hon : s.logicOn = true) (hle : s.mgmt.hours ≤ h) :
    execHoursUpdate h s = .next { s with mgmt := { s.mgmt with hours := h } } :=
  if_pos (by simp [hon, hle])

/-- Settles O47: readings, cooling, rewax and plans, each command against its guard. -/
theorem sensorsCoolingAndAgeingAct : Obligations.SensorsCoolingAndAgeingAct := by
  refine ⟨fun s u l hon hu => ⟨execSensorSample_of_quiet hon hu, fun x t => execSensorSample_of_trip hon hu⟩,
    fun x now v => sample_of_inRange x now, fun x now v => sample_of_outOfRange x now, fun x now => rfl, fun m x e l => record_of_cons x,
    fun x now t hmany hheld => ⟨judge_of_hot now hmany hheld, judge_of_cooled⟩, fun x now => judge_of_few now,
    fun s fld x hstep hlit hx => ⟨execSnowploughStep_of_hot hstep hlit hx, fun t => execSnowploughStep_of_cool hstep hlit hx⟩,
    fun s i o fl t hoff hstandby => ⟨fun hout ht => ?outside, execCoolantSample_of_within hoff hstandby⟩, ?monitor,
    fun s fld w => execThermalModelUpdate_of_loaded, fun s hready => ?rewax, fun s f hpf hbusy => ⟨fun harg => ?rewaxNow, fun harg => ?rewaxBad⟩,
    fun s fld hstep => ?planApply, fun s t k ht => ⟨beginPlan_of_done, fun p => beginPlan_of_plan ht⟩,
    fun s fld => execVoltageStep_of_applying, fun x p h => ⟨towards_of_low h, towards_of_bin h, towards_of_high h⟩,
    fun s h => execHoursUpdate_of_on⟩
  case outside =>
    have hexec : exec (.coolantSample i o fl) s = _ := execCoolantSample_of_outside hoff hstandby hout ht
    exact ⟨fun halarm htime => hexec.trans (congrArg _ (if_pos ⟨htime, halarm⟩)),
      fun hearly => hexec.trans (congrArg _ (if_neg (fun hdue => Nat.not_le.2 hearly hdue.1)))⟩
  case monitor =>
    rintro s u x m d raw i p hstep rfl hlit hsite hd hu hp
    exact execPdmSample_of_lit hstep hlit hsite hd hu hp
  case rewax =>
    have hexec : exec .rewax s = _ := execRewax_of_ready hready
    refine ⟨fun hdrift => ?_, fun hsteady hdue => ?_, fun hsteady hearly => ?_⟩
    · rw [hexec, if_pos hdrift]
    · rw [hexec, if_neg (Bool.eq_false_iff.1 hsteady), if_pos hdue]
    · rw [hexec, if_neg (Bool.eq_false_iff.1 hsteady), if_neg (Nat.not_le.2 hearly)]
  case rewaxNow => exact congrArg _ (mboxCommand_of_ok hpf hbusy (beq_iff_eq.2 harg))
  case rewaxBad => exact congrArg _ (mboxCommand_of_bad hpf hbusy (beq_eq_false_iff_ne.2 harg))
  case planApply =>
    have hexec : exec (.planApply fld) s = _ := execPlanApply_of_released hstep
    refine ⟨fun hstart => hexec.trans (congrArg _ (if_pos hstart)), fun hframed hwait => hexec.trans (congrArg _ (if_neg ?_))⟩
    rintro (hnone | ⟨c, hc, hslot⟩)
    · exact hframed hnone
    · rw [hwait c hc] at hslot
      exact Bool.false_ne_true hslot

end Sys2Proof.Machine

/-! ## Images

The checks of R483 in their order, STAGE and CANCEL by the mailbox's guard (R487, R499), and the two commands of recovery (R489). -/
namespace Sys2Proof.Machine

/-! ### The checks -/

/-- The header of an image is sound (R482, R483). -/
def headerSound (img : List W8) : Prop :=
  imgField img 0 4 = 0x57465753 ∧ bodyLimit (imgType img) ≠ 0 ∧ imgBodyLen img ≤ bodyLimit (imgType img) ∧
    img.length = 17120 + imgBodyLen img ∧ zeroAt img 6 2 = true ∧ zeroAt img 14 2 = true ∧ zeroAt img 20 12 = true

section checks
variable (s : State) {img : List W8}

/-- Another magic number or a type that is not listed is cause 1 (R483). -/
theorem imageCause_of_badHeader (h : imgField img 0 4 ≠ 0x57465753 ∨ bodyLimit (imgType img) = 0) : s.imageCause img = 1 :=
  if_pos (h.imp id .inl)

/-- With a sound header the cause is that of the first check that fails (R483, R485). -/
theorem imageCause_of_headerSound (h : headerSound img) : s.imageCause img =
    (if 3 < imgSlot img ∨ s.sec.revoked.getLsbD (imgSlot img) = true ∨ Config.sha384 (imgKeys img) ≠ Config.slotDigest (imgSlot img) then 2
     else if s.sec.rpfOk = false ∨ imgSvn img < s.svnCounter (imgType img) then 3
     else if BitVec.ofNat 384 (imgField img 32 48) ≠ Config.sha384 (imgBody img) then 4
     else if Config.rsaVerify ((img.drop 128).take 384) (imgSigned img) ((img.drop 512).take 384) = false then 5
     else if Config.slhVerify ((img.drop 80).take 48) (imgSigned img) ((img.drop 896).take 16224) = false then 6
     else 0) := by
  obtain ⟨hmagic, htype, hlimit, hlength, hsix, hfourteen, htwenty⟩ := h
  have hsound : ¬ (imgField img 0 4 ≠ 0x57465753 ∨ bodyLimit (imgType img) = 0 ∨ bodyLimit (imgType img) < imgBodyLen img ∨
      img.length ≠ 17120 + imgBodyLen img ∨ (!(zeroAt img 6 2 && zeroAt img 14 2 && zeroAt img 20 12)) = true) := by
    simp [hmagic, htype, Nat.not_lt.2 hlimit, hlength, hsix, hfourteen, htwenty]
  rw [State.imageCause, if_neg hsound]
  simp only [Bool.not_eq_true']

/-- A key slot that does not exist or is revoked is cause 2 (R483, R484). -/
theorem imageCause_of_badSlot (h : headerSound img) (hslot : 3 < imgSlot img ∨ s.sec.revoked.getLsbD (imgSlot img) = true) :
    s.imageCause img = 2 :=
  (imageCause_of_headerSound s h).trans (if_pos (hslot.imp id .inl))

end checks

/-! ### STAGE and CANCEL -/

section mailbox
variable {s : State} {f : Func} (hpf : s.reachesPF f.val = true) (hbusy : s.sec.mbox.busy = false)
include hpf hbusy

/-- The SEC mailbox takes a command of a physical function while it is not busy (R499). -/
theorem secTakes : (!s.reachesPF f.val || s.sec.mbox.busy) = false := by
  rw [hpf, hbusy]; rfl

/-- CANCEL of a listed type takes its pending mark away (R487). -/
theorem execCancel_of_takes (ty : Fin 16) : execCancel f ty s = .next (if bodyLimit ty.val = 0 then s.secDone 2 ty.val 0x0102
    else (s.modBanks ty.val (fun k => { k with pending := none })).secDone 2 ty.val 0x0000) := by
  simp only [execCancel, secTakes hpf hbusy, Bool.false_eq_true, if_false]
  exact (apply_ite Host.Outcome.next _ _ _).symm

theorem execStage_of_unowned (howns : s.owns f.val s.sec.addr.toNat s.sec.len.toNat = false) :
    execStage f s = .next (s.secDone 1 s.heldType 0x0102) := by
  simp only [execStage, secTakes hpf hbusy, howns, Bool.not_false, Bool.false_eq_true, if_false, if_true, stIllegal]

variable (howns : s.owns f.val s.sec.addr.toNat s.sec.len.toNat = true)
include howns

/-- Uncorrectable lines are counted and end STAGE (R262, R487). -/
theorem execStage_of_badLines {x : Nat} {l : List Nat} (hread : s.badRead none s.sec.addr.toNat s.sec.len.toNat = x :: l) :
    execStage f s = .next
      (((s.demand none s.sec.addr.toNat s.sec.len.toNat false none).memUEs 2 (x :: l)).secDone 1 s.heldType 0x0102) := by
  simp only [execStage, secTakes hpf hbusy, howns, hread, Bool.not_true, List.isEmpty_cons, Bool.not_false, Bool.false_eq_true, if_false,
    if_true, stIllegal]

/-- An image that can be read is checked, and rejected or written to the bank that is not active (R487). -/
theorem execStage_of_read {u : State} {img : List W8} (hread : s.badRead none s.sec.addr.toNat s.sec.len.toNat = [])
    (himg : img = s.devRead none s.sec.addr.toNat s.sec.len.toNat) (hu : u = s.demand none s.sec.addr.toNat s.sec.len.toNat false none) :
    execStage f s = .next (if s.imageCause img ≠ 0 then (u.rejectImage 0 (s.imageCause img) (imgType img) img).secDone 1 s.heldType 0x8010
      else (u.modBanks (imgType img) (fun k => if k.active = true then { k with a := some img, pending := some false }
        else { k with b := img, pending := some true })).secDone 1 s.heldType 0x0000) := by
  subst himg hu
  simp only [execStage, secTakes hpf hbusy, howns, hread, Bool.not_true, List.isEmpty_nil, Bool.false_eq_true, if_false, stRejected, stOk]
  exact (apply_ite Host.Outcome.next _ _ _).symm

end mailbox

/-- The listed types are 1, 2 and 3 (R481). -/
theorem bodyLimit_eq_zero_iff (ty : Nat) : bodyLimit ty = 0 ↔ ty = 0 ∨ 3 < ty := by
  unfold bodyLimit
  split
  · omega
  · split
    · omega
    · split <;> omega

/-! ### Recovery -/

section recovery
variable {s : State} (hrec : s.sec.recovery = true) (hi3c : s.mgmt.i3c.isSome = true)
include hrec hi3c

theorem inRecovery_eq : s.inRecovery = true := by
  rw [State.inRecovery, hrec, hi3c]; rfl

/-- RESTORE_RPF restores the partition whose digest is the LSE's own (R485, R489). -/
theorem execRestoreRpf_of_three (hrpf : s.sec.rpfOk = false) (a b c : W32) (n : W64) {t : Tab (Option W32)}
    (ht : t = [(1, some a), (2, some b), (3, some c)]) : execRestoreRpf [a, b, c] n s =
      .next (if Config.sha384 (rpfBytes t n) = s.sec.ownDigest then
        { s with sec := { s.sec.writeRpf t n with rpfOk := true, recovery := false } } else s) := by
  have hserved : (!s.inRecovery || s.sec.rpfOk || decide ([a, b, c].length ≠ 3)) = false := by
    rw [inRecovery_eq hrec hi3c, hrpf]; rfl
  subst ht
  refine (if_neg (ne_true_of_eq_false hserved)).trans ?_
  rw [ite_not]
  exact (apply_ite Host.Outcome.next _ _ _).symm

/-- RECOVERY_IMAGE installs an LMC image that passes, and rejects any other (R489). -/
theorem execRecoveryImage_of_recovery {u : State} {img : List W8} {c : Nat}
    (hc : c = (if s.imageCause img = 0 ∧ imgType img ≠ 1 then 1 else s.imageCause img))
    (hu : u = s.modBanks 1 (fun k => { k with a := some img, active := false, pending := if k.pending = some false then none else k.pending })) :
    execRecoveryImage img s =
      .next (if c ≠ 0 then s.rejectImage 2 c (imgType img) img else { u with sec := { u.sec with recovery := false } }) := by
  subst hc hu
  simp only [execRecoveryImage, inRecovery_eq hrec hi3c, Bool.not_true, Bool.false_eq_true, if_false]
  exact (apply_ite Host.Outcome.next _ _ _).symm

end recovery

/-- Settles O48: STAGE by what it can read, an image by the first check that it fails, and the commands by their guards. -/
theorem imagesAreCheckedStagedAndRecovered : Obligations.ImagesAreCheckedStagedAndRecovered := by
  refine ⟨fun s u f img hpf hbusy howns => execStage_of_read hpf hbusy howns,
    fun s f x l hpf hbusy howns => execStage_of_badLines hpf hbusy howns,
    fun s f => execStage_of_unowned, fun s img => ⟨imageCause_of_badHeader s, ?sound⟩, fun s f ty hpf hbusy => ?cancel,
    fun s a b c n t hrec hi3c hrpf => execRestoreRpf_of_three hrec hi3c hrpf a b c n,
    fun s u img c hrec hi3c => execRecoveryImage_of_recovery hrec hi3c⟩
  case sound =>
    intro hmagic htype hlimit hlength hsix hfourteen htwenty
    have hsound : headerSound img := ⟨hmagic, htype, hlimit, hlength, hsix, hfourteen, htwenty⟩
    exact ⟨imageCause_of_badSlot s hsound, imageCause_of_headerSound s hsound⟩
  case cancel =>
    have hexec := execCancel_of_takes hpf hbusy ty
    refine ⟨fun hlisted => hexec.trans (congrArg _ (if_neg ?_)), fun hother => hexec.trans (congrArg _ (if_pos ?_))⟩
    · rw [bodyLimit_eq_zero_iff]; omega
    · exact (bodyLimit_eq_zero_iff ty.val).2 hother

end Sys2Proof.Machine

/-! ## The SPDM responder and the LSE

What each request is answered by how far negotiation has come, and how the LSE takes and gives what it signs (R490 to R498). -/
namespace Sys2Proof.Machine

/-! ### Requests before and after negotiation -/

section negotiation
variable {s : State} {c : Conn} (hup : s.spdmUp c = true)
include hup

theorem execGetVersion_of_up : execGetVersion c s =
    .next ((s.modSpdm (connKey c) (fun _ => { version := true })).emit (.spdm (connKey c) (.version 0x13))) :=
  if_pos hup

/-- GET_CAPABILITIES needs the version (R494). -/
theorem execGetCapabilities_of_up : execGetCapabilities c s = .next (if (s.spdm (connKey c)).version = true then
    (s.modSpdm (connKey c) (fun x => { x with caps := true })).emit (.spdm (connKey c) (.capabilities true true true))
    else s.emit (.spdm (connKey c) .unexpectedRequest)) := by
  simp only [execGetCapabilities, hup, Bool.not_true, Bool.false_eq_true, if_false]
  exact (apply_ite Host.Outcome.next _ _ _).symm

/-- NEGOTIATE_ALGORITHMS needs the capabilities (R494). -/
theorem execNegotiateAlgorithms_of_up : execNegotiateAlgorithms c s = .next (if (s.spdm (connKey c)).caps = true then
    (s.modSpdm (connKey c) (fun x => { x with algs := true })).emit (.spdm (connKey c) (.algorithms true true))
    else s.emit (.spdm (connKey c) .unexpectedRequest)) := by
  simp only [execNegotiateAlgorithms, hup, Bool.not_true, Bool.false_eq_true, if_false]
  exact (apply_ite Host.Outcome.next _ _ _).symm

/-- Before the algorithms are agreed every other request is unexpected (R494). -/
theorem negotiated_of_early (halgs : (s.spdm (connKey c)).algs = false) (f : State → State) :
    s.negotiated c f = s.emit (.spdm (connKey c) .unexpectedRequest) := by
  simp [State.negotiated, hup, halgs, State.reply]

/-- Once the algorithms are agreed a request is served (R494). -/
theorem negotiated_of_agreed (halgs : (s.spdm (connKey c)).algs = true) (f : State → State) : s.negotiated c f = f s := by
  simp [State.negotiated, hup, halgs]

end negotiation

/-! ### Requests that are served -/

/-- What is signed or waits is an answer that is held for a connection (R498). -/
def Signing.heldFor (k : Nat) : Signing → Bool
  | .answer n _ h => n == k && h
  | _ => false

theorem Signing.heldFor_iff {k : Nat} {x : Signing} : x.heldFor k = true ↔ ∃ r, x = .answer k r true := by
  cases x with
  | answer n r h => cases h <;> simp [Signing.heldFor]
  | _ => simp [Signing.heldFor]

/-- An answer that is held for a connection waits, or is being signed. -/
theorem any_heldFor_iff (x : Sec) (k : Nat) : (x.waiting.any (Signing.heldFor k) || x.signing.any (Signing.heldFor k)) = true ↔
    ∃ r, Signing.answer k r true ∈ x.waiting ∨ x.signing = some (.answer k r true) := by
  simp only [Bool.or_eq_true, List.any_eq_true, Option.any_eq_true, Signing.heldFor_iff]
  constructor
  · rintro (⟨y, hy, r, rfl⟩ | ⟨y, hy, r, rfl⟩)
    · exact ⟨r, .inl hy⟩
    · exact ⟨r, .inr hy⟩
  · rintro ⟨r, h | h⟩
    · exact .inl ⟨_, h, r, rfl⟩
    · exact .inr ⟨_, h, r, rfl⟩

/-- Operations 0 to 8 and 0xFF are those of GET_MEASUREMENTS (R493). -/
theorem not_badOperation {op : W8} (h : op.toNat ≤ 8 ∨ op = 0xFF) : ¬ (8 < op.toNat ∧ op ≠ 0xFF) :=
  fun ⟨hbig, hne⟩ => h.elim (Nat.not_le.2 hbig) hne

section served
variable {s : State} {c : Conn} (hup : s.spdmUp c = true) (halgs : (s.spdm (connKey c)).algs = true)
include hup halgs

/-- CHALLENGE of slot 0 alone is signed (R494). -/
theorem execChallenge_of_agreed (slot : W8) (nonce : List W8) : execChallenge c slot nonce s = .next (if slot ≠ 0 then
    s.emit (.spdm (connKey c) .invalidRequest) else s.askSigned c (.challenge nonce)) :=
  congrArg _ (negotiated_of_agreed hup halgs _)

/-- GET_MEASUREMENTS by its operation and whether it asks for a signature (R493). -/
theorem execGetMeasurements_of_agreed (op : W8) (b : Bool) (nonce : List W8) : execGetMeasurements c op b nonce s = .next (
    if 8 < op.toNat ∧ op ≠ 0xFF then s.emit (.spdm (connKey c) .invalidRequest)
    else if b = true then s.askSigned c (.measurements op nonce)
    else { s with free := s.free + 4 }.emit (.spdm (connKey c)
      (if op = 0 then .measurementCount 8 none else .measurements (s.blocks op) none))) :=
  congrArg _ (negotiated_of_agreed hup halgs _)

/-- RESPOND_IF_READY gives the held answer (R498). -/
theorem execRespondIfReady_of_held {a : SpdmAnswer} (h : (s.spdm (connKey c)).held = some a) : execRespondIfReady c s =
    .next ((s.modSpdm (connKey c) (fun x => { x with held := none })).emit (.spdm (connKey c) a)) := by
  refine congrArg _ ((negotiated_of_agreed hup halgs _).trans ?_)
  simp only [h, State.reply]

/-- Without a held answer, RESPOND_IF_READY is early where one is to come, and unexpected otherwise (R498). -/
theorem execRespondIfReady_of_none (h : (s.spdm (connKey c)).held = none) : execRespondIfReady c s =
    .next (if (s.sec.waiting.any (Signing.heldFor (connKey c)) || s.sec.signing.any (Signing.heldFor (connKey c))) = true then
      s.emit (.spdm (connKey c) (.notReady 20 1)) else s.emit (.spdm (connKey c) .unexpectedRequest)) := by
  refine congrArg _ ((negotiated_of_agreed hup halgs _).trans ?_)
  simp only [h]
  rfl

end served

/-! ### Signing -/

/-- A request to be signed starts a free LSE, and otherwise waits with the requester told to ask again (R492, R498). -/
theorem askSigned_cases {s u : State} (c : Conn) (r : SignReq) (hu : u = s.modSpdm (connKey c) (fun x => { x with held := none })) :
    (s.sec.signing = none → s.askSigned c r = { u with sec := { u.sec with signing := some (.answer (connKey c) r false) } }) ∧
    (∀ x, s.sec.signing = some x → s.askSigned c r = ({ u with sec := { u.sec with
      waiting := u.sec.waiting.filter (Signing.notOf (connKey c)) ++ [Signing.answer (connKey c) r true] } }).emit
        (.spdm (connKey c) (.notReady 20 1))) := by
  have hsigning : u.sec.signing = s.sec.signing := by rw [hu]; rfl
  subst hu
  refine ⟨fun hfree => if_pos ?_, fun x hbusy => if_neg ?_⟩
  · rw [hsigning, hfree]; rfl
  · rw [hsigning, hbusy]; simp

theorem execSigningDone_of_signing {s : State} {x : Signing} (h : s.sec.signing = some x) :
    execSigningDone s = .next { s.signed x with sec := (s.signed x).sec.takeNext } := by
  simp only [execSigningDone, h]

/-- A record that has been signed is answered to no one (R491). -/
theorem signed_of_isRecord (s : State) {x : Signing} (h : x.isRecord = true) : s.signed x = s := by
  cases x with
  | answer c r hold => simp [Signing.isRecord] at h
  | _ => rfl

section takeNext
variable {x : Sec}

/-- A record is signed before any request (R492). -/
theorem takeNext_of_record {r : Signing} (h : x.waiting.find? Signing.isRecord = some r) :
    x.takeNext = { x with signing := some r, waiting := x.waiting.erase r } := by
  simp only [Sec.takeNext, h]

/-- Without a record the request that has waited longest is signed (R492). -/
theorem takeNext_of_requests {r : Signing} {l : List Signing} (hl : x.waiting = r :: l) (h : ∀ y ∈ x.waiting, y.isRecord = false) :
    x.takeNext = { x with signing := some r, waiting := l } := by
  have hnone : x.waiting.find? Signing.isRecord = none := List.find?_eq_none.2 (fun y hy => by simp [h y hy])
  rw [hl] at hnone
  simp only [Sec.takeNext, hl, hnone]

theorem takeNext_of_empty (h : x.waiting = []) : x.takeNext = { x with signing := none } := by
  simp only [Sec.takeNext, h, List.find?_nil]

end takeNext

/-- Settles O49: each request by how far negotiation has come, and the LSE by what it signs and what waits. -/
theorem theLseAnswersAndSigns : Obligations.TheLseAnswersAndSigns := by
  refine ⟨?negotiation, ?served, ?ask, fun s x => execSigningDone_of_signing, fun s k r => ⟨rfl, rfl⟩,
    fun s x => signed_of_isRecord s, fun x => ⟨fun r => takeNext_of_record, fun r l => takeNext_of_requests, takeNext_of_empty⟩⟩
  case negotiation =>
    rintro s c k hup rfl
    refine ⟨execGetVersion_of_up hup, fun h => ?_, fun h => ?_, fun h => ?_, fun h => ?_, fun halgs x hx => ?early⟩
    · exact (execGetCapabilities_of_up hup).trans (congrArg _ (if_pos h))
    · exact (execGetCapabilities_of_up hup).trans (congrArg _ (if_neg (by simp [h])))
    · exact (execNegotiateAlgorithms_of_up hup).trans (congrArg _ (if_pos h))
    · exact (execNegotiateAlgorithms_of_up hup).trans (congrArg _ (if_neg (by simp [h])))
    case early =>
      rcases hx with rfl | rfl | rfl | ⟨slot, off, len, rfl⟩ | ⟨slot, nonce, rfl⟩ | ⟨op, b, nonce, rfl⟩ | ⟨nonce, rfl⟩ <;>
        exact congrArg _ (negotiated_of_early hup halgs _)
  case served =>
    rintro s c k hup rfl halgs
    refine ⟨congrArg _ (negotiated_of_agreed hup halgs _), congrArg _ (negotiated_of_agreed hup halgs _), fun slot off len => ?certificate,
      fun slot nonce hslot => ?slot, fun nonce => ?challenge, fun op nonce hop => ?signed, fun op nonce hop hne => ?unsigned,
      fun nonce => ?count, fun op b nonce hlow hne => ?bad, fun hheld => ⟨fun r hr => ?waits, fun hno => ?nothing⟩,
      fun nonce => congrArg _ (negotiated_of_agreed hup halgs _), fun a => execRespondIfReady_of_held hup halgs⟩
    case certificate =>
      refine congrArg _ ((negotiated_of_agreed hup halgs _).trans ?_)
      exact (apply_ite (fun a => s.emit (.spdm (connKey c) a)) _ _ _).symm
    case slot => exact (execChallenge_of_agreed hup halgs slot nonce).trans (congrArg _ (if_pos hslot))
    case challenge => exact (execChallenge_of_agreed hup halgs 0 nonce).trans (congrArg _ (if_neg (by simp)))
    case signed =>
      rw [show exec (.getMeasurements c op true nonce) s = _ from execGetMeasurements_of_agreed hup halgs op true nonce,
        if_neg (not_badOperation hop), if_pos rfl]
    case unsigned =>
      rw [show exec (.getMeasurements c op false nonce) s = _ from execGetMeasurements_of_agreed hup halgs op false nonce,
        if_neg (not_badOperation hop), if_neg Bool.false_ne_true, if_neg hne]
    case count => exact execGetMeasurements_of_agreed hup halgs 0 false nonce
    case bad => exact (execGetMeasurements_of_agreed hup halgs op b nonce).trans (congrArg _ (if_pos ⟨hlow, hne⟩))
    case waits =>
      exact (execRespondIfReady_of_none hup halgs hheld).trans (congrArg _ (if_pos ((any_heldFor_iff s.sec _).2 ⟨r, hr⟩)))
    case nothing =>
      refine (execRespondIfReady_of_none hup halgs hheld).trans (congrArg _ (if_neg (fun hsome => ?_)))
      obtain ⟨r, hr⟩ := (any_heldFor_iff s.sec _).1 hsome
      exact hr.elim (hno r).1 (hno r).2
  case ask =>
    rintro s u c r k rfl hu
    exact askSigned_cases c r hu

end Sys2Proof.Machine
